-- ==== Sys2Proof/Word.lean ====
section
/-! DEFINITION. The word types of the Ospadin 7216: bytes on its links, readings of the Timebase, badges, and the
numbers of stations, zones and slots. -/

namespace Sys2Proof

/-- One byte of a frame. -/
abbrev Byte := BitVec 8

/-- A reading of the Timebase's 32-bit millisecond count (R1). -/
abbrev Time := BitVec 32

/-- The identity of a lock holder: 0 for the control room, 1 to 65534 for crew (R85). -/
abbrev Badge := BitVec 16

/-- A station number, 0 to 7 (R2). -/
abbrev StationId := Fin 8

/-- A zone number within a station, Z0 to Z3 (R152). -/
abbrev ZoneNum := Fin 4

/-- A poll-list slot number, 0 to 15 (R105). -/
abbrev SlotId := Fin 16

end Sys2Proof
end

