-- ==== Sys2Proof/Syntax.lean ====
section
/-! DEFINITION. The commands of the block: one constructor for each row of `spec/opcode_table.json`, with the operands
that the row's rule gives it. Fields of a received frame keep the widths of R196. -/

namespace Sys2Proof

/-- A subset of DRIVE and HEAT: what a holder claims (R85). -/
structure Scope where
  drive : Bool
  heat : Bool
deriving DecidableEq, Repr

/-- One entry of a pointing batch as received (R196). -/
structure BatchEntry where
  station : Byte
  azTarget : BitVec 32
  azSpeed : BitVec 16
  elTarget : BitVec 32
  elSpeed : BitVec 16
deriving DecidableEq, Repr

/-- A telemetry frame as received on a station link: destination (not examined, R198) and payload (R196). -/
structure TelemetryFrame where
  dest : Byte
  az : BitVec 32
  el : BitVec 32
  flags : Byte
  mask : Byte
deriving DecidableEq, Repr

/-- A CABINET_DATA frame: its header addresses and payload, which the supervisor does not read (R44). -/
structure CabinetFrame where
  dest : Byte
  src : Byte
  payload : List Byte
deriving DecidableEq, Repr

/-- One entry of a LOCK_REPORT (R91). -/
structure ReportEntry where
  badge : Badge
  scope : Scope
deriving DecidableEq, Repr

/-- A frame of any kind: header and payload (R195). -/
structure Frame where
  dest : Byte
  src : Byte
  kind : Byte
  payload : List Byte
deriving DecidableEq, Repr

/-- The links on which the supervisor receives. -/
inductive RxLink where
  | upstream
  | station (n : StationId)
  | sensorLine
deriving DecidableEq, Repr

/-- The commands, in the order of the table. A management request carries its tag and its parameter bytes. -/
inductive Instr where
  /-- POWER_ON_RESET (R193): the strap address read, the STORM level sampled, and whether the stored copy fails its
  integrity check for a cause other than an interrupted save. -/
  | powerOnReset (strap : Byte) (storm copyFails : Bool)
  /-- STORM_INPUT_CHANGE (R136): the new level of the input. -/
  | stormInputChange (asserted : Bool)
  /-- POINTING_BATCH (R23). -/
  | pointingBatch (entries : List BatchEntry)
  /-- CABINET_DATA_FROM_UPSTREAM (R44). -/
  | cabinetDataFromUpstream (frame : CabinetFrame)
  /-- TELEMETRY (R15). -/
  | telemetry (n : StationId) (frame : TelemetryFrame)
  /-- LOCK (R88). -/
  | lock (n : StationId) (badge : Badge) (scope : Scope)
  /-- UNLOCK (R89). -/
  | unlock (n : StationId) (badge : Badge) (scope : Scope)
  /-- LOCK_REPORT (R92). -/
  | lockReport (n : StationId) (entries : List ReportEntry)
  /-- CABINET_DATA_FROM_STATION (R41). -/
  | cabinetDataFromStation (n : StationId) (frame : CabinetFrame)
  /-- READING (R113): the frame's source address and its raw value. -/
  | reading (address : Byte) (raw : BitVec 16)
  /-- STATION_FRAME_END (R33). -/
  | stationFrameEnd (n : StationId)
  /-- UPSTREAM_FRAME_END (R39). -/
  | upstreamFrameEnd
  /-- LIVENESS_DEADLINE_EXPIRY (R6). -/
  | livenessDeadlineExpiry (n : StationId)
  /-- FRESHNESS_EXPIRY (R31). -/
  | freshnessExpiry (n : StationId)
  /-- CLEARING_EXPIRY (R99). -/
  | clearingExpiry (n : StationId)
  /-- WARN_EXPIRY (R141). -/
  | warnExpiry (n : StationId)
  /-- STOW_REFRESH_EXPIRY (R142). -/
  | stowRefreshExpiry
  /-- STOW_TIMEOUT_EXPIRY (R146). -/
  | stowTimeoutExpiry (n : StationId)
  /-- HOLD_DOWN_EXPIRY (R132). -/
  | holdDownExpiry
  /-- BLIND_TIMER_EXPIRY (R134). -/
  | blindTimerExpiry
  /-- TRANSACTION_DEADLINE_EXPIRY (R113). -/
  | transactionDeadlineExpiry
  /-- PASS_GAP_EXPIRY (R114). -/
  | passGapExpiry
  /-- SUBSTITUTE_LIFE_EXPIRY (R122). -/
  | substituteLifeExpiry (slot : SlotId)
  /-- PRECIP_HOLD_EXPIRY (R158). -/
  | precipHoldExpiry
  /-- MIN_ON_EXPIRY (R162). -/
  | minOnExpiry (n : StationId) (z : ZoneNum)
  /-- MIN_OFF_EXPIRY (R160). -/
  | minOffExpiry (n : StationId) (z : ZoneNum)
  /-- MISMATCH_DEADLINE_EXPIRY (R166). -/
  | mismatchDeadlineExpiry (n : StationId) (z : ZoneNum)
  /-- SAVE_COMPLETION (R192). -/
  | saveCompletion
  /-- STATUS_READ (R188). -/
  | statusRead (tag : Byte) (params : List Byte)
  /-- STATION_READ (R189). -/
  | stationRead (tag : Byte) (params : List Byte)
  /-- IDENTIFY (R190). -/
  | identify (tag : Byte) (params : List Byte)
  /-- TABLE_READ (R184). -/
  | tableRead (tag : Byte) (params : List Byte)
  /-- TABLE_WRITE (R186). -/
  | tableWrite (tag : Byte) (params : List Byte)
  /-- ENVELOPE_APPLY (R72). -/
  | envelopeApply (tag : Byte) (params : List Byte)
  /-- ENVELOPE_CLEAR_ALL (R77). -/
  | envelopeClearAll (tag : Byte) (params : List Byte)
  /-- LOCKDOWN_SET (R78). -/
  | lockdownSet (tag : Byte) (params : List Byte)
  /-- SETTINGS_SAVE (R191). -/
  | settingsSave (tag : Byte) (params : List Byte)
  /-- STOW_REQUEST (R137). -/
  | stowRequest (tag : Byte) (params : List Byte)
  /-- STOW_RELEASE (R137). -/
  | stowRelease (tag : Byte) (params : List Byte)
  /-- REMOTE_LOCK (R95). -/
  | remoteLock (tag : Byte) (params : List Byte)
  /-- REMOTE_UNLOCK (R96). -/
  | remoteUnlock (tag : Byte) (params : List Byte)
  /-- STATION_RESUME (R83). -/
  | stationResume (tag : Byte) (params : List Byte)
  /-- SCAN_START (R110). -/
  | scanStart (tag : Byte) (params : List Byte)
  /-- SCAN_STOP (R115). -/
  | scanStop (tag : Byte) (params : List Byte)
  /-- SLOT_SUBSTITUTE (R121). -/
  | slotSubstitute (tag : Byte) (params : List Byte)
  /-- SLOT_RESTORE (R123). -/
  | slotRestore (tag : Byte) (params : List Byte)
  /-- FAULT_READ (R174). -/
  | faultRead (tag : Byte) (params : List Byte)
  /-- FAULT_CLEAR (R175). -/
  | faultClear (tag : Byte) (params : List Byte)
  /-- ALERT_ACK (R180). -/
  | alertAck (tag : Byte) (params : List Byte)
  /-- CLIP_LOG_CLEAR (R65). -/
  | clipLogClear (tag : Byte) (params : List Byte)
  /-- ZONE_FAULT_CLEAR (R167). -/
  | zoneFaultClear (tag : Byte) (params : List Byte)
  /-- MELT_MODE_SET (R157). -/
  | meltModeSet (tag : Byte) (params : List Byte)
  /-- WARM_RESET (R194), with the strap address read again. -/
  | warmReset (tag : Byte) (params : List Byte) (strap : Byte)
  /-- RECEIVED_FRAME_FAILING_CHECKS (R197): the link, the bytes the receiver delivered, and whether it found a
  byte-level error. -/
  | receivedFrameFailingChecks (link : RxLink) (bytes : List Byte) (byteError : Bool)
  /-- GOOD_FRAME_OF_UNHANDLED_KIND (R46, R113, R198). -/
  | goodFrameOfUnhandledKind (link : RxLink) (frame : Frame)
  /-- UNKNOWN_REQUEST_CODE (R182). -/
  | unknownRequestCode (tag code : Byte) (params : List Byte)
  /-- MILLISECOND_COUNT_ADVANCE (R1). -/
  | millisecondCountAdvance
deriving DecidableEq, Repr

end Sys2Proof
end

