-- ==== Sys2Proof/Decode.lean ====
section
/-! DEFINITION. The command that a word spells by the bits of `spec/opcode_table.json`. The table gives no row any bits: a
command arrives as a frame (`Sys2Proof/Machine/Frames.lean`), as a level on a pin, or as a timer's expiry. -/

namespace Sys2Proof

/-- No word spells a command: no row of the table has bits. -/
def decodeTableWord (_nbits _w : Nat) : Option Instr := none

end Sys2Proof
end

