-- ==== Sys2Proof/Config.lean ====
section
/-! DEFINITION. What one part fixes for good, and the free values the manual leaves open. -/

namespace Sys2Proof.Config

/-- The part code IDENTIFY reports (R199). -/
def partCode : Nat := 0x7216

/-- The revision code IDENTIFY reports (R199). -/
def revision : Nat := 0x0001

/-- Entries of a station output queue (R33). -/
def stationQueueSize : Nat := 8

/-- Entries of the upstream queue (R39). -/
def upstreamQueueSize : Nat := 32

/-- Occupied entries at which telemetry and cabinet data are no longer appended upstream (R40, R41). -/
def upstreamThreshold : Nat := 28

/-- Records of a holder list (R85). -/
def holderListSize : Nat := 6

/-- Values of an anemometer ring (R125). -/
def ringSize : Nat := 32

/-- Most recent ring values that make the gust (R125). -/
def gustWindow : Nat := 8

/-- The strap address of the part that `State.reset` describes. DESIGN CHOICE (log entry 4), unsafe: R190 says only that
the address is read from the strap pins, and the node addresses of the supervisor are 0x10 to 0x7F. -/
def resetStrapAddress : Byte := 0x10

/-- A byte of a FAULT_READ response that the manual gives no meaning (R171): nothing constrains it. The argument is the
model's counter of free values used so far (log entry 6). -/
opaque freeByte : Nat → Byte

end Sys2Proof.Config
end

