-- ==== Sys2Proof/Machine/Table.lean ====
section
/-! DEFINITION. Tables of a fixed number of like records (eight stations, sixteen slots, four levels), with total reads
and writes, and the index lists that rules of ascending order walk. -/

namespace Sys2Proof.Machine

/-- `n` records, numbered from 0. -/
structure Tab (n : Nat) (α : Type) where
  cells : List α
  size : cells.length = n
deriving DecidableEq, Repr

/-- The record at an index. -/
def Tab.get {n : Nat} {α : Type} (t : Tab n α) (i : Fin n) : α :=
  t.cells.get (i.cast t.size.symm)

/-- The table with one record replaced. -/
def Tab.set {n : Nat} {α : Type} (t : Tab n α) (i : Fin n) (a : α) : Tab n α :=
  ⟨t.cells.set i a, by simp [t.size]⟩

/-- The table whose record at `i` is `f i`. -/
def Tab.ofFn {n : Nat} {α : Type} (f : Fin n → α) : Tab n α :=
  ⟨List.ofFn f, by simp⟩

/-- The table that holds one record throughout. -/
def Tab.fill {α : Type} (n : Nat) (a : α) : Tab n α :=
  ⟨List.replicate n a, by simp⟩

/-- The stations in ascending order. -/
def stationIds : List StationId := [0, 1, 2, 3, 4, 5, 6, 7]

/-- The zones of a station in ascending order. -/
def zoneNums : List ZoneNum := [0, 1, 2, 3]

/-- The slots in ascending order. -/
def slotIds : List SlotId := [0, 1, 2, 3, 4, 5, 6, 7, 8, 9, 10, 11, 12, 13, 14, 15]

/-- The fault entries in ascending order (R171). -/
def faultIds : List (Fin 8) := [0, 1, 2, 3, 4, 5, 6, 7]

/-- Every zone of the cluster, by ascending station and within a station by ascending zone (R56). -/
def allZones : List (StationId × ZoneNum) :=
  stationIds.flatMap fun n => zoneNums.map fun z => (n, z)

/-- The index of a zone in the ZONES table: `4 × n + z` (R152). -/
def zoneIndex (n : StationId) (z : ZoneNum) : Fin 32 :=
  ⟨4 * n.val + z.val, by omega⟩

end Sys2Proof.Machine
end

