-- ==== Sys2Proof/Machine/Records.lean ====
section
/-! DEFINITION. The records of the seven tables that management requests read and write (R67, R49, R128, R187, R105,
R152). A yes-or-no byte and an enumerated byte are kept as received (R200) and read through the accessors here. -/

namespace Sys2Proof.Machine

/-- Whether a yes-or-no byte says yes (R199). -/
def isYes (b : Byte) : Bool := b == 1

/-- Whether a byte is a yes-or-no byte at all (R200). -/
def isYesNo (b : Byte) : Bool := b == 0 || b == 1

/-- The azimuth of the stow position: KEEP, or a position (R67). -/
inductive StowAz where
  | keep
  | position (mdeg : Int)
deriving DecidableEq, Repr

/-- One envelope entry (R67). -/
structure Envelope where
  installed : Byte
  azMin : Int
  azMax : Int
  elMin : Int
  elMax : Int
  azRateMax : Nat
  elRateMax : Nat
  holdW : Nat
  kAz : Nat
  kEl : Nat
  stowAz : StowAz
  stowEl : Int
  stowAzRate : Nat
  stowElRate : Nat
  stowTol : Nat
  pinFitted : Byte
  overrunMargin : Nat
deriving DecidableEq, Repr

/-- The BUDGET record (R49). -/
structure Budget where
  capacity : Nat
  reserve : Nat
  meltPriority : Byte
deriving DecidableEq, Repr

/-- One WIND record (R128). A field that R128 does not give to the record's index holds 0. -/
structure WindRecord where
  wf : Nat
  gustOn : Nat
  gustOff : Nat
  gustEnable : Byte
  sustOn : Nat
  sustOff : Nat
  sustEnable : Byte
  holdDown : Nat
  pct : Nat
deriving DecidableEq, Repr

/-- The TIMING record, in milliseconds (R187). -/
structure Timing where
  setpointDeadline : Nat
  linkTimeout : Nat
  clearDelay : Nat
  stowWarn : Nat
  stowRefresh : Nat
  stowTimeout : Nat
  pollTimeout : Nat
  passGap : Nat
  blindTimeout : Nat
  precipHold : Nat
  substituteLife : Nat
  contactorMismatch : Nat
deriving DecidableEq, Repr

/-- The four kinds of sensor (R105). -/
inductive SlotKind where
  | windSpeed
  | airTemp
  | surfaceTemp
  | precip
deriving DecidableEq, Repr

/-- The crossings that raise FREEZE_CROSS (R105, R126). -/
inductive CrossDir where
  | off
  | down
  | up
  | both
deriving DecidableEq, Repr

/-- One slot record of POLL_LIST (R105). -/
structure SlotRecord where
  enabled : Byte
  kind : Byte
  address : Byte
  calM : Nat
  calB : Int
  plausLow : Int
  plausHigh : Int
  station : Byte
  zoneMask : Byte
  crossLevel : Int
  deadband : Int
  crossDir : Byte
deriving DecidableEq, Repr

/-- The kind a kind byte names, if it names one (R105, R199). -/
def slotKindOf (b : Byte) : Option SlotKind :=
  match b.toNat with
  | 0 => some .windSpeed
  | 1 => some .airTemp
  | 2 => some .surfaceTemp
  | 3 => some .precip
  | _ => none

/-- The direction a cross_dir byte names, if it names one (R105, R199). -/
def crossDirOf (b : Byte) : Option CrossDir :=
  match b.toNat with
  | 0 => some .off
  | 1 => some .down
  | 2 => some .up
  | 3 => some .both
  | _ => none

/-- The poll-list header: autostart mode and order (R105). -/
structure PollHeader where
  autostart : Byte
  order : Byte
deriving DecidableEq, Repr

/-- The POLL_LIST table (R105): records 0 to 15 are the slots, record 16 is the header. -/
structure PollList where
  slots : Tab 16 SlotRecord
  header : PollHeader
deriving DecidableEq, Repr

/-- One ZONES record (R152). -/
structure ZoneRecord where
  enabled : Byte
  powerW : Nat
  priority : Nat
  setpoint : Int
  hysteresis : Int
  overtemp : Int
  minOn : Nat
  minOff : Nat
deriving DecidableEq, Repr

/-- The six settings tables that the retained store keeps a copy of (R191). -/
structure Settings where
  active : Tab 8 Envelope
  budget : Budget
  wind : Tab 4 WindRecord
  timing : Timing
  poll : PollList
  zones : Tab 32 ZoneRecord
deriving DecidableEq, Repr

end Sys2Proof.Machine
end

