-- ==== Sys2Proof/Machine/Defaults.lean ====
section
/-! DEFINITION. The default record of each table, loaded at power-on reset when the retained store is INVALID (R193). -/

namespace Sys2Proof.Machine

/-- The default envelope entry (R67). -/
def defaultEnvelope : Envelope where
  installed := 0
  azMin := -270000
  azMax := 270000
  elMin := 5000
  elMax := 90000
  azRateMax := 1000
  elRateMax := 500
  holdW := 1500
  kAz := 1024
  kEl := 1024
  stowAz := .keep
  stowEl := 88000
  stowAzRate := 500
  stowElRate := 300
  stowTol := 200
  pinFitted := 1
  overrunMargin := 500

/-- The default BUDGET record (R49). -/
def defaultBudget : Budget := { capacity := 40000, reserve := 2000, meltPriority := 0 }

/-- The default WIND record of CALM (R128). -/
def defaultCalm : WindRecord where
  wf := 16
  gustOn := 0
  gustOff := 0
  gustEnable := 0
  sustOn := 0
  sustOff := 0
  sustEnable := 0
  holdDown := 0
  pct := 0

/-- The default WIND record of BREEZY (R128). -/
def defaultBreezy : WindRecord where
  wf := 20
  gustOn := 100
  gustOff := 80
  gustEnable := 1
  sustOn := 70
  sustOff := 55
  sustEnable := 0
  holdDown := 60000
  pct := 75

/-- The default WIND record of GUSTY (R128). -/
def defaultGusty : WindRecord where
  wf := 24
  gustOn := 150
  gustOff := 120
  gustEnable := 1
  sustOn := 110
  sustOff := 90
  sustEnable := 0
  holdDown := 120000
  pct := 50

/-- The default WIND record of STOW (R128). -/
def defaultStow : WindRecord where
  wf := 28
  gustOn := 200
  gustOff := 160
  gustEnable := 1
  sustOn := 150
  sustOff := 110
  sustEnable := 1
  holdDown := 600000
  pct := 0

/-- The default WIND table (R128). -/
def defaultWind : Tab 4 WindRecord :=
  ⟨[defaultCalm, defaultBreezy, defaultGusty, defaultStow], rfl⟩

/-- The default TIMING record (R187). -/
def defaultTiming : Timing where
  setpointDeadline := 200
  linkTimeout := 1000
  clearDelay := 15000
  stowWarn := 5000
  stowRefresh := 100
  stowTimeout := 180000
  pollTimeout := 20
  passGap := 250
  blindTimeout := 30000
  precipHold := 1800000
  substituteLife := 60000
  contactorMismatch := 2000

/-- The default slot record (R105). -/
def defaultSlotRecord : SlotRecord where
  enabled := 0
  kind := 0
  address := 1
  calM := 16384
  calB := 0
  plausLow := 0
  plausHigh := 32767
  station := 0
  zoneMask := 0x0F
  crossLevel := 0
  deadband := 50
  crossDir := 1

/-- The default POLL_LIST (R105). -/
def defaultPoll : PollList where
  slots := Tab.fill 16 defaultSlotRecord
  header := { autostart := 0, order := 0 }

/-- The default ZONES record (R152). -/
def defaultZone : ZoneRecord where
  enabled := 0
  powerW := 0
  priority := 0
  setpoint := 200
  hysteresis := 150
  overtemp := 2500
  minOn := 120000
  minOff := 60000

/-- The default settings tables (R193). -/
def defaultSettings : Settings where
  active := Tab.fill 8 defaultEnvelope
  budget := defaultBudget
  wind := defaultWind
  timing := defaultTiming
  poll := defaultPoll
  zones := Tab.fill 32 defaultZone

end Sys2Proof.Machine
end

