-- ==== Sys2Proof/Machine/State.lean ====
section
/-! DEFINITION. The state of the supervisor, as plain data: every field the manual gives a block, the queue of waiting
commands, and the machine right after power-on reset. -/

namespace Sys2Proof.Machine

/-- The faults on which the machine stops: there are none. What the manual calls a fault is a report to the Fault Table
(R171), which is part of the state. -/
inductive Fault : Type
deriving DecidableEq, Repr

/-- The reasons for which the machine gives a command no meaning. -/
inductive Refusal where
  /-- Raised by `exec` for a command that has no meaning yet, with the row's mnemonic: safe, since nothing follows from a
  refused command. Every command of this model has its meaning, so nothing raises it. -/
  | notModelled (mnemonic : String)
deriving DecidableEq, Repr

/-- A timer: the count when it was started and its interval in milliseconds (R1). -/
structure Timer where
  start : Time
  interval : Nat
deriving DecidableEq, Repr

/-- A station link (R4): while UP, the liveness deadline runs, started at the last good frame. -/
inductive Link where
  | down
  | up (deadline : Timer)
deriving DecidableEq, Repr

/-- A holder record: a badge and its scope (R85). -/
structure Holder where
  badge : Badge
  scope : Scope
deriving DecidableEq, Repr

/-- The fault latch of a station (R10). -/
inductive FaultLatch where
  | none
  | overrun
  | driveFault
deriving DecidableEq, Repr

/-- The stow progress of a station (R11). -/
inductive StowProgress where
  | none
  | pending
  | warning
  | moving
  | stowed
deriving DecidableEq, Repr

/-- The demand class of a station (R13). -/
inductive DemandClass where
  | none
  | track
  | stow
deriving DecidableEq, Repr

/-- The demand fields (R13). -/
structure Demand where
  cls : DemandClass
  azSpeed : Nat
  elSpeed : Nat
  azTarget : Int
  elTarget : Int
  watts : Nat
deriving DecidableEq, Repr

/-- Class NONE with every other field 0 (R13). -/
def noDemand : Demand :=
  { cls := .none, azSpeed := 0, elSpeed := 0, azTarget := 0, elTarget := 0, watts := 0 }

/-- The grant fields (R14). -/
structure Grant where
  azSpeed : Nat
  elSpeed : Nat
  watts : Nat
deriving DecidableEq, Repr

/-- The grant of a station that may not move (R14). -/
def noGrant : Grant := { azSpeed := 0, elSpeed := 0, watts := 0 }

/-- The last telemetry record (R15). -/
structure Telemetry where
  az : Int
  el : Int
  energised : Bool
  driveFault : Bool
  pinEngaged : Bool
  contactors : BitVec 4
  time : Time
deriving DecidableEq, Repr

/-- A set of clip causes (R17). -/
structure ClipSet where
  targetClamp : Bool
  rateCap : Bool
  windCap : Bool
  budget : Bool
  heatHeld : Bool
  stale : Bool
  lockout : Bool
  stowOverride : Bool
  stopped : Bool
deriving DecidableEq, Repr

/-- The empty set of clip causes. -/
def noClip : ClipSet where
  targetClamp := false
  rateCap := false
  windCap := false
  budget := false
  heatHeld := false
  stale := false
  lockout := false
  stowOverride := false
  stopped := false

/-- A setpoint: a target and a speed for each axis (R33). -/
structure Setpoint where
  azTarget : Int
  azSpeed : Nat
  elTarget : Int
  elSpeed : Nat
deriving DecidableEq, Repr

/-- The outcome a LOCK_REPLY carries (R90). -/
inductive LockOutcome where
  | taken
  | merged
  | released
  | full
  | notHolder
  | bad
  | standing
deriving DecidableEq, Repr

/-- The contents of a LOCK_REPLY (R90). -/
structure LockReply where
  badge : Badge
  outcome : LockOutcome
  standing : Scope
deriving DecidableEq, Repr

/-- An entry of a station output queue (R33). -/
inductive StationEntry where
  | setpoint (sp : Setpoint)
  | heat
  | horn (on : Bool)
  | pin (inward : Bool)
  | linkUp
  | lockReply (reply : LockReply)
  | cabinetData (frame : CabinetFrame)
deriving DecidableEq, Repr

/-- A frame on its way to a cabinet, as composed at departure (R34). -/
inductive StationFrame where
  | setpoint (sp : Setpoint)
  | heat (mask : BitVec 4)
  | horn (on : Bool)
  | pin (inward : Bool)
  | linkUp (node : Byte)
  | lockReply (reply : LockReply)
  | cabinetData (frame : CabinetFrame)
deriving DecidableEq, Repr

/-- The state of a heater zone (R155). -/
inductive ZoneState where
  | disabled
  | off
  | wait
  | on
  | shed
  | inhibited
  | fault
deriving DecidableEq, Repr

/-- Why a zone is in FAULT (R155). -/
inductive ZoneFaultReason where
  | overtemp
  | contactor
deriving DecidableEq, Repr

/-- The working state of a heater zone (R155). `minOnReached` is set at the min_on expiry and stands until the zone
leaves ON. -/
structure Zone where
  state : ZoneState
  onStart : Option Time
  minOnReached : Bool
  offStart : Option Time
  faultReason : Option ZoneFaultReason
  mismatch : Option Timer
deriving DecidableEq, Repr

/-- A zone after either reset, its heat block taken into account (R155). -/
def resetZone (enabled : Bool) : Zone where
  state := if enabled then .inhibited else .disabled
  onStart := none
  minOnReached := false
  offStart := none
  faultReason := none
  mismatch := none

/-- A station record (R2), with its output queue (R33), its transmitter and its zones (R155). -/
structure Station where
  installed : Bool
  link : Link
  lockReportSeen : Bool
  holders : List Holder
  clearing : Option Timer
  faultLatch : FaultLatch
  progress : StowProgress
  warnTimer : Option Timer
  stowStart : Option Time
  stowTimeout : Option Timer
  freshness : Option Timer
  stale : Bool
  demand : Demand
  grant : Grant
  lastTelemetry : Option Telemetry
  lastSent : Option (Int × Int)
  clipStatus : ClipSet
  clipLog : ClipSet
  queue : List StationEntry
  tx : Option StationFrame
  commandedMask : BitVec 4
  zones : Tab 4 Zone
deriving DecidableEq, Repr

/-- A station record after either reset, for a station whose installed field stands as given (the table of record values
after reset, R3 to R17). -/
def resetStation (installed : Bool) (zones : Tab 4 Zone) : Station where
  installed := installed
  link := .down
  lockReportSeen := false
  holders := []
  clearing := none
  faultLatch := .none
  progress := .none
  warnTimer := none
  stowStart := none
  stowTimeout := none
  freshness := none
  stale := false
  demand := noDemand
  grant := noGrant
  lastTelemetry := none
  lastSent := none
  clipStatus := noClip
  clipLog := noClip
  queue := []
  tx := none
  commandedMask := 0
  zones := zones

/-- The trigger of an allocation (R48). -/
inductive AllocKind where
  | none
  | batch
  | stow
deriving DecidableEq, Repr

/-- The allocation record (R48). -/
structure AllocRecord where
  kind : AllocKind
  time : Time
  members : Nat
  demandW : Nat
  holdW : Nat
  heatW : Nat
  roomW : Nat
  scale : Nat
  shedCount : Nat
  shedW : Nat
  headroomW : Int
deriving DecidableEq, Repr

/-- The allocation record after either reset (R48). -/
def resetAlloc : AllocRecord where
  kind := .none
  time := 0
  members := 0
  demandW := 0
  holdW := 0
  heatW := 0
  roomW := 0
  scale := 1024
  shedCount := 0
  shedW := 0
  headroomW := 0

/-- The state of a poll-list slot (R108). -/
inductive SlotState where
  | idle
  | active
  | outOfService
  | substituted
deriving DecidableEq, Repr

/-- The side of an air-temperature slot (R108). -/
inductive Side where
  | unknown
  | cold
  | warm
deriving DecidableEq, Repr

/-- The working state of a slot (R108). -/
structure Slot where
  state : SlotState
  miss : Nat
  latestRaw : Option Int
  latestValue : Option (Int × Time)
  substitute : Option (Int × Timer)
  ring : List Int
  side : Side
deriving DecidableEq, Repr

/-- A slot after either reset (R108). -/
def resetSlot : Slot where
  state := .idle
  miss := 0
  latestRaw := none
  latestValue := none
  substitute := none
  ring := []
  side := .unknown

/-- The state of the scanner (R109). -/
inductive ScanState where
  | idle
  | polling
  | gap
  | stopping
deriving DecidableEq, Repr

/-- The scan mode (R109). -/
inductive ScanMode where
  | once
  | continuous
deriving DecidableEq, Repr

/-- The pass order (R109). -/
inductive PassOrder where
  | sequential
  | paired
deriving DecidableEq, Repr

/-- A slot whose answer a transaction awaits, with the address it was polled at (R109). -/
structure Awaited where
  slot : SlotId
  address : Byte
  answered : Bool
deriving DecidableEq, Repr

/-- The frame a transaction sent on the sensor line (R111, R112). -/
inductive PollFrame where
  | poll (address : Byte)
  | pollPair (first second : Byte)
deriving DecidableEq, Repr

/-- A transaction in flight on the sensor line (R109). -/
structure Transaction where
  frame : PollFrame
  awaited : List Awaited
  deadline : Timer
deriving DecidableEq, Repr

/-- The scanner (R109). `position` is the next slot, or the next pair, of the pass; `issued` says whether the pass has
issued a transaction (R114). -/
structure Scanner where
  state : ScanState
  mode : ScanMode
  order : PassOrder
  position : Nat
  issued : Bool
  transaction : Option Transaction
  gapTimer : Option Timer
deriving DecidableEq, Repr

/-- The scanner after either reset, before autostart (R109). -/
def resetScanner : Scanner where
  state := .idle
  mode := .once
  order := .sequential
  position := 0
  issued := false
  transaction := none
  gapTimer := none

/-- The wind level (R128). -/
inductive WindLevel where
  | calm
  | breezy
  | gusty
  | stow
deriving DecidableEq, Repr

/-- The stow cause set (R135). -/
structure StowCauses where
  wind : Bool
  stormLine : Bool
  blind : Bool
  manual : Bool
deriving DecidableEq, Repr

/-- The empty stow cause set. -/
def noCauses : StowCauses := { wind := false, stormLine := false, blind := false, manual := false }

/-- The cluster state of the Wind and Stow Controller (R131, R134, R135, R138). -/
structure Wind where
  level : WindLevel
  holdDown : Option Timer
  blindTimer : Option Timer
  causes : StowCauses
  refresh : Option Timer
deriving DecidableEq, Repr

/-- The melt mode (R157). -/
inductive MeltMode where
  | auto
  | forceOn
  | forceOff
deriving DecidableEq, Repr

/-- The cluster state of the Melt Controller (R157, R158). `condition` is the melt condition as last evaluated; `hold` is
the precipitation hold, present while precipitation is recent. -/
structure Melt where
  mode : MeltMode
  condition : Bool
  stamp : Option Time
  hold : Option Timer
deriving DecidableEq, Repr

/-- The melt state after either reset (R157, R158). -/
def resetMelt : Melt := { mode := .auto, condition := false, stamp := none, hold := none }

/-- The source of a fault report (R171). -/
inductive FaultSource where
  | station (n : StationId)
  | slot (i : SlotId)
  | upstream
  | sensorLine
  | cluster
deriving DecidableEq, Repr

/-- The fourteen fault reasons, in the order of their table. -/
inductive FaultReason where
  | sensorLost
  | stowTimeout
  | overrun
  | driveFault
  | contactor
  | overtemp
  | linkLost
  | notHolder
  | lockFull
  | storeInvalid
  | queueFull
  | upstreamFull
  | badFrame
  | blind
deriving DecidableEq, Repr

/-- A valid fault entry (R171). -/
structure FaultEntry where
  seen : Bool
  source : FaultSource
  reason : FaultReason
  firstTime : Time
  lastTime : Time
  repeats : Nat
  detail : BitVec 32
deriving DecidableEq, Repr

/-- The Fault Table: a free entry is `none` (R171). -/
structure FaultTable where
  entries : Tab 8 (Option FaultEntry)
  overflow : Bool
  overflowSeen : Bool
deriving DecidableEq, Repr

/-- The empty Fault Table (R171). -/
def noFaults : FaultTable := { entries := Tab.fill 8 none, overflow := false, overflowSeen := false }

/-- The seven attention causes, by priority (R178). -/
inductive Cause where
  | stowChange
  | lockChange
  | faultNew
  | windLevel
  | freezeCross
  | meltChange
  | storeDone
deriving DecidableEq, Repr

/-- A set of attention causes (R178). -/
structure CauseSet where
  stowChange : Bool
  lockChange : Bool
  faultNew : Bool
  windLevel : Bool
  freezeCross : Bool
  meltChange : Bool
  storeDone : Bool
deriving DecidableEq, Repr

/-- The empty set of attention causes. -/
def noAttention : CauseSet where
  stowChange := false
  lockChange := false
  faultNew := false
  windLevel := false
  freezeCross := false
  meltChange := false
  storeDone := false

/-- The attention unit (R178). -/
structure Attention where
  raised : CauseSet
  latched : Option Cause
deriving DecidableEq, Repr

/-- The response codes (R182). -/
inductive RespCode where
  | done
  | accepted
  | busy
  | badRequest
  | badScope
  | protectedStation
  | lockedDown
  | notSeen
  | notHolder
  | noRoom
  | invalid
  | wrongState
deriving DecidableEq, Repr

/-- The contents of an ALERT, fixed when it is offered (R179). -/
structure Alert where
  cause : Cause
  level : WindLevel
  causes : StowCauses
  faultCount : Nat
deriving DecidableEq, Repr

/-- An entry of the upstream queue (R39). A forwarded frame keeps its header. -/
inductive UpEntry where
  | telemetry (n : StationId) (frame : TelemetryFrame)
  | cabinetData (frame : CabinetFrame)
  | mgmtResp (tag code : Byte) (resp : RespCode) (contents : List Byte)
  | alert (a : Alert)
deriving DecidableEq, Repr

/-- The kind of the last reset (R190). -/
inductive ResetKind where
  | por
  | warm
deriving DecidableEq, Repr

/-- The state of the retained store (R191). -/
inductive StoreState where
  | valid
  | invalid
  | saving
deriving DecidableEq, Repr

/-- The Retained Store (R191): its copy, its state, and whether the copy was left by an interrupted save (R193). -/
structure Store where
  copy : Option Settings
  state : StoreState
  interrupted : Bool
deriving DecidableEq, Repr

/-- A store that was never written (R193). -/
def blankStore : Store := { copy := none, state := .invalid, interrupted := false }

/-- The state of the supervisor. `pending` is the queue of waiting commands and `freeCount` counts the free values used;
both are the model's, not the manual's. -/
structure State where
  now : Time
  nodeAddress : Byte
  lastReset : ResetKind
  warmCount : Nat
  responder : Option (Byte × Byte)
  settings : Settings
  shadow : Tab 8 Envelope
  lockdown : Bool
  store : Store
  stations : Tab 8 Station
  alloc : AllocRecord
  slots : Tab 16 Slot
  scanner : Scanner
  wind : Wind
  stormInput : Bool
  melt : Melt
  faults : FaultTable
  attention : Attention
  upQueue : List UpEntry
  upTx : Option UpEntry
  freeCount : Nat
  pending : List Instr
deriving DecidableEq, Repr

/-- The STORE_INVALID entry of a part whose store was never written (R193). -/
def resetStoreFault : FaultEntry where
  seen := false
  source := .cluster
  reason := .storeInvalid
  firstTime := 0
  lastTime := 0
  repeats := 1
  detail := 0

/-- The machine right after power-on reset, with a store never written, the STORM input deasserted and the strap address
of `Config` (log entry 4): the default tables, STORE_INVALID in fault entry 0, its FAULT_NEW latched and its ALERT in
transmission (R181, R193). -/
def State.reset : State where
  now := 0
  nodeAddress := Config.resetStrapAddress
  lastReset := .por
  warmCount := 0
  responder := none
  settings := defaultSettings
  shadow := Tab.fill 8 defaultEnvelope
  lockdown := false
  store := blankStore
  stations := Tab.fill 8 (resetStation false (Tab.fill 4 (resetZone false)))
  alloc := resetAlloc
  slots := Tab.fill 16 resetSlot
  scanner := resetScanner
  wind := { level := .calm, holdDown := none, blindTimer := some ⟨0, 30000⟩, causes := noCauses, refresh := none }
  stormInput := false
  melt := resetMelt
  faults := { noFaults with entries := noFaults.entries.set 0 (some resetStoreFault) }
  attention := { raised := noAttention, latched := some .faultNew }
  upQueue := []
  upTx := some (.alert { cause := .faultNew, level := .calm, causes := noCauses, faultCount := 1 })
  freeCount := 0
  pending := []

end Sys2Proof.Machine
end

