-- ==== Sys2Proof/Machine/Operands.lean ====
section
/-! DEFINITION. The operand forms of frames and management requests: byte order (most significant byte first, R195),
field encodings (R199), the layouts of table records, and the fields that received frames carry (R196). -/

namespace Sys2Proof.Machine

/-! ### Reading fields -/

/-- The byte at an offset; 0 past the end, which no field of a checked length reaches. -/
def byteAt (bs : List Byte) (i : Nat) : Byte := bs.getD i 0

/-- An unsigned two-byte field (R195). -/
def u16At (bs : List Byte) (i : Nat) : Nat :=
  (byteAt bs i).toNat * 256 + (byteAt bs (i + 1)).toNat

/-- An unsigned four-byte field (R195). -/
def u32At (bs : List Byte) (i : Nat) : Nat :=
  u16At bs i * 65536 + u16At bs (i + 2)

/-- A signed two-byte field (R195). -/
def i16At (bs : List Byte) (i : Nat) : Int := (BitVec.ofNat 16 (u16At bs i)).toInt

/-- A signed four-byte field (R195). -/
def i32At (bs : List Byte) (i : Nat) : Int := (BitVec.ofNat 32 (u32At bs i)).toInt

/-! ### Writing fields -/

/-- A one-byte field. -/
def encU8 (n : Nat) : List Byte := [BitVec.ofNat 8 n]

/-- An unsigned two-byte field. -/
def encU16 (n : Nat) : List Byte := [BitVec.ofNat 8 (n / 256), BitVec.ofNat 8 n]

/-- An unsigned four-byte field. -/
def encU32 (n : Nat) : List Byte := encU16 (n / 65536) ++ encU16 (n % 65536)

/-- A signed two-byte field. -/
def encI16 (v : Int) : List Byte := encU16 (BitVec.ofInt 16 v).toNat

/-- A signed four-byte field. -/
def encI32 (v : Int) : List Byte := encU32 (BitVec.ofInt 32 v).toNat

/-- A yes-or-no field (R199). -/
def encBool (b : Bool) : List Byte := [if b then 1 else 0]

/-- A time (R199). -/
def encTime (t : Time) : List Byte := encU32 t.toNat

/-- An optional field: a presence byte, then the field (R199). -/
def encOpt {α : Type} (enc : α → List Byte) : Option α → List Byte
  | none => [0]
  | some a => 1 :: enc a

/-- A list: its count, then its records (R199). -/
def encList {α : Type} (enc : α → List Byte) (l : List α) : List Byte :=
  encU8 l.length ++ l.flatMap enc

/-- The first check of a list that fails, numbered from 1. -/
def firstFailing (checks : List Bool) : Option Nat :=
  if checks.all id then none else some (checks.findIdx (! ·) + 1)

/-! ### Scopes and telemetry -/

/-- The scope byte's bits 0 and 1; the others are disregarded (R196). -/
def scopeOfByte (b : Byte) : Scope := { drive := b.getLsbD 0, heat := b.getLsbD 1 }

/-- The scope byte: bit 0 DRIVE, bit 1 HEAT (R196). -/
def encScope (sc : Scope) : List Byte :=
  [(if sc.drive then 1 else 0) + (if sc.heat then 2 else 0)]

/-- Whether a scope names nothing. -/
def emptyScope (sc : Scope) : Bool := !sc.drive && !sc.heat

/-- No claim. -/
def noScope : Scope := { drive := false, heat := false }

/-- The union of two scopes (R88). -/
def unionScope (a b : Scope) : Scope := { drive := a.drive || b.drive, heat := a.heat || b.heat }

/-- A scope less the claims of another (R89). -/
def minusScope (a b : Scope) : Scope := { drive := a.drive && !b.drive, heat := a.heat && !b.heat }

/-- The telemetry record of a frame taken at `now` (R15, R196). -/
def telemetryOf (f : TelemetryFrame) (now : Time) : Telemetry where
  az := f.az.toInt
  el := f.el.toInt
  energised := f.flags.getLsbD 0
  driveFault := f.flags.getLsbD 1
  pinEngaged := f.flags.getLsbD 2
  contactors := f.mask.setWidth 4
  time := now

/-! ### Table records (R199) -/

/-- The four-byte encoding that stands for KEEP in stow_az (R199). -/
def keepCode : Int := 0x7FFFFFFF

/-- Bytes of one record of a table, by table code (R199, R201). -/
def recordSize : Nat → Nat
  | 0 | 1 => 44
  | 2 => 9
  | 3 => 16
  | 4 => 48
  | _ => 18

/-- Records of a table, by table code (R184). -/
def tableLength : Nat → Nat
  | 0 | 1 => 8
  | 2 => 1
  | 3 => 4
  | 4 => 1
  | 5 => 17
  | _ => 32

/-- An envelope entry as received (R67, R199). -/
def envelopeOfBytes (b : List Byte) : Envelope where
  installed := byteAt b 0
  azMin := i32At b 1
  azMax := i32At b 5
  elMin := i32At b 9
  elMax := i32At b 13
  azRateMax := u16At b 17
  elRateMax := u16At b 19
  holdW := u16At b 21
  kAz := u16At b 23
  kEl := u16At b 25
  stowAz := if i32At b 27 = keepCode then .keep else .position (i32At b 27)
  stowEl := i32At b 31
  stowAzRate := u16At b 35
  stowElRate := u16At b 37
  stowTol := u16At b 39
  pinFitted := byteAt b 41
  overrunMargin := u16At b 42

/-- The bytes of an envelope entry (R67, R199). -/
def encEnvelope (e : Envelope) : List Byte :=
  [e.installed] ++ encI32 e.azMin ++ encI32 e.azMax ++ encI32 e.elMin ++ encI32 e.elMax
    ++ encU16 e.azRateMax ++ encU16 e.elRateMax ++ encU16 e.holdW ++ encU16 e.kAz ++ encU16 e.kEl
    ++ encI32 (match e.stowAz with | .keep => keepCode | .position p => p)
    ++ encI32 e.stowEl ++ encU16 e.stowAzRate ++ encU16 e.stowElRate ++ encU16 e.stowTol
    ++ [e.pinFitted] ++ encU16 e.overrunMargin

/-- A BUDGET record (R49, R199). -/
def budgetOfBytes (b : List Byte) : Budget where
  capacity := u32At b 0
  reserve := u32At b 4
  meltPriority := byteAt b 8

/-- The bytes of a BUDGET record. -/
def encBudget (r : Budget) : List Byte := encU32 r.capacity ++ encU32 r.reserve ++ [r.meltPriority]

/-- A WIND record for index `i`; a field that R128 does not give to the index is disregarded (R199). -/
def windOfBytes (i : Nat) (b : List Byte) : WindRecord :=
  let higher := i != 0
  { wf := (byteAt b 0).toNat
    gustOn := if higher then u16At b 1 else 0
    gustOff := if higher then u16At b 3 else 0
    gustEnable := if higher then byteAt b 5 else 0
    sustOn := if higher then u16At b 6 else 0
    sustOff := if higher then u16At b 8 else 0
    sustEnable := if higher then byteAt b 10 else 0
    holdDown := if higher then u32At b 11 else 0
    pct := if i = 1 ∨ i = 2 then (byteAt b 15).toNat else 0 }

/-- The bytes of a WIND record. -/
def encWind (r : WindRecord) : List Byte :=
  encU8 r.wf ++ encU16 r.gustOn ++ encU16 r.gustOff ++ [r.gustEnable] ++ encU16 r.sustOn ++ encU16 r.sustOff
    ++ [r.sustEnable] ++ encU32 r.holdDown ++ encU8 r.pct

/-- A TIMING record (R187, R199). -/
def timingOfBytes (b : List Byte) : Timing where
  setpointDeadline := u32At b 0
  linkTimeout := u32At b 4
  clearDelay := u32At b 8
  stowWarn := u32At b 12
  stowRefresh := u32At b 16
  stowTimeout := u32At b 20
  pollTimeout := u32At b 24
  passGap := u32At b 28
  blindTimeout := u32At b 32
  precipHold := u32At b 36
  substituteLife := u32At b 40
  contactorMismatch := u32At b 44

/-- The bytes of a TIMING record. -/
def encTiming (r : Timing) : List Byte :=
  encU32 r.setpointDeadline ++ encU32 r.linkTimeout ++ encU32 r.clearDelay ++ encU32 r.stowWarn ++ encU32 r.stowRefresh
    ++ encU32 r.stowTimeout ++ encU32 r.pollTimeout ++ encU32 r.passGap ++ encU32 r.blindTimeout ++ encU32 r.precipHold
    ++ encU32 r.substituteLife ++ encU32 r.contactorMismatch

/-- A slot record of POLL_LIST (R105, R199). -/
def slotOfBytes (b : List Byte) : SlotRecord where
  enabled := byteAt b 0
  kind := byteAt b 1
  address := byteAt b 2
  calM := u16At b 3
  calB := i16At b 5
  plausLow := i16At b 7
  plausHigh := i16At b 9
  station := byteAt b 11
  zoneMask := byteAt b 12
  crossLevel := i16At b 13
  deadband := i16At b 15
  crossDir := byteAt b 17

/-- The bytes of a slot record. -/
def encSlot (r : SlotRecord) : List Byte :=
  [r.enabled, r.kind, r.address] ++ encU16 r.calM ++ encI16 r.calB ++ encI16 r.plausLow ++ encI16 r.plausHigh
    ++ [r.station, r.zoneMask] ++ encI16 r.crossLevel ++ encI16 r.deadband ++ [r.crossDir]

/-- The header record of POLL_LIST: its first two bytes (R199). -/
def headerOfBytes (b : List Byte) : PollHeader := { autostart := byteAt b 0, order := byteAt b 1 }

/-- The bytes of the header record; the other bytes are sent as 0 (R199). -/
def encHeader (h : PollHeader) : List Byte := [h.autostart, h.order] ++ List.replicate 16 0

/-- A ZONES record (R152, R199). -/
def zoneOfBytes (b : List Byte) : ZoneRecord where
  enabled := byteAt b 0
  powerW := u16At b 1
  priority := (byteAt b 3).toNat
  setpoint := i16At b 4
  hysteresis := i16At b 6
  overtemp := i16At b 8
  minOn := u32At b 10
  minOff := u32At b 14

/-- The bytes of a ZONES record. -/
def encZone (r : ZoneRecord) : List Byte :=
  [r.enabled] ++ encU16 r.powerW ++ encU8 r.priority ++ encI16 r.setpoint ++ encI16 r.hysteresis ++ encI16 r.overtemp
    ++ encU32 r.minOn ++ encU32 r.minOff

/-! ### Validation of table records -/

/-- The number of an envelope entry's failing check, if it has one (R69). -/
def envelopeFailing (e : Envelope) : Option Nat :=
  firstFailing [
    isYesNo e.installed,
    isYesNo e.pinFitted,
    decide (-275000 ≤ e.azMin ∧ e.azMin ≤ 275000 ∧ -275000 ≤ e.azMax ∧ e.azMax ≤ 275000),
    decide (e.azMin < e.azMax),
    decide (0 ≤ e.elMin ∧ e.elMin ≤ 92000 ∧ 0 ≤ e.elMax ∧ e.elMax ≤ 92000),
    decide (e.elMin < e.elMax),
    decide (1 ≤ e.azRateMax ∧ e.azRateMax ≤ 3000),
    decide (1 ≤ e.elRateMax ∧ e.elRateMax ≤ 1500),
    decide (e.holdW ≤ 10000),
    decide (1 ≤ e.kAz ∧ e.kAz ≤ 65535 ∧ 1 ≤ e.kEl ∧ e.kEl ≤ 65535),
    (match e.stowAz with | .keep => true | .position p => decide (e.azMin ≤ p ∧ p ≤ e.azMax)),
    decide (e.elMin ≤ e.stowEl ∧ e.stowEl ≤ e.elMax),
    decide (1 ≤ e.stowAzRate ∧ e.stowAzRate ≤ e.azRateMax ∧ 1 ≤ e.stowElRate ∧ e.stowElRate ≤ e.elRateMax),
    decide (10 ≤ e.stowTol ∧ e.stowTol ≤ 5000),
    decide (100 ≤ e.overrunMargin ∧ e.overrunMargin ≤ 5000)]

/-- The number of a BUDGET record's failing check (R187). -/
def budgetFailing (r : Budget) : Option Nat :=
  firstFailing [
    decide (1000 ≤ r.capacity ∧ r.capacity ≤ 500000),
    decide (r.reserve ≤ r.capacity),
    r.meltPriority == 0 || r.meltPriority == 1]

/-- The number of a TIMING record's failing check: the position of its first field out of range (R187). -/
def timingFailing (r : Timing) : Option Nat :=
  firstFailing [
    decide (50 ≤ r.setpointDeadline ∧ r.setpointDeadline ≤ 2000),
    decide (200 ≤ r.linkTimeout ∧ r.linkTimeout ≤ 5000),
    decide (5000 ≤ r.clearDelay ∧ r.clearDelay ≤ 60000),
    decide (r.stowWarn ≤ 30000),
    decide (50 ≤ r.stowRefresh ∧ r.stowRefresh ≤ 500),
    decide (30000 ≤ r.stowTimeout ∧ r.stowTimeout ≤ 600000),
    decide (5 ≤ r.pollTimeout ∧ r.pollTimeout ≤ 100),
    decide (r.passGap ≤ 10000),
    decide (5000 ≤ r.blindTimeout ∧ r.blindTimeout ≤ 120000),
    decide (60000 ≤ r.precipHold ∧ r.precipHold ≤ 14400000),
    decide (1000 ≤ r.substituteLife ∧ r.substituteLife ≤ 600000),
    decide (500 ≤ r.contactorMismatch ∧ r.contactorMismatch ≤ 30000)]

/-- The number of a slot record's failing check (R106). -/
def slotFailing (r : SlotRecord) : Option Nat :=
  let kind := slotKindOf r.kind
  firstFailing [
    isYesNo r.enabled,
    kind.isSome,
    decide (1 ≤ r.address.toNat ∧ r.address.toNat ≤ 30),
    decide (r.plausLow ≤ r.plausHigh),
    kind != some .windSpeed || decide (0 ≤ r.plausLow),
    kind != some .surfaceTemp || (decide (r.station.toNat ≤ 7) && r.zoneMask.setWidth 4 != (0 : BitVec 4)),
    kind != some .airTemp || (decide (0 ≤ r.deadband ∧ r.deadband ≤ 1000) && (crossDirOf r.crossDir).isSome)]

/-- The number of the header record's failing check (R106). -/
def headerFailing (h : PollHeader) : Option Nat :=
  if (h.autostart == 0 || h.autostart == 1) && (h.order == 0 || h.order == 1) then none else some 8

/-- The number of a ZONES record's failing check (R153). -/
def zoneFailing (r : ZoneRecord) : Option Nat :=
  firstFailing [
    isYesNo r.enabled,
    decide (r.powerW ≤ 30000),
    decide (r.priority ≤ 3),
    decide (-5000 ≤ r.setpoint ∧ r.setpoint ≤ 5000 ∧ 0 ≤ r.hysteresis ∧ r.hysteresis ≤ 2000),
    decide (r.setpoint + r.hysteresis < r.overtemp ∧ r.overtemp ≤ 10000),
    decide (r.minOn ≤ 1800000 ∧ r.minOff ≤ 1800000)]

/-- The number of the failing check of WIND record `i` in the table `t` as it would stand (R129). -/
def windFailing (t : Tab 4 WindRecord) (i : Fin 4) : Option Nat :=
  let r := t.get i
  let lower := ([1, 2, 3] : List (Fin 4)).filter (· < i)
  firstFailing [
    decide (16 ≤ r.wf ∧ r.wf ≤ 32),
    i == 0 || (decide (r.gustOn ≤ 1000 ∧ r.gustOff ≤ 1000 ∧ r.sustOn ≤ 1000 ∧ r.sustOff ≤ 1000)
      && isYesNo r.gustEnable && isYesNo r.sustEnable),
    i == 0 || decide (1000 ≤ r.holdDown ∧ r.holdDown ≤ 3600000),
    i == 0 || i == 3 || decide (1 ≤ r.pct ∧ r.pct ≤ 100),
    i == 0 || ((!isYes r.gustEnable || decide (r.gustOff < r.gustOn))
      && (!isYes r.sustEnable || decide (r.sustOff < r.sustOn))),
    lower.all fun j =>
      (!isYes r.gustEnable || !isYes (t.get j).gustEnable || decide ((t.get j).gustOn ≤ r.gustOn))
        && (!isYes r.sustEnable || !isYes (t.get j).sustEnable || decide ((t.get j).sustOn ≤ r.sustOn))]

end Sys2Proof.Machine
end

