-- ==== Sys2Proof/Machine/Frames.lean ====
section
/-! DEFINITION. Frames as bytes (R195 to R198): the CRC, the bytes of every frame the supervisor sends, the reception
checks, and which command a received byte sequence is. -/

namespace Sys2Proof.Machine

/-! ### The CRC and the outer form (R195, R197) -/

/-- One bit of the CRC-16 with generator x¹⁶ + x¹² + x⁵ + 1 (R197). -/
def crcBit (c : BitVec 16) : BitVec 16 := if c.msb then (c <<< 1) ^^^ 0x1021 else c <<< 1

/-- One byte of the CRC (R197). -/
def crcByte (c : BitVec 16) (b : Byte) : BitVec 16 :=
  Nat.repeat crcBit 8 (c ^^^ (b.setWidth 16 <<< 8))

/-- The CRC of a byte sequence, from the initial value 0xFFFF, without reflection or final exclusive-or (R197). -/
def crc16 (bs : List Byte) : BitVec 16 := bs.foldl crcByte 0xFFFF

/-- The header and payload of a frame (R195). -/
def frameBody (f : Frame) : List Byte := [f.dest, f.src, f.kind] ++ encU16 f.payload.length ++ f.payload

/-- The bytes of a frame (R195). -/
def frameBytes (f : Frame) : List Byte := frameBody f ++ encU16 (crc16 (frameBody f)).toNat

/-! ### Addresses and kinds (R195, R198) -/

/-- The node address of the array control computer. -/
def controlAddress : Byte := 0x01

/-- The broadcast address. -/
def broadcastAddress : Byte := 0xFF

/-- The node address of a station's cabinet. -/
def stationAddress (n : StationId) : Byte := BitVec.ofNat 8 (0x80 + n.val)

/-- The station whose cabinet an address names, if it names one. -/
def stationOfAddress (a : Byte) : Option StationId := stationIds.find? fun n => stationAddress n == a

/-! ### Payloads (R196) -/

/-- A 16-bit field, most significant byte first. -/
def word16 (x : BitVec 16) : List Byte := encU16 x.toNat

/-- A 32-bit field, most significant byte first. -/
def word32 (x : BitVec 32) : List Byte := encU32 x.toNat

/-- The 16-bit field at an offset. -/
def word16At (bs : List Byte) (i : Nat) : BitVec 16 := BitVec.ofNat 16 (u16At bs i)

/-- The 32-bit field at an offset. -/
def word32At (bs : List Byte) (i : Nat) : BitVec 32 := BitVec.ofNat 32 (u32At bs i)

/-- The payload of a SETPOINT. -/
def setpointPayload (sp : Setpoint) : List Byte :=
  encI32 sp.azTarget ++ encU16 sp.azSpeed ++ encI32 sp.elTarget ++ encU16 sp.elSpeed

/-- The code of a LOCK_REPLY outcome. -/
def lockOutcomeCode : LockOutcome → Nat
  | .taken => 0
  | .merged => 1
  | .released => 2
  | .full => 3
  | .notHolder => 4
  | .bad => 5
  | .standing => 6

/-- The kind and payload of a frame toward a cabinet, CABINET_DATA aside. -/
def stationPayload : StationFrame → Byte × List Byte
  | .setpoint sp => (0x02, setpointPayload sp)
  | .heat mask => (0x09, [mask.setWidth 8])
  | .horn on => (0x0A, encBool on)
  | .pin inward => (0x0B, encBool inward)
  | .linkUp node => (0x0C, [node])
  | .lockReply r => (0x08, word16 r.badge ++ encU8 (lockOutcomeCode r.outcome) ++ encScope r.standing)
  | .cabinetData f => (0x04, f.payload)

/-- A CABINET_DATA frame whole. -/
def wholeCabinet (f : CabinetFrame) : Frame := { dest := f.dest, src := f.src, kind := 0x04, payload := f.payload }

/-- The frame sent on station link `n` by a supervisor at address `own`: composed frames name the cabinet, and forwarded
cabinet data keeps its header (R195, R198). -/
def stationFrame (own : Byte) (n : StationId) (t : StationFrame) : Frame :=
  match t with
  | .cabinetData f => wholeCabinet f
  | t => { dest := stationAddress n, src := own, kind := (stationPayload t).1, payload := (stationPayload t).2 }

/-- The payload of a TELEMETRY. -/
def telemetryPayload (f : TelemetryFrame) : List Byte := word32 f.az ++ word32 f.el ++ [f.flags, f.mask]

/-- The code of an attention cause: its priority number (R196). -/
def causeCode : Cause → Nat
  | .stowChange => 0
  | .lockChange => 1
  | .faultNew => 2
  | .windLevel => 3
  | .freezeCross => 4
  | .meltChange => 5
  | .storeDone => 6

/-- The byte of a stow cause set (R196). -/
def encStowCauses (c : StowCauses) : List Byte :=
  [(if c.wind then 1 else 0) + (if c.stormLine then 2 else 0) + (if c.blind then 4 else 0) + (if c.manual then 8 else 0)]

/-- The code of a wind level: its position in the list of levels (R128, R199). -/
def levelCode : WindLevel → Nat
  | .calm => 0
  | .breezy => 1
  | .gusty => 2
  | .stow => 3

/-- The code of a response code: its position in the Response codes table (R196). -/
def respByte : RespCode → Byte
  | .done => 0x00
  | .accepted => 0x01
  | .busy => 0x02
  | .badRequest => 0x03
  | .badScope => 0x04
  | .protectedStation => 0x05
  | .lockedDown => 0x06
  | .notSeen => 0x07
  | .notHolder => 0x08
  | .noRoom => 0x09
  | .invalid => 0x0A
  | .wrongState => 0x0B

/-- The frame sent upstream for an entry (R195, R198): responses and alerts go to the control computer, and forwarded
frames keep their header. -/
def upstreamFrame (own : Byte) (e : UpEntry) : Frame :=
  match e with
  | .telemetry n f => { dest := f.dest, src := stationAddress n, kind := 0x03, payload := telemetryPayload f }
  | .cabinetData f => wholeCabinet f
  | .mgmtResp tag code resp contents =>
    { dest := controlAddress, src := own, kind := 0x11, payload := [tag, code, respByte resp] ++ contents }
  | .alert a =>
    { dest := controlAddress, src := own, kind := 0x12
      payload := encU8 (causeCode a.cause) ++ encU8 (levelCode a.level) ++ encStowCauses a.causes ++ encU8 a.faultCount }

/-- The frame sent on the sensor line for a transaction: a POLL names the sensor as its destination, a POLL_PAIR carries
destination 0xFF and both addresses (R196). -/
def pollFrame (p : PollFrame) : Frame :=
  match p with
  | .poll address => { dest := address, src := 0, kind := 0x20, payload := [] }
  | .pollPair first second => { dest := broadcastAddress, src := 0, kind := 0x21, payload := [first, second] }

/-! ### Reception checks (R197) -/

/-- Whether the payload length agrees with what is tabled for a kind; a kind that is not tabled has no length to agree
with (R197). -/
def lengthAgrees (kind : Byte) (payload : List Byte) : Bool :=
  let l := payload.length
  match kind.toNat with
  | 0x01 => l == 1 + 13 * (byteAt payload 0).toNat
  | 0x02 => l == 12
  | 0x03 => l == 10
  | 0x04 => decide (l ≤ 1024)
  | 0x05 | 0x06 => l == 3
  | 0x07 => l == 1 + 3 * (byteAt payload 0).toNat
  | 0x08 => l == 4
  | 0x09 | 0x0A | 0x0B | 0x0C => l == 1
  | 0x10 => decide (2 ≤ l ∧ l ≤ 2048)
  | 0x11 => decide (3 ≤ l ∧ l ≤ 2048)
  | 0x12 => l == 4
  | 0x20 => l == 0
  | 0x21 | 0x22 => l == 2
  | _ => true

/-- The frame that a byte sequence of at least seven bytes spells. -/
def frameOf (bs : List Byte) : Frame where
  dest := byteAt bs 0
  src := byteAt bs 1
  kind := byteAt bs 2
  payload := (bs.drop 5).take (bs.length - 7)

/-- The checks of R197 on the bytes a receiver delivered without a byte-level error. -/
def goodBytes (link : RxLink) (bs : List Byte) : Bool :=
  let f := frameOf bs
  decide (7 ≤ bs.length) && (u16At bs 3 == bs.length - 7) && decide (u16At bs 3 ≤ 2048)
    && (u16At bs (bs.length - 2) == (crc16 (bs.take (bs.length - 2))).toNat)
    && lengthAgrees f.kind f.payload
    && match link with
      | .station n => f.src == stationAddress n
      | .upstream | .sensorLine => true

/-! ### The command of a good frame (R46, R113, R182, R198) -/

/-- One entry of a POINTING_BATCH payload. -/
def batchEntryAt (b : List Byte) : BatchEntry where
  station := byteAt b 0
  azTarget := word32At b 1
  azSpeed := word16At b 5
  elTarget := word32At b 7
  elSpeed := word16At b 11

/-- The entries of a POINTING_BATCH payload after its count. -/
def batchEntriesOf : Nat → List Byte → List BatchEntry
  | 0, _ => []
  | k + 1, b => batchEntryAt b :: batchEntriesOf k (b.drop 13)

/-- The entries of a LOCK_REPORT payload after its count. -/
def reportEntriesOf : Nat → List Byte → List ReportEntry
  | 0, _ => []
  | k + 1, b => { badge := word16At b 0, scope := scopeOfByte (byteAt b 2) } :: reportEntriesOf k (b.drop 3)

/-- The management request of a code, with its tag and parameters; `strap` is what the strap pins show, which a warm reset
reads (R182, R196). -/
def requestOf (strap tag code : Byte) (params : List Byte) : Instr :=
  match code.toNat with
  | 0x01 => .statusRead tag params
  | 0x02 => .stationRead tag params
  | 0x03 => .identify tag params
  | 0x04 => .tableRead tag params
  | 0x05 => .tableWrite tag params
  | 0x06 => .envelopeApply tag params
  | 0x07 => .envelopeClearAll tag params
  | 0x08 => .lockdownSet tag params
  | 0x09 => .settingsSave tag params
  | 0x0A => .stowRequest tag params
  | 0x0B => .stowRelease tag params
  | 0x0C => .remoteLock tag params
  | 0x0D => .remoteUnlock tag params
  | 0x0E => .stationResume tag params
  | 0x0F => .scanStart tag params
  | 0x10 => .scanStop tag params
  | 0x11 => .slotSubstitute tag params
  | 0x12 => .slotRestore tag params
  | 0x13 => .faultRead tag params
  | 0x14 => .faultClear tag params
  | 0x15 => .alertAck tag params
  | 0x16 => .clipLogClear tag params
  | 0x17 => .zoneFaultClear tag params
  | 0x18 => .meltModeSet tag params
  | 0x19 => .warmReset tag params strap
  | _ => .unknownRequestCode tag code params

/-- The command of a good frame from the upstream link, at a supervisor whose address is `own` (R198). -/
def upstreamCommand (own strap : Byte) (f : Frame) : Instr :=
  if f.dest = own ∧ f.kind = 0x01 then
    .pointingBatch (batchEntriesOf (byteAt f.payload 0).toNat (f.payload.drop 1))
  else if f.dest = own ∧ f.kind = 0x10 then
    requestOf strap (byteAt f.payload 0) (byteAt f.payload 1) (f.payload.drop 2)
  else if (f.dest = broadcastAddress ∨ (stationOfAddress f.dest).isSome) ∧ f.kind = 0x04 then
    .cabinetDataFromUpstream { dest := f.dest, src := f.src, payload := f.payload }
  else .goodFrameOfUnhandledKind .upstream f

/-- The command of a good frame from a station link (R46). -/
def stationCommand (n : StationId) (f : Frame) : Instr :=
  let p := f.payload
  match f.kind.toNat with
  | 0x03 =>
    .telemetry n
      { dest := f.dest, az := word32At p 0, el := word32At p 4, flags := byteAt p 8, mask := byteAt p 9 }
  | 0x04 => .cabinetDataFromStation n { dest := f.dest, src := f.src, payload := p }
  | 0x05 => .lock n (word16At p 0) (scopeOfByte (byteAt p 2))
  | 0x06 => .unlock n (word16At p 0) (scopeOfByte (byteAt p 2))
  | 0x07 => .lockReport n (reportEntriesOf (byteAt p 0).toNat (p.drop 1))
  | _ => .goodFrameOfUnhandledKind (.station n) f

/-- The command of a good frame from the sensor line (R113). -/
def sensorCommand (f : Frame) : Instr :=
  if f.kind = 0x22 then .reading f.src (word16At f.payload 0) else .goodFrameOfUnhandledKind .sensorLine f

/-- The command that a reception is: the bytes the receiver delivered, and whether it found a byte-level error (R197). -/
def receive (own strap : Byte) (link : RxLink) (bs : List Byte) (byteError : Bool) : Instr :=
  if !byteError && goodBytes link bs then
    match link with
    | .upstream => upstreamCommand own strap (frameOf bs)
    | .station n => stationCommand n (frameOf bs)
    | .sensorLine => sensorCommand (frameOf bs)
  else .receivedFrameFailingChecks link bs byteError

/-! ### The frame of a command -/

/-- The bytes of one POINTING_BATCH entry (R196). -/
def encBatchEntry (b : BatchEntry) : List Byte :=
  [b.station] ++ word32 b.azTarget ++ word16 b.azSpeed ++ word32 b.elTarget ++ word16 b.elSpeed

/-- The bytes of one LOCK_REPORT entry (R196). -/
def encReportEntry (e : ReportEntry) : List Byte := word16 e.badge ++ encScope e.scope

/-- The tag, request code and parameters of a management request (R182, R196). -/
def requestParts : Instr → Option (Byte × Byte × List Byte)
  | .statusRead tag ps => some (tag, 0x01, ps)
  | .stationRead tag ps => some (tag, 0x02, ps)
  | .identify tag ps => some (tag, 0x03, ps)
  | .tableRead tag ps => some (tag, 0x04, ps)
  | .tableWrite tag ps => some (tag, 0x05, ps)
  | .envelopeApply tag ps => some (tag, 0x06, ps)
  | .envelopeClearAll tag ps => some (tag, 0x07, ps)
  | .lockdownSet tag ps => some (tag, 0x08, ps)
  | .settingsSave tag ps => some (tag, 0x09, ps)
  | .stowRequest tag ps => some (tag, 0x0A, ps)
  | .stowRelease tag ps => some (tag, 0x0B, ps)
  | .remoteLock tag ps => some (tag, 0x0C, ps)
  | .remoteUnlock tag ps => some (tag, 0x0D, ps)
  | .stationResume tag ps => some (tag, 0x0E, ps)
  | .scanStart tag ps => some (tag, 0x0F, ps)
  | .scanStop tag ps => some (tag, 0x10, ps)
  | .slotSubstitute tag ps => some (tag, 0x11, ps)
  | .slotRestore tag ps => some (tag, 0x12, ps)
  | .faultRead tag ps => some (tag, 0x13, ps)
  | .faultClear tag ps => some (tag, 0x14, ps)
  | .alertAck tag ps => some (tag, 0x15, ps)
  | .clipLogClear tag ps => some (tag, 0x16, ps)
  | .zoneFaultClear tag ps => some (tag, 0x17, ps)
  | .meltModeSet tag ps => some (tag, 0x18, ps)
  | .warmReset tag ps _ => some (tag, 0x19, ps)
  | .unknownRequestCode tag code ps => some (tag, code, ps)
  | _ => none

/-- The link and the frame by which a command arrives at a supervisor whose address is `own`, for a command that is the
arrival of a good frame. Where the command does not hold an address that its rule leaves unexamined, the partner's own
address stands for it. -/
def frameOfCommand (own : Byte) (i : Instr) : Option (RxLink × Frame) :=
  match i with
  | .pointingBatch es =>
    some (.upstream,
      { dest := own, src := controlAddress, kind := 0x01, payload := encU8 es.length ++ es.flatMap encBatchEntry })
  | .cabinetDataFromUpstream f => some (.upstream, wholeCabinet f)
  | .telemetry n f =>
    some (.station n, { dest := f.dest, src := stationAddress n, kind := 0x03, payload := telemetryPayload f })
  | .lock n badge scope =>
    some (.station n, { dest := own, src := stationAddress n, kind := 0x05, payload := word16 badge ++ encScope scope })
  | .unlock n badge scope =>
    some (.station n, { dest := own, src := stationAddress n, kind := 0x06, payload := word16 badge ++ encScope scope })
  | .lockReport n es =>
    some (.station n,
      { dest := own, src := stationAddress n, kind := 0x07, payload := encU8 es.length ++ es.flatMap encReportEntry })
  | .cabinetDataFromStation n f => some (.station n, wholeCabinet f)
  | .reading address raw =>
    some (.sensorLine, { dest := 0, src := address, kind := 0x22, payload := word16 raw })
  | .goodFrameOfUnhandledKind link f => some (link, f)
  | i =>
    (requestParts i).map fun p =>
      (.upstream, { dest := own, src := controlAddress, kind := 0x10, payload := [p.1, p.2.1] ++ p.2.2 })

end Sys2Proof.Machine
end

