-- ==== Sys2Proof/Machine/Flags.lean ====
section
/-! DEFINITION. The conditions that the blocks derive from the state whenever they need them, and never store: motion
authority, heat block, service, wind figures, want, heater load. -/

namespace Sys2Proof.Machine

/-- The record of a station (R2). -/
def State.station (s : State) (n : StationId) : Station := s.stations.get n

/-- The active envelope entry of a station (R67). -/
def State.envelope (s : State) (n : StationId) : Envelope := s.settings.active.get n

/-- The working state of a zone (R155). -/
def State.zone (s : State) (n : StationId) (z : ZoneNum) : Zone := (s.station n).zones.get z

/-- The ZONES record of a zone (R152). -/
def State.zoneRecord (s : State) (n : StationId) (z : ZoneNum) : ZoneRecord := s.settings.zones.get (zoneIndex n z)

/-- The working state of a slot (R108). -/
def State.slot (s : State) (i : SlotId) : Slot := s.slots.get i

/-- The POLL_LIST record of a slot (R105). -/
def State.slotRecord (s : State) (i : SlotId) : SlotRecord := s.settings.poll.slots.get i

/-! ### Timers (R1) -/

/-- The reading at which a timer's expiry stands, as responses report it. -/
def Timer.expiry (t : Timer) : Time := t.start + BitVec.ofNat 32 t.interval

/-- Whether the count has advanced by the timer's interval from its start, across any wrap (R1). -/
def Timer.due (t : Timer) (now : Time) : Bool := decide (t.interval ≤ (now - t.start).toNat)

/-- Whether a timer runs and is due. -/
def timerDue (t : Option Timer) (now : Time) : Bool :=
  match t with
  | none => false
  | some t => t.due now

/-! ### Holders (R86) -/

/-- The DRIVE count (R86). -/
def driveCount (st : Station) : Nat := st.holders.countP (·.scope.drive)

/-- The HEAT count (R86). -/
def heatCount (st : Station) : Nat := st.holders.countP (·.scope.heat)

/-- The scope a badge holds in a list, empty when it holds no record (R90). -/
def standingScope (hs : List Holder) (badge : Badge) : Scope :=
  match hs.find? (·.badge == badge) with
  | none => noScope
  | some h => h.scope

/-! ### Links and locks -/

/-- Whether a link is UP (R4). -/
def Link.isUp : Link → Bool
  | .down => false
  | .up _ => true

/-- Whether a station is eligible for clearing (R97). -/
def eligible (st : Station) : Bool :=
  st.installed && st.link.isUp && st.lockReportSeen && driveCount st == 0

/-- Whether a station's heat block holds (R101). -/
def heatBlock (st : Station) : Bool :=
  !st.link.isUp || !st.lockReportSeen || heatCount st != 0

/-! ### Motion authority (R18, R19) -/

/-- The motion authorities, in the order of their codes (R201). -/
inductive Authority where
  | absent
  | held
  | locked
  | clearing
  | stopped
  | stowPending
  | stowWarning
  | stowMoving
  | stowStowed
  | coasting
  | tracking
  | idle
deriving DecidableEq, Repr

/-- Whether cluster stow is active: the stow cause set is non-empty (R135). -/
def StowCauses.active (c : StowCauses) : Bool := c.wind || c.stormLine || c.blind || c.manual

/-- Whether cluster stow is active in a state (R135). -/
def State.stowActive (s : State) : Bool := s.wind.causes.active

/-- The motion authority of a record under the cluster's stow state: the first entry of the list of R18 whose condition
holds. A station whose progress is NONE under active stow, which no run reaches (R11), is read as STOW-PENDING. -/
def authorityOf (stow : Bool) (st : Station) : Authority :=
  if !st.installed then .absent
  else if !st.link.isUp || !st.lockReportSeen then .held
  else if driveCount st != 0 then .locked
  else if st.clearing.isSome then .clearing
  else if st.faultLatch != .none then .stopped
  else if stow then
    match st.progress with
    | .none | .pending => .stowPending
    | .warning => .stowWarning
    | .moving => .stowMoving
    | .stowed => .stowStowed
  else if st.stale then .coasting
  else if st.demand.cls = .track then .tracking
  else .idle

/-- The motion authority of a station, computed whenever a block needs it (R18). -/
def State.authority (s : State) (n : StationId) : Authority := authorityOf s.stowActive (s.station n)

/-- Whether an authority is permitting (R19). -/
def Authority.permitting : Authority → Bool
  | .stowWarning | .stowMoving | .stowStowed | .coasting | .tracking | .idle => true
  | _ => false

/-- Whether an authority is energised (R19). -/
def Authority.energised : Authority → Bool
  | .held | .stopped | .stowWarning | .stowMoving | .stowStowed | .coasting | .tracking | .idle => true
  | _ => false

/-- Whether an authority is one of entries 1 to 5 of R18. -/
def Authority.blocked : Authority → Bool
  | .absent | .held | .locked | .clearing | .stopped => true
  | _ => false

/-- The STOW_BLOCKED indicator (R18). -/
def State.stowBlocked (s : State) (n : StationId) : Bool :=
  (s.station n).progress == .pending && (s.authority n).blocked

/-! ### Positions and setpoints -/

/-- A position clamped between two bounds (R16, R26). -/
def clampInt (lo hi v : Int) : Int := if v < lo then lo else if hi < v then hi else v

/-- Whether a position lies within the soft limits of an entry on both axes (R67). -/
def withinSoft (e : Envelope) (az el : Int) : Bool :=
  decide (e.azMin ≤ az ∧ az ≤ e.azMax ∧ e.elMin ≤ el ∧ el ≤ e.elMax)

/-- The targets of a STOP setpoint before the clamp: the last telemetry's position, else the last sent target, else 0
(R16). -/
def stopTargets (st : Station) : Int × Int :=
  match st.lastTelemetry with
  | some t => (t.az, t.el)
  | none =>
    match st.lastSent with
    | some p => p
    | none => (0, 0)

/-- The STOP setpoint of a station, composed at this moment (R16). -/
def State.stopSetpoint (s : State) (n : StationId) : Setpoint where
  azTarget := clampInt (s.envelope n).azMin (s.envelope n).azMax (stopTargets (s.station n)).1
  azSpeed := 0
  elTarget := clampInt (s.envelope n).elMin (s.envelope n).elMax (stopTargets (s.station n)).2
  elSpeed := 0

/-- Whether a setpoint moves: its speed on either axis is nonzero (R20, R21). -/
def Setpoint.moving (sp : Setpoint) : Bool := sp.azSpeed != 0 || sp.elSpeed != 0

/-! ### Clip causes -/

/-- The union of two sets of clip causes. -/
def ClipSet.union (a b : ClipSet) : ClipSet where
  targetClamp := a.targetClamp || b.targetClamp
  rateCap := a.rateCap || b.rateCap
  windCap := a.windCap || b.windCap
  budget := a.budget || b.budget
  heatHeld := a.heatHeld || b.heatHeld
  stale := a.stale || b.stale
  lockout := a.lockout || b.lockout
  stowOverride := a.stowOverride || b.stowOverride
  stopped := a.stopped || b.stopped

/-- The capping causes of a set: TARGET_CLAMP, RATE_CAP and WIND_CAP (R60). -/
def ClipSet.capping (a : ClipSet) : ClipSet :=
  { noClip with targetClamp := a.targetClamp, rateCap := a.rateCap, windCap := a.windCap }

/-! ### Wind figures -/

/-- The record of a level (R128). -/
def levelIndex : WindLevel → Fin 4
  | .calm => 0
  | .breezy => 1
  | .gusty => 2
  | .stow => 3

/-- The WIND record of a level. -/
def State.windRecord (s : State) (l : WindLevel) : WindRecord := s.settings.wind.get (levelIndex l)

/-- The wind factor of the current level (R50). -/
def State.windFactor (s : State) : Nat := (s.windRecord s.wind.level).wf

/-- The speed percentage of a level (R27, R128). CALM has 100 by definition; STOW has none, because no batch is taken at
STOW, and 100 stands for it here (log entry 20). -/
def State.pct (s : State) : Nat :=
  match s.wind.level with
  | .breezy | .gusty => (s.windRecord s.wind.level).pct
  | .calm | .stow => 100

/-- The gust of a ring: the maximum of its most recent values (R125). -/
def gustOf (ring : List Int) : Option Int := (ring.drop (ring.length - Config.gustWindow)).max?

/-- The sustained wind of a ring: the floored mean of its values (R125). -/
def sustainedOf (ring : List Int) : Option Int :=
  if ring = [] then none else some (ring.sum / (ring.length : Int))

/-- Whether a slot is in service (R108). -/
def Slot.inService (t : Slot) : Bool := t.state == .active || t.state == .substituted

/-- Whether a slot is an in-service slot of a kind. -/
def State.serves (s : State) (k : SlotKind) (i : SlotId) : Bool :=
  slotKindOf (s.slotRecord i).kind == some k && (s.slot i).inService

/-- The in-service anemometers (R130). -/
def State.anemometers (s : State) : List SlotId := slotIds.filter (s.serves .windSpeed)

/-- G, the worst gust of the in-service anemometers (R130). -/
def State.worstGust (s : State) : Option Int := (s.anemometers.filterMap fun i => gustOf (s.slot i).ring).max?

/-- S, the worst sustained wind of the in-service anemometers (R130). -/
def State.worstSustained (s : State) : Option Int :=
  (s.anemometers.filterMap fun i => sustainedOf (s.slot i).ring).max?

/-- Whether an enabled pair of a record has its on-threshold met (R131). -/
def onMet (r : WindRecord) (g u : Int) : Bool :=
  (isYes r.gustEnable && decide ((r.gustOn : Int) ≤ g)) || (isYes r.sustEnable && decide ((r.sustOn : Int) ≤ u))

/-- The target level of the figures G and S (R131). -/
def targetLevel (t : Tab 4 WindRecord) (g u : Int) : WindLevel :=
  if onMet (t.get 3) g u then .stow
  else if onMet (t.get 2) g u then .gusty
  else if onMet (t.get 1) g u then .breezy
  else .calm

/-- The release condition of a record: every enabled pair has its off-threshold unmet (R131). -/
def releaseHolds (r : WindRecord) (g u : Int) : Bool :=
  (!isYes r.gustEnable || decide (g < (r.gustOff : Int))) && (!isYes r.sustEnable || decide (u < (r.sustOff : Int)))

/-- The enabled WIND_SPEED slots of the poll list (R134). -/
def State.enabledAnemometers (s : State) : Nat :=
  slotIds.countP fun i => isYes (s.slotRecord i).enabled && slotKindOf (s.slotRecord i).kind == some .windSpeed

/-! ### Snow melting -/

/-- The surface slot of a zone (R156). -/
def State.surfaceSlot (s : State) (n : StationId) (z : ZoneNum) : Option SlotId :=
  slotIds.find? fun i =>
    isYes (s.slotRecord i).enabled && slotKindOf (s.slotRecord i).kind == some .surfaceTemp
      && (s.slotRecord i).station.toNat == n.val && (s.slotRecord i).zoneMask.getLsbD z.val

/-- The surface value of a zone: its surface slot's latest value, while the slot is in service (R156). -/
def State.surfaceValue (s : State) (n : StationId) (z : ZoneNum) : Option Int :=
  match s.surfaceSlot n z with
  | none => none
  | some i => if (s.slot i).inService then (s.slot i).latestValue.map (·.1) else none

/-- The melt condition that the present state gives (R158). -/
def State.conditionNow (s : State) : Bool :=
  match s.melt.mode with
  | .forceOn => true
  | .forceOff => false
  | .auto => s.melt.hold.isSome && slotIds.any fun i => s.serves .airTemp i && (s.slot i).side == .cold

/-- Whether a zone wants heat (R159). -/
def State.wants (s : State) (n : StationId) (z : ZoneNum) : Bool :=
  s.melt.condition &&
    match s.surfaceValue n z with
    | none => false
    | some v =>
      decide (v < (s.zoneRecord n z).setpoint
        + if (s.zone n z).state = .on then (s.zoneRecord n z).hysteresis else 0)

/-- The interval since an optional reading, if there is one (R155). -/
def sinceAtLeast (start : Option Time) (ms : Nat) (now : Time) : Bool :=
  match start with
  | none => false
  | some t => decide (ms ≤ (now - t).toNat)

/-- Whether an ON zone's on-time has reached its min_on (R155, R162). -/
def State.minOnReached (s : State) (n : StationId) (z : ZoneNum) : Bool :=
  (s.zone n z).minOnReached || sinceAtLeast (s.zone n z).onStart (s.zoneRecord n z).minOn s.now

/-- Whether a zone's min_off is satisfied (R155). -/
def State.minOffSatisfied (s : State) (n : StationId) (z : ZoneNum) : Bool :=
  (s.zone n z).offStart.isNone || sinceAtLeast (s.zone n z).offStart (s.zoneRecord n z).minOff s.now

/-- Whether a zone is ON. -/
def State.zoneOn (s : State) (p : StationId × ZoneNum) : Bool := (s.zone p.1 p.2).state == .on

/-- The power_W of a zone. -/
def State.zonePower (s : State) (p : StationId × ZoneNum) : Nat := (s.zoneRecord p.1 p.2).powerW

/-- H, the heater load: the sum of power_W over the zones in ON (R53). -/
def State.heatLoad (s : State) : Nat := ((allZones.filter s.zoneOn).map s.zonePower).sum

/-- The mask of a station's zones that are ON, bit z for Z z (R34). -/
def State.onMask (s : State) (n : StationId) : BitVec 4 :=
  BitVec.ofNat 4 ((zoneNums.map fun z => if s.zoneOn (n, z) then 2 ^ z.val else 0).sum)

/-! ### Faults -/

/-- The valid-fault count (R171). -/
def FaultTable.count (t : FaultTable) : Nat := faultIds.countP fun i => (t.entries.get i).isSome

end Sys2Proof.Machine
end

