-- ==== Sys2Proof/Machine/Ops.lean ====
section
/-! DEFINITION. The operations every block shares: writing one record, starting a timer, raising an attention cause,
recording a fault, the upstream queue, the station output queues, and the end of an event. -/

namespace Sys2Proof.Machine

/-! ### Writing one record -/

/-- The state with one station record changed. -/
def State.updStation (s : State) (n : StationId) (f : Station → Station) : State :=
  { s with stations := s.stations.set n (f (s.stations.get n)) }

/-- The state with every station record changed, each by its own number. -/
def State.mapStations (s : State) (f : StationId → Station → Station) : State :=
  { s with stations := Tab.ofFn fun n => f n (s.stations.get n) }

/-- The state with the working state of one zone changed. -/
def State.updZone (s : State) (n : StationId) (z : ZoneNum) (f : Zone → Zone) : State :=
  s.updStation n fun st => { st with zones := st.zones.set z (f (st.zones.get z)) }

/-- The state with the working state of one slot changed. -/
def State.updSlot (s : State) (i : SlotId) (f : Slot → Slot) : State :=
  { s with slots := s.slots.set i (f (s.slots.get i)) }

/-- A timer of an interval, started now (R1). -/
def State.timer (s : State) (ms : Nat) : Timer := ⟨s.now, ms⟩

/-! ### Attention (R178, R179) -/

/-- A set of causes with one more. -/
def CauseSet.insert (c : CauseSet) : Cause → CauseSet
  | .stowChange => { c with stowChange := true }
  | .lockChange => { c with lockChange := true }
  | .faultNew => { c with faultNew := true }
  | .windLevel => { c with windLevel := true }
  | .freezeCross => { c with freezeCross := true }
  | .meltChange => { c with meltChange := true }
  | .storeDone => { c with storeDone := true }

/-- A set of causes without one. -/
def CauseSet.erase (c : CauseSet) : Cause → CauseSet
  | .stowChange => { c with stowChange := false }
  | .lockChange => { c with lockChange := false }
  | .faultNew => { c with faultNew := false }
  | .windLevel => { c with windLevel := false }
  | .freezeCross => { c with freezeCross := false }
  | .meltChange => { c with meltChange := false }
  | .storeDone => { c with storeDone := false }

/-- The cause of highest priority in a set (R178). -/
def CauseSet.highest (c : CauseSet) : Option Cause :=
  if c.stowChange then some .stowChange
  else if c.lockChange then some .lockChange
  else if c.faultNew then some .faultNew
  else if c.windLevel then some .windLevel
  else if c.freezeCross then some .freezeCross
  else if c.meltChange then some .meltChange
  else if c.storeDone then some .storeDone
  else none

/-- A raised cause joins the pending set (R178). -/
def raise (c : Cause) (s : State) : State :=
  { s with attention := { s.attention with raised := s.attention.raised.insert c } }

/-! ### Fault reports (R172, R173) -/

/-- The index of the valid entry of a source and reason, if there is one. -/
def FaultTable.matching (t : FaultTable) (src : FaultSource) (r : FaultReason) : Option (Fin 8) :=
  faultIds.find? fun i =>
    match t.entries.get i with
    | none => false
    | some e => e.source == src && e.reason == r

/-- The free entry of lowest index, if there is one. -/
def FaultTable.free (t : FaultTable) : Option (Fin 8) := faultIds.find? fun i => (t.entries.get i).isNone

/-- A report collapsed into an entry (R172). -/
def collapseInto (e : FaultEntry) (detail : BitVec 32) (now : Time) : FaultEntry :=
  { e with repeats := min 255 (e.repeats + 1), lastTime := now, detail := detail, seen := false }

/-- A report as a new entry (R172). -/
def newFault (src : FaultSource) (r : FaultReason) (detail : BitVec 32) (now : Time) : FaultEntry where
  seen := false
  source := src
  reason := r
  firstTime := now
  lastTime := now
  repeats := 1
  detail := detail

/-- Recording a fault report: collapse, else a new entry, else overflow (R172, R173). -/
def recordFault (src : FaultSource) (r : FaultReason) (detail : BitVec 32) (s : State) : State :=
  match s.faults.matching src r with
  | some i =>
    { s with faults := { s.faults with
        entries := s.faults.entries.set i ((s.faults.entries.get i).map (collapseInto · detail s.now)) } }
  | none =>
    match s.faults.free with
    | some i =>
      raise .faultNew
        { s with faults := { s.faults with entries := s.faults.entries.set i (some (newFault src r detail s.now)) } }
    | none =>
      (if s.faults.overflow then id else raise .faultNew)
        { s with faults := { s.faults with overflow := true, overflowSeen := false } }

/-! ### The upstream queue (R39 to R42) -/

/-- Whether an entry is telemetry of a station. -/
def UpEntry.isTelemetryOf (n : StationId) : UpEntry → Bool
  | .telemetry m _ => m == n
  | _ => false

/-- Whether an entry is an ALERT. -/
def UpEntry.isAlert : UpEntry → Bool
  | .alert _ => true
  | _ => false

/-- The upstream queue after an offer: supersession of telemetry and ALERT, the threshold of 28 for telemetry and cabinet
data, and the capacity of 32 (R40, R41, R42, R179). -/
def admitUp (q : List UpEntry) (e : UpEntry) : List UpEntry :=
  match e with
  | .telemetry n _ =>
    if q.any (·.isTelemetryOf n) then q.map fun x => if x.isTelemetryOf n then e else x
    else if q.length < Config.upstreamThreshold then q ++ [e] else q
  | .cabinetData _ => if q.length < Config.upstreamThreshold then q ++ [e] else q
  | .mgmtResp .. => if q.length < Config.upstreamQueueSize then q ++ [e] else q
  | .alert _ =>
    if q.any (·.isAlert) then q.map fun x => if x.isAlert then e else x
    else if q.length < Config.upstreamQueueSize then q ++ [e] else q

/-- The head of the upstream queue leaves when the transmitter is sending no frame (R39). -/
def departUp (s : State) : State :=
  match s.upTx, s.upQueue with
  | none, e :: rest => { s with upTx := some e, upQueue := rest }
  | _, _ => s

/-- An offer to the upstream queue, and its departure where the transmitter is idle (R39). -/
def offerUp (e : UpEntry) (s : State) : State := departUp { s with upQueue := admitUp s.upQueue e }

/-- The attention unit's examination at the end of an event: where no cause is latched, the highest pending cause is
latched and its ALERT is offered (R179). -/
def examine (s : State) : State :=
  match s.attention.latched, s.attention.raised.highest with
  | none, some c =>
    offerUp (.alert { cause := c, level := s.wind.level, causes := s.wind.causes, faultCount := s.faults.count })
      { s with attention := { raised := s.attention.raised.erase c, latched := some c } }
  | _, _ => s

/-! ### Station output queues (R33 to R38) -/

/-- The kinds of queue entry (R33). -/
inductive EntryKind where
  | setpoint
  | heat
  | horn
  | pin
  | linkUp
  | lockReply
  | cabinetData
deriving DecidableEq, Repr

/-- The kind of an entry. -/
def StationEntry.kind : StationEntry → EntryKind
  | .setpoint _ => .setpoint
  | .heat => .heat
  | .horn _ => .horn
  | .pin _ => .pin
  | .linkUp => .linkUp
  | .lockReply _ => .lockReply
  | .cabinetData _ => .cabinetData

/-- Whether a kind supersedes (R33). -/
def EntryKind.superseding : EntryKind → Bool
  | .lockReply | .cabinetData => false
  | _ => true

/-- The zones after a HEAT frame of a mask departs: the mismatch deadline of every zone whose commanded bit changed is
cancelled (R165). -/
def cancelChanged (old new : BitVec 4) (zones : Tab 4 Zone) : Tab 4 Zone :=
  Tab.ofFn fun z =>
    if old.getLsbD z.val = new.getLsbD z.val then zones.get z else { zones.get z with mismatch := none }

/-- The departure of an entry: its frame is composed as the entry and the state then stand, and begins (R34, R16,
R165). -/
def beginFrame (n : StationId) (e : StationEntry) (s : State) : State :=
  match e with
  | .setpoint sp =>
    s.updStation n fun st => { st with tx := some (.setpoint sp), lastSent := some (sp.azTarget, sp.elTarget) }
  | .heat =>
    s.updStation n fun st =>
      { st with
        tx := some (.heat (s.onMask n))
        commandedMask := s.onMask n
        zones := cancelChanged st.commandedMask (s.onMask n) st.zones }
  | .horn on => s.updStation n fun st => { st with tx := some (.horn on) }
  | .pin inward => s.updStation n fun st => { st with tx := some (.pin inward) }
  | .linkUp => s.updStation n fun st => { st with tx := some (.linkUp s.nodeAddress) }
  | .lockReply r => s.updStation n fun st => { st with tx := some (.lockReply r) }
  | .cabinetData f => s.updStation n fun st => { st with tx := some (.cabinetData f) }

/-- The head of a station's queue leaves when the link is UP and the transmitter is sending no frame (R33). -/
def depart (n : StationId) (s : State) : State :=
  match (s.station n).link.isUp, (s.station n).tx, (s.station n).queue with
  | true, none, e :: rest => beginFrame n e (s.updStation n fun st => { st with queue := rest })
  | _, _, _ => s

/-- The queue with one station's queue replaced. -/
def setQueue (n : StationId) (q : List StationEntry) (s : State) : State :=
  s.updStation n fun st => { st with queue := q }

/-- The badge of the oldest LOCK_REPLY of a queue. -/
def oldestReply (q : List StationEntry) : Option Badge :=
  q.findSome? fun e =>
    match e with
    | .lockReply r => some r.badge
    | _ => none

/-- The report of a lost LOCK_REPLY (R36, R37). -/
def replyLost (n : StationId) (badge : Badge) (s : State) : State :=
  recordFault (.station n) .queueFull (badge.setWidth 32) s

/-- Admission of an entry to a station's queue: supersession in place (R35), eviction of the oldest CABINET_DATA, else of
the oldest LOCK_REPLY (R36), appending, or dropping (R37). -/
def admitEntry (n : StationId) (e : StationEntry) (s : State) : State :=
  let q := (s.station n).queue
  if e.kind.superseding && q.any (·.kind == e.kind) then
    setQueue n (q.map fun x => if x.kind = e.kind then e else x) s
  else if q.length < Config.stationQueueSize then setQueue n (q ++ [e]) s
  else
    match e with
    | .cabinetData _ => s
    | .lockReply r => replyLost n r.badge s
    | _ =>
      if q.any (·.kind == .cabinetData) then setQueue n (q.eraseP (·.kind == .cabinetData) ++ [e]) s
      else
        match oldestReply q with
        | some badge => replyLost n badge (setQueue n (q.eraseP (·.kind == .lockReply) ++ [e]) s)
        | none => s

/-- The enqueue check: a moving SETPOINT offered to a station whose authority is non-permitting is replaced by a STOP
setpoint (R21). -/
def checked (n : StationId) (e : StationEntry) (s : State) : StationEntry :=
  match e with
  | .setpoint sp => if sp.moving && !(s.authority n).permitting then .setpoint (s.stopSetpoint n) else e
  | _ => e

/-- An offer to a station's output queue: discarded while the link is DOWN (R7), else checked (R21), admitted (R35 to
R37) and, where the transmitter is idle, departing at once (R33). -/
def offer (n : StationId) (e : StationEntry) (s : State) : State :=
  if (s.station n).link.isUp then depart n (admitEntry n (checked n e s) s) else s

/-- A STOP setpoint offered, composed at this moment (R16). -/
def offerStop (n : StationId) (s : State) : State := offer n (.setpoint (s.stopSetpoint n)) s

/-- Every SETPOINT entry of a queue that a test selects is replaced in its position by a setpoint. -/
def replaceSetpoints (p : Setpoint → Bool) (stop : Setpoint) (q : List StationEntry) : List StationEntry :=
  q.map fun e =>
    match e with
    | .setpoint sp => if p sp then .setpoint stop else e
    | _ => e

/-- HEAT markers: one for each station whose set of ON zones differs between two states of one event (R168). -/
def offerHeatMarkers (s0 s : State) : State :=
  stationIds.foldl (fun s n => if s0.onMask n = s.onMask n then s else offer n .heat s) s

/-- What an event does to a station with the departure of its frames held back to the end: an idle transmitter counts as
sending meanwhile, and then the head of the queue, if any, leaves (R99, log entry 39). -/
def withheld (n : StationId) (f : State → State) (s : State) : State :=
  if (s.station n).tx.isSome then f s
  else
    let busy := s.updStation n fun st => { st with tx := some (.horn false) }
    depart n ((f busy).updStation n fun st => { st with tx := none })

/-! ### Freshness, demand and grants -/

/-- A record whose demand class has become NONE: the demand fields, the freshness deadline and stale return (R12,
R13). -/
def clearDemand (st : Station) : Station :=
  { st with demand := noDemand, freshness := none, stale := false }

/-- The transition from permitting to non-permitting: queued moving setpoints become STOP setpoints, and demand,
freshness and grants return (R20). -/
def revokeMotion (n : StationId) (s : State) : State :=
  s.updStation n fun st =>
    { clearDemand st with
      queue := replaceSetpoints Setpoint.moving (s.stopSetpoint n) st.queue
      grant := noGrant }

/-- A set of clip causes placed in clip_status and added to clip_log (R17). -/
def setClip (n : StationId) (c : ClipSet) (s : State) : State :=
  s.updStation n fun st => { st with clipStatus := c, clipLog := st.clipLog.union c }

end Sys2Proof.Machine
end

