-- ==== Sys2Proof/Machine/Melt.lean ====
section
/-! DEFINITION. The Melt Controller's operations: want, the melt condition, inhibit, faults, the contactor watch, shedding
and admission of zones, and what a ZONES or BUDGET write brings about (R152 to R169). -/

namespace Sys2Proof.Machine

/-! ### Leaving ON -/

/-- A zone put into a state other than ON, its off-time counted from now (R155, R162). -/
def Zone.leave (z : Zone) (st : ZoneState) (now : Time) : Zone :=
  { z with state := st, onStart := none, minOnReached := false, offStart := some now }

/-- A zone in FAULT (R164, R166). -/
def Zone.fail (z : Zone) (r : ZoneFaultReason) (now : Time) : Zone :=
  { z.leave .fault now with faultReason := some r, mismatch := none }

/-! ### Want (R159, R160, R162) -/

/-- A zone after its want is evaluated, given the want and whether its min_off and min_on are reached. -/
def Zone.afterWant (z : Zone) (want minOff minOn : Bool) (now : Time) : Zone :=
  match z.state with
  | .off => if want && minOff then { z with state := .wait } else z
  | .shed => if want then (if minOff then { z with state := .wait } else z) else { z with state := .off }
  | .wait => if want then z else { z with state := .off }
  | .on => if !want && minOn then z.leave .off now else z
  | .disabled | .inhibited | .fault => z

/-- The want of a zone evaluated, and the transition that follows (R159). -/
def evalWant (n : StationId) (z : ZoneNum) (s : State) : State :=
  s.updZone n z fun zn => zn.afterWant (s.wants n z) (s.minOffSatisfied n z) (s.minOnReached n z) s.now

/-- The want of several zones evaluated, in order. -/
def evalWants (zs : List (StationId × ZoneNum)) (s : State) : State :=
  zs.foldl (fun s p => evalWant p.1 p.2 s) s

/-- The melt condition evaluated: a change raises MELT_CHANGE and evaluates every zone's want (R158). -/
def evalCondition (s : State) : State :=
  if s.conditionNow = s.melt.condition then s
  else evalWants allZones (raise .meltChange { s with melt := { s.melt with condition := s.conditionNow } })

/-- The precipitation time stamped, and the hold started anew (R127, R158). -/
def stampPrecip (s : State) : State :=
  { s with melt := { s.melt with stamp := some s.now, hold := some (s.timer s.settings.timing.precipHold) } }

/-! ### Inhibit (R163) -/

/-- A zone when its station's heat block begins. -/
def Zone.inhibit (z : Zone) (now : Time) : Zone :=
  match z.state with
  | .disabled | .fault | .inhibited => z
  | .off | .wait | .shed | .on => z.leave .inhibited now

/-- A zone when its station's heat block ends. -/
def Zone.release (z : Zone) : Zone :=
  if z.state = .inhibited then { z with state := .off } else z

/-- The heat block of a station begins: its zones are inhibited at once (R163). -/
def beginHeatBlock (n : StationId) (s : State) : State :=
  s.updStation n fun st => { st with zones := Tab.ofFn fun z => (st.zones.get z).inhibit s.now }

/-- The heat block of a station ends: inhibited zones go to OFF and their want is evaluated (R163). -/
def endHeatBlock (n : StationId) (s : State) : State :=
  evalWants ((zoneNums.filter fun z => (s.zone n z).state == .inhibited).map fun z => (n, z))
    (s.updStation n fun st => { st with zones := Tab.ofFn fun z => (st.zones.get z).release })

/-! ### Surface values and overtemperature (R156, R164) -/

/-- The zones that a slot serves as surface slot (R156). -/
def State.zonesOf (s : State) (i : SlotId) : List (StationId × ZoneNum) :=
  allZones.filter fun p => s.surfaceSlot p.1 p.2 == some i

/-- The detail of an OVERTEMP report: the value in the low 16 bits, the zone in the next byte (R164). -/
def overtempDetail (v : Int) (z : ZoneNum) : BitVec 32 :=
  (BitVec.ofInt 16 v).setWidth 32 ||| (BitVec.ofNat 32 z.val <<< 16)

/-- The overtemperature check on one zone (R164). -/
def overtempCheck (v : Int) (n : StationId) (z : ZoneNum) (s : State) : State :=
  if (s.zone n z).state = .on ∧ (s.zoneRecord n z).overtemp ≤ v then
    recordFault (.station n) .overtemp (overtempDetail v z) (s.updZone n z fun zn => zn.fail .overtemp s.now)
  else s

/-- An accepted surface value applied to each zone it serves: the overtemperature check first, then the want (R156). -/
def applySurface (i : SlotId) (v : Int) (s : State) : State :=
  (s.zonesOf i).foldl (fun s p => evalWant p.1 p.2 (overtempCheck v p.1 p.2 s)) s

/-! ### Contactor watch (R165, R166) -/

/-- One zone under the contactor watch: `differ` says whether the reported and the commanded bit differ. -/
def Zone.watch (z : Zone) (differ : Bool) (t : Timer) : Zone :=
  match z.state with
  | .disabled | .fault => z
  | _ => { z with mismatch := if differ then some (z.mismatch.getD t) else none }

/-- The contactor watch on a telemetry's contactor mask (R165). -/
def contactorWatch (n : StationId) (contactors : BitVec 4) (s : State) : State :=
  s.updStation n fun st =>
    { st with
      zones := Tab.ofFn fun z =>
        (st.zones.get z).watch (contactors.getLsbD z.val != st.commandedMask.getLsbD z.val)
          (s.timer s.settings.timing.contactorMismatch) }

/-- The contactor mask last reported; all open where no telemetry stands. -/
def reportedMask (st : Station) : BitVec 4 :=
  match st.lastTelemetry with
  | some t => t.contactors
  | none => 0

/-- The detail of a CONTACTOR report: zone, commanded mask, reported mask (R166). -/
def contactorDetail (z : ZoneNum) (commanded reported : BitVec 4) : BitVec 32 :=
  BitVec.ofNat 32 z.val ||| (commanded.setWidth 32 <<< 8) ||| (reported.setWidth 32 <<< 16)

/-! ### Shedding (R55, R56, R169) -/

/-- The on-time of an ON zone: the interval from its on-start (R155). -/
def State.onTime (s : State) (p : StationId × ZoneNum) : Nat :=
  match (s.zone p.1 p.2).onStart with
  | none => 0
  | some t => (s.now - t).toNat

/-- Whether one zone comes before another in the order of shedding: priority 3 first, then the longest on-time, then
ascending station and zone (R56). -/
def shedFirst (s : State) (p q : StationId × ZoneNum) : Bool :=
  let pp := (s.zoneRecord p.1 p.2).priority
  let pq := (s.zoneRecord q.1 q.2).priority
  decide (pq < pp) || (pp == pq &&
    (decide (s.onTime q < s.onTime p) || (s.onTime p == s.onTime q
      && decide ((zoneIndex p.1 p.2).val ≤ (zoneIndex q.1 q.2).val))))

/-- Zones in the order of shedding (R56). -/
def shedOrder (s : State) (zs : List (StationId × ZoneNum)) : List (StationId × ZoneNum) :=
  zs.insertionSort fun p q => shedFirst s p q = true

/-- A zone shed: it goes to SHED and its power leaves H (R56). -/
def shedZone (p : StationId × ZoneNum) (s : State) : State :=
  s.updZone p.1 p.2 fun z => z.leave .shed s.now

/-- The ON zones that draw power. -/
def State.drawing (s : State) : List (StationId × ZoneNum) :=
  allZones.filter fun p => s.zoneOn p && decide (1 ≤ s.zonePower p)

/-- Zones shed in order until H is at most C − R (R169). -/
def shedToBudget : List (StationId × ZoneNum) → State → State
  | [], s => s
  | p :: ps, s =>
    if s.heatLoad + s.settings.budget.reserve ≤ s.settings.budget.capacity then s
    else shedToBudget ps (shedZone p s)

/-- The shedding that a BUDGET write forces (R169). -/
def budgetShed (s : State) : State := shedToBudget (shedOrder s s.drawing) s

/-! ### Admission (R161) -/

/-- Zones in the order of admission: priority 0 first, then ascending station and zone (R161). -/
def admissionOrder (s : State) : List (StationId × ZoneNum) :=
  ([0, 1, 2, 3] : List Nat).flatMap fun k =>
    allZones.filter fun p => (s.zone p.1 p.2).state == .wait && (s.zoneRecord p.1 p.2).priority == k

/-- A zone admitted: it goes to ON (R161). -/
def admitZone (p : StationId × ZoneNum) (s : State) : State :=
  s.updZone p.1 p.2 fun z =>
    { z with state := .on, onStart := some s.now, minOnReached := false, offStart := none }

/-- Zones admitted in order against a headroom; one that does not fit is passed over (R161). -/
def admitZones : List (StationId × ZoneNum) → Int → State → State
  | [], _, s => s
  | p :: ps, room, s =>
    if (s.zonePower p : Int) ≤ room then admitZones ps (room - s.zonePower p) (admitZone p s)
    else admitZones ps room s

/-! ### ZONES writes (R154) -/

/-- A zone's working state brought into line with a new record, given whether its station's heat block holds (R154). -/
def Zone.rewritten (z : Zone) (wasEnabled enabled block : Bool) (now : Time) : Zone :=
  if !enabled then
    { state := .disabled, onStart := none, minOnReached := false
      offStart := if z.state = .on then some now else z.offStart, faultReason := none, mismatch := none }
  else if !wasEnabled then
    { z with state := if block then .inhibited else .off, onStart := none, minOnReached := false, offStart := none }
  else z

/-- A zone's min_on and min_off expiries handled where the new minimum has already elapsed (R154). -/
def handleElapsed (n : StationId) (z : ZoneNum) (s : State) : State :=
  s.updZone n z fun zn =>
    { zn with
      minOnReached := if zn.state = .on then s.minOnReached n z else false
      offStart := if s.minOffSatisfied n z then none else zn.offStart }

/-- What a ZONES write does to one zone it names: `old` is the record it replaced (R154). -/
def settleZoneWrite (old : Tab 32 ZoneRecord) (p : StationId × ZoneNum) (s : State) : State :=
  let enabled := isYes (s.zoneRecord p.1 p.2).enabled
  let s1 := s.updZone p.1 p.2 fun z =>
    z.rewritten (isYes (old.get (zoneIndex p.1 p.2)).enabled) enabled (heatBlock (s.station p.1)) s.now
  if enabled then evalWant p.1 p.2 (handleElapsed p.1 p.2 s1) else s1

end Sys2Proof.Machine
end

