-- ==== Sys2Proof/Machine/Stow.lean ====
section
/-! DEFINITION. The Wind and Stow Controller's operations: the wind level, the blind timer, the stow cause set, activation,
stow progress and release (R128 to R151), and the end of an event. -/

namespace Sys2Proof.Machine

/-! ### The wind level (R131 to R133) -/

/-- A change of the level: WIND_LEVEL is raised, and WIND stands in the stow cause set while the level is STOW (R133,
R135). -/
def setLevel (l : WindLevel) (s : State) : State :=
  if l = s.wind.level then s
  else
    raise .windLevel
      { s with wind := { s.wind with level := l, causes := { s.wind.causes with wind := l == .stow } } }

/-- The hold-down timer set or cancelled. -/
def setHoldDown (t : Option Timer) (s : State) : State := { s with wind := { s.wind with holdDown := t } }

/-- The level evaluation at given figures G and S (R131). -/
def evalLevelAt (g u : Int) (s : State) : State :=
  let target := targetLevel s.settings.wind g u
  if levelIndex s.wind.level < levelIndex target then setHoldDown none (setLevel target s)
  else if s.wind.level = .calm then s
  else if releaseHolds (s.windRecord s.wind.level) g u then
    match s.wind.holdDown with
    | some _ => s
    | none => setHoldDown (some (s.timer (s.windRecord s.wind.level).holdDown)) s
  else setHoldDown none s

/-- The level evaluation, made while some anemometer is in service (R130, R131, R134). -/
def evalLevel (s : State) : State :=
  match s.worstGust, s.worstSustained with
  | some g, some u => evalLevelAt g u s
  | _, _ => s

/-- The level one step below (R132). -/
def levelBelow : WindLevel → WindLevel
  | .stow => .gusty
  | .gusty => .breezy
  | .breezy => .calm
  | .calm => .calm

/-- An anemometer has entered service, and the count before was as given: from 0, the blind timer is cancelled and BLIND
leaves the stow cause set (R134). -/
def anemometerEntered (before : Nat) (s : State) : State :=
  if before = 0 then
    { s with wind := { s.wind with blindTimer := none, causes := { s.wind.causes with blind := false } } }
  else s

/-- Anemometers have left service, and the count before was as given: to 0, the blind timer starts and the hold-down is
cancelled; otherwise the level is evaluated over those that remain (R130, R134). -/
def anemometersLeft (before : Nat) (s : State) : State :=
  if s.anemometers.length = 0 then
    if before = 0 then s
    else
      { s with wind := { s.wind with blindTimer := some (s.timer s.settings.timing.blindTimeout), holdDown := none } }
  else evalLevel s

/-! ### Stow progress (R139 to R141) -/

/-- Entry to MOVING: the stow-start time is recorded and the stow timeout starts (R141). -/
def enterMoving (n : StationId) (s : State) : State :=
  s.updStation n fun st =>
    { st with
      progress := .moving
      warnTimer := none
      stowStart := some s.now
      stowTimeout := some (s.timer s.settings.timing.stowTimeout) }

/-- Entry to WARNING: STOP, then HORN on, and the warn-expiry time; with stow warn time 0 the station passes straight to
MOVING after the STOP (R139). -/
def enterWarning (n : StationId) (s : State) : State :=
  let s1 := offerStop n (s.updStation n fun st => { st with progress := .warning })
  if s.settings.timing.stowWarn = 0 then enterMoving n s1
  else
    (offer n (.horn true) s1).updStation n fun st =>
      { st with warnTimer := some (s.timer s.settings.timing.stowWarn) }

/-- A WARNING station has turned non-permitting: its warn-expiry time is cancelled and HORN off is offered (R140). -/
def suspendWarning (n : StationId) (s : State) : State :=
  if (s.station n).progress = .warning then
    offer n (.horn false) (s.updStation n fun st => { st with warnTimer := none })
  else s

/-! ### Activation and release (R138, R148) -/

/-- A station's part in steps 1 to 3 of an activation: every queued SETPOINT becomes a STOP, demand, freshness and grants
return, and an installed station becomes PENDING (R138). -/
def activateStation (stop : Setpoint) (st : Station) : Station :=
  { clearDemand st with
    queue := replaceSetpoints (fun _ => true) stop st.queue
    grant := noGrant
    progress := if st.installed then .pending else .none }

/-- A PENDING station that is not blocked enters WARNING (R138 step 4). -/
def startWarning (s : State) (n : StationId) : State :=
  if (s.station n).progress = .pending ∧ (s.authority n).blocked = false then enterWarning n s else s

/-- The activation of cluster stow (R138). -/
def activate (s : State) : State :=
  let s1 := s.mapStations fun n st => activateStation (s.stopSetpoint n) st
  let s2 := stationIds.foldl startWarning s1
  raise .stowChange { s2 with wind := { s2.wind with refresh := some (s2.timer s2.settings.timing.stowRefresh) } }

/-- The offers of a release to one station: STOP while MOVING, HORN off while STOW-WARNING, PIN out where a pin is fitted
(R148). -/
def releaseOffers (s : State) (n : StationId) : State :=
  let st := s.station n
  let s1 := if st.progress = .moving then offerStop n s else s
  let s2 := if st.progress = .warning ∧ (authorityOf true st).blocked = false then offer n (.horn false) s1 else s1
  if st.installed && isYes (s.envelope n).pinFitted then offer n (.pin false) s2 else s2

/-- A station's record after a release (R148). -/
def releaseStation (st : Station) : Station :=
  { clearDemand st with progress := .none, warnTimer := none, stowTimeout := none, grant := noGrant }

/-- The release of cluster stow (R148). -/
def releaseStow (s : State) : State :=
  let s1 := stationIds.foldl releaseOffers s
  let s2 := s1.mapStations fun _ st => releaseStation st
  raise .stowChange { s2 with wind := { s2.wind with refresh := none } }

/-- Activation or release, decided by the stow cause set before and after an event (R135, R149). -/
def settleStow (s0 s : State) : State :=
  if !s0.stowActive && s.stowActive then activate s
  else if s0.stowActive && !s.stowActive then releaseStow s
  else s

/-- The end of an event that began in `s0`: the stow decision, the HEAT markers of changed ON masks (R168), then the
attention unit's examination (R179). -/
def closeEvent (s0 s : State) : State := examine (offerHeatMarkers s0 (settleStow s0 s))

/-- The STORM input at a level: STORM_LINE stands in the stow cause set while it is asserted (R136). -/
def stormLevel (asserted : Bool) (s : State) : State :=
  { s with stormInput := asserted, wind := { s.wind with causes := { s.wind.causes with stormLine := asserted } } }

/-! ### Stow targets and completion (R143 to R145) -/

/-- The azimuth of a station's stow before the clamp: the position, or for KEEP the azimuth of its stow demand, else the
one a STOP setpoint would take (R143). -/
def stowAzimuth (e : Envelope) (st : Station) : Int :=
  match e.stowAz with
  | .position p => p
  | .keep => if st.demand.cls = .stow then st.demand.azTarget else (stopTargets st).1

/-- The stow targets of a station, clamped into its soft limits (R143). -/
def State.stowTargets (s : State) (n : StationId) : Int × Int :=
  let e := s.envelope n
  (clampInt e.azMin e.azMax (stowAzimuth e (s.station n)), clampInt e.elMin e.elMax e.stowEl)

/-- Whether the clamp changes a stow target (R143). -/
def State.stowClamped (s : State) (n : StationId) : Bool :=
  (s.stowTargets n).1 != stowAzimuth (s.envelope n) (s.station n) || (s.stowTargets n).2 != (s.envelope n).stowEl

/-- Whether a telemetry stands within stow_tol of both stow targets (R144). -/
def State.inTolerance (s : State) (n : StationId) (t : Telemetry) : Bool :=
  decide ((t.az - (s.stowTargets n).1).natAbs ≤ (s.envelope n).stowTol
    ∧ (t.el - (s.stowTargets n).2).natAbs ≤ (s.envelope n).stowTol)

/-- The stow test on a telemetry arrival (R144, R145). -/
def stowTest (n : StationId) (t : Telemetry) (s : State) : State :=
  let arrived := s.inTolerance n t
  let pinned := !isYes (s.envelope n).pinFitted || t.pinEngaged
  match s.authority n with
  | .stowMoving =>
    if arrived then
      if pinned then s.updStation n fun st => { st with progress := .stowed, stowTimeout := none }
      else offer n (.pin true) s
    else s
  | .stowStowed => if arrived && pinned then s else enterMoving n s
  | _ => s

/-- The detail of a STOW_TIMEOUT report: 1 when the last telemetry is in tolerance and a pin is fitted (R146). -/
def State.stowTimeoutDetail (s : State) (n : StationId) : BitVec 32 :=
  match (s.station n).lastTelemetry with
  | none => 0
  | some t => if s.inTolerance n t && isYes (s.envelope n).pinFitted then 1 else 0

end Sys2Proof.Machine
end

