-- ==== Sys2Proof/Machine/Lockout.lean ====
section
/-! DEFINITION. The Lockout Table's operations (R85 to R102), and what a change of a station's record brings about in the
other blocks: the transition of R20, the suspended warning, clearing, the return to stow and the heat block. -/

namespace Sys2Proof.Machine

/-! ### Clearing (R97, R98) -/

/-- A present clearing is cancelled with HORN off where a holder claims DRIVE (R98). -/
def cancelClearing (n : StationId) (s : State) : State :=
  if (s.station n).clearing.isSome && driveCount (s.station n) != 0 then
    raise .lockChange (offer n (.horn false) (s.updStation n fun st => { st with clearing := none }))
  else s

/-- Clearing starts, with HORN on, in an event that makes the station eligible when it was not (R97). Its start is a lock
change and raises LOCK_CHANGE (R87), on an ENVELOPE_APPLY too, where R73 speaks of no attention cause (log entry 37). -/
def startClearing (n : StationId) (wasEligible : Bool) (s : State) : State :=
  if !wasEligible && eligible (s.station n) then
    raise .lockChange
      (offer n (.horn true)
        (s.updStation n fun st => { st with clearing := some (s.timer s.settings.timing.clearDelay) }))
  else s

/-! ### What a change of a record brings about -/

/-- A PENDING or WARNING station whose blocking has ended under active stow enters WARNING (R18, R139). -/
def resumeStow (n : StationId) (wasBlocked : Bool) (s : State) : State :=
  if wasBlocked && s.stowActive && !(s.authority n).blocked
      && ((s.station n).progress == .pending || (s.station n).progress == .warning) then
    enterWarning n s
  else s

/-- The heat block of a station begins or ends, where the event changed it (R101, R163). -/
def settleHeatBlock (n : StationId) (before : Bool) (s : State) : State :=
  if !before && heatBlock (s.station n) then beginHeatBlock n s
  else if before && !heatBlock (s.station n) then endHeatBlock n s
  else s

/-- What the change of a station's record between `s0` and `s` brings about in the other blocks, with the LOCK_REPLY that
the event offers: the transition of R20, the reply, the suspended warning (R140), clearing cancelled or started (R98,
R97), the return to stow (R139), and the heat block (R101). HORN entries follow the reply (R90). -/
def settleStation (n : StationId) (s0 : State) (reply : Option LockReply) (s : State) : State :=
  let turned := (s0.authority n).permitting && !(s.authority n).permitting
  let s1 := if turned then revokeMotion n s else s
  let s2 :=
    match reply with
    | none => s1
    | some r => offer n (.lockReply r) s1
  let s3 := if turned then suspendWarning n s2 else s2
  let s4 := cancelClearing n s3
  let s5 := startClearing n (eligible (s0.station n)) s4
  let s6 := resumeStow n (s0.authority n).blocked s5
  settleHeatBlock n (heatBlock (s0.station n)) s6

/-! ### Good frames and link loss (R4 to R6) -/

/-- The effect of a good frame on the link: a DOWN link comes UP and LINK_UP and a HEAT marker are enqueued; the liveness
deadline starts from the arrival (R4, R5). -/
def goodFrame (n : StationId) (s : State) : State :=
  let up := s.updStation n fun st => { st with link := .up (s.timer s.settings.timing.linkTimeout) }
  if (s.station n).link.isUp then up else offer n .heat (offer n .linkUp up)

/-- The link goes DOWN: the queue is emptied, the frame in transmission is abandoned, the lock report is unseen, clearing
and mismatch deadlines are cancelled (R6, R38, R165). -/
def dropLink (n : StationId) (s : State) : State :=
  s.updStation n fun st =>
    { st with
      link := .down
      lockReportSeen := false
      clearing := none
      queue := []
      tx := none
      zones := Tab.ofFn fun z => { st.zones.get z with mismatch := none } }

/-! ### The holder list (R85 to R93) -/

/-- Whether a LOCK or UNLOCK frame is answered BAD (R88, R89). -/
def badClaim (badge : Badge) (scope : Scope) : Bool :=
  badge == 0 || badge == 0xFFFF || emptyScope scope

/-- Whether a badge holds a record. -/
def holds (hs : List Holder) (badge : Badge) : Bool := hs.any (·.badge == badge)

/-- The list and the outcome of a claim (R88, R95). -/
def claim (hs : List Holder) (badge : Badge) (scope : Scope) : List Holder × LockOutcome :=
  if holds hs badge then
    (hs.map fun h => if h.badge = badge then { h with scope := unionScope h.scope scope } else h, .merged)
  else if hs.length < Config.holderListSize then (hs ++ [⟨badge, scope⟩], .taken)
  else (hs, .full)

/-- The list and the outcome of a release (R89, R96). -/
def unclaim (hs : List Holder) (badge : Badge) (scope : Scope) : List Holder × LockOutcome :=
  if holds hs badge then
    ((hs.map fun h => if h.badge = badge then { h with scope := minusScope h.scope scope } else h).filter
      fun h => !emptyScope h.scope, .released)
  else (hs, .notHolder)

/-- The holder list of a station replaced, with the lock change that makes (R87), and everything that follows (R86). -/
def changeHolders (n : StationId) (s0 : State) (hs : List Holder) (reply : Option LockReply) (s : State) : State :=
  let s1 := s.updStation n fun st => { st with holders := hs }
  settleStation n s0 reply (if hs = (s.station n).holders then s1 else raise .lockChange s1)

/-- A badge as the detail of a report (R88, R89). -/
def badgeDetail (badge : Badge) : BitVec 32 := badge.setWidth 32

/-- A LOCK frame handled by the Lockout Table (R88, R90). -/
def takeLock (n : StationId) (s0 : State) (badge : Badge) (scope : Scope) (s : State) : State :=
  let hs := (s.station n).holders
  let out := if badClaim badge scope then (hs, .bad) else claim hs badge scope
  let s1 := if out.2 = .full then recordFault (.station n) .lockFull (badgeDetail badge) s else s
  changeHolders n s0 out.1 (some ⟨badge, out.2, standingScope out.1 badge⟩) s1

/-- An UNLOCK frame handled by the Lockout Table (R89, R90). -/
def takeUnlock (n : StationId) (s0 : State) (badge : Badge) (scope : Scope) (s : State) : State :=
  let hs := (s.station n).holders
  let out := if badClaim badge scope then (hs, .bad) else unclaim hs badge scope
  let s1 := if out.2 = .notHolder then recordFault (.station n) .notHolder (badgeDetail badge) s else s
  changeHolders n s0 out.1 (some ⟨badge, out.2, standingScope out.1 badge⟩) s1

/-! ### Lock reports (R91 to R94) -/

/-- Whether a LOCK_REPORT is malformed (R91). -/
def malformedReport (es : List ReportEntry) : Bool :=
  decide (6 < es.length) || es.any fun e => e.badge == 0xFFFF || emptyScope e.scope

/-- One report entry united into the crew set (R92 step 2). -/
def addCrew (crew : List Holder) (e : ReportEntry) : List Holder :=
  if holds crew e.badge then
    crew.map fun h => if h.badge = e.badge then { h with scope := unionScope h.scope e.scope } else h
  else crew ++ [⟨e.badge, e.scope⟩]

/-- The crew set of a report: badge 0 set aside, repeated badges united (R92 steps 1 and 2). -/
def crewSet (es : List ReportEntry) : List Holder :=
  (es.filter fun e => e.badge != 0).foldl addCrew []

/-- A control-room record placed at its index among crew records, or at the tail when they are fewer (R92 step 4). -/
def placeAt (i : Nat) (room : Holder) (crew : List Holder) : List Holder :=
  crew.take i ++ room :: crew.drop i

/-- The list that a report leaves, and the sixth crew member folded into the control-room record, if any (R92, R93). It
follows R92's steps where R92 also says that a report and a REMOTE_LOCK leave one list in either order (log entry 38). -/
def rebuild (hs : List Holder) (es : List ReportEntry) : List Holder × Option Badge :=
  let crew := crewSet es
  match hs.find? (·.badge == 0) with
  | none => (crew, none)
  | some room =>
    let i := hs.findIdx (·.badge == 0)
    match crew.drop 5 with
    | [] => (placeAt i room crew, none)
    | sixth :: _ =>
      (placeAt i { room with scope := unionScope room.scope sixth.scope } (crew.take 5), some sixth.badge)

/-- A well-formed LOCK_REPORT taken (R92 to R94). -/
def takeReport (n : StationId) (s0 : State) (es : List ReportEntry) (s : State) : State :=
  let built := rebuild (s.station n).holders es
  let s1 := s.updStation n fun st => { st with holders := built.1, lockReportSeen := true }
  let s2 :=
    match built.2 with
    | none => s1
    | some badge => recordFault (.station n) .lockFull (badgeDetail badge) s1
  let reply : Option LockReply :=
    if holds built.1 0 then some ⟨0, .standing, standingScope built.1 0⟩ else none
  settleStation n s0 reply (raise .lockChange s2)

end Sys2Proof.Machine
end

