-- ==== Sys2Proof/Machine/EnvelopeUnit.lean ====
section
/-! DEFINITION. The Envelope Unit's operations: outcomes of an apply, a new active entry and what follows from it, the
overrun and drive-fault checks, and the conditions of STATION_RESUME (R67 to R84). -/

namespace Sys2Proof.Machine

/-- The outcomes of ENVELOPE_APPLY for one station, with the failing check of an INVALID one (R72, R75). -/
inductive ApplyOutcome where
  | protectedHold
  | busy
  | invalid (check : Nat)
  | applied
deriving DecidableEq, Repr

/-- The outcome of an executed ENVELOPE_APPLY for a station (R72). -/
def State.applyOutcome (s : State) (n : StationId) : ApplyOutcome :=
  let st := s.station n
  if s.authority n = .held ∨ st.holders ≠ [] then .protectedHold
  else if st.progress = .warning ∨ st.progress = .moving then .busy
  else
    match envelopeFailing (s.shadow.get n) with
    | some k => .invalid k
    | none => .applied

/-- A setpoint brought within an entry: targets clamped, speeds capped at the rate maxima (R74). -/
def Setpoint.within (e : Envelope) (sp : Setpoint) : Setpoint where
  azTarget := clampInt e.azMin e.azMax sp.azTarget
  azSpeed := min sp.azSpeed e.azRateMax
  elTarget := clampInt e.elMin e.elMax sp.elTarget
  elSpeed := min sp.elSpeed e.elRateMax

/-- A queue entry brought within an envelope entry (R74). -/
def StationEntry.within (e : Envelope) : StationEntry → StationEntry
  | .setpoint sp => .setpoint (sp.within e)
  | x => x

/-- A station record under a new active entry: queued SETPOINTs and grant speeds are brought within it, and installed is
copied from it (R73, R74, R3). -/
def Station.underEnvelope (st : Station) (e : Envelope) : Station :=
  { st with
    queue := st.queue.map (·.within e)
    grant := { st.grant with
      azSpeed := min st.grant.azSpeed e.azRateMax
      elSpeed := min st.grant.elSpeed e.elRateMax }
    installed := isYes e.installed }

/-- A station that has ceased to be installed: its progress becomes NONE, its warn and stow timers are cancelled, and
HORN off is offered where it was in WARNING (R3, R140). -/
def uninstallStow (n : StationId) (s : State) : State :=
  let s1 := s.updStation n fun st => { st with progress := .none, warnTimer := none, stowTimeout := none }
  if (s.station n).progress = .warning then offer n (.horn false) s1 else s1

/-- What a change of installed does to the stow: uninstalling ends it; installing under active stow gives the station the
part that an activation gives each installed one, with its STOP setpoints composed now (R3, R138). -/
def settleInstalled (n : StationId) (was : Bool) (s : State) : State :=
  if was && !(s.station n).installed then uninstallStow n s
  else if !was && (s.station n).installed && s.stowActive then
    s.updStation n (activateStation (s.stopSetpoint n))
  else s

/-- A new active entry for a station, with all that follows in the same event (R73, R74). -/
def writeActive (n : StationId) (e : Envelope) (s : State) : State :=
  let s1 := { s with settings := { s.settings with active := s.settings.active.set n e } }
  let s2 := s1.updStation n fun st => st.underEnvelope e
  settleStation n s none (settleInstalled n (s.station n).installed s2)

/-- The copy of a station's shadow entry into its active entry, where its outcome is APPLIED (R73). -/
def applyStation (s : State) (n : StationId) : State :=
  if s.applyOutcome n = .applied then writeActive n (s.shadow.get n) s else s

/-- Whether a station bars ENVELOPE_CLEAR_ALL: 0 for neither, 1 protected, 2 in stow motion (R77, R201). -/
def State.clearBar (s : State) (n : StationId) : Nat :=
  let st := s.station n
  if s.authority n = .held ∨ st.holders ≠ [] then 1
  else if st.progress = .warning ∨ st.progress = .moving then 2
  else 0

/-- Both tables returned to their defaults (R77). -/
def clearEnvelopes (s : State) : State :=
  stationIds.foldl (fun s n => writeActive n defaultEnvelope s) { s with shadow := Tab.fill 8 defaultEnvelope }

/-! ### Overrun and drive fault (R80, R81) -/

/-- Whether a position lies beyond two limits widened by a margin (R80). -/
def beyond (lo hi : Int) (margin : Nat) (v : Int) : Bool := decide (v < lo - margin ∨ hi + margin < v)

/-- The detail of an OVERRUN report: the axis in the high byte, the position in the low 24 bits (R80). -/
def overrunDetail (axis : BitVec 8) (v : Int) : BitVec 32 := axis ++ BitVec.ofInt 24 v

/-- The latch set, and its fault recorded. -/
def latch (n : StationId) (l : FaultLatch) (r : FaultReason) (detail : BitVec 32) (s : State) : State :=
  recordFault (.station n) r detail (s.updStation n fun st => { st with faultLatch := l })

/-- The overrun and drive-fault checks on a telemetry arrival (R80, R81). -/
def checkTelemetry (n : StationId) (t : Telemetry) (s : State) : State :=
  let e := s.envelope n
  let st := s.station n
  if st.installed && st.faultLatch == .none then
    if beyond e.azMin e.azMax e.overrunMargin t.az then latch n .overrun .overrun (overrunDetail 0 t.az) s
    else if beyond e.elMin e.elMax e.overrunMargin t.el then latch n .overrun .overrun (overrunDetail 1 t.el) s
    else if t.driveFault then latch n .driveFault .driveFault 0 s
    else s
  else s

/-- Why a STATION_RESUME is refused WRONG_STATE, by the code of the reason: 0 NOT_LATCHED, 1 OUTSIDE_LIMITS,
2 DRIVE_FAULT (R83). -/
def State.resumeBar (s : State) (n : StationId) : Option Nat :=
  let st := s.station n
  if st.faultLatch = .none then some 0
  else
    match st.lastTelemetry with
    | none => none
    | some t => if !withinSoft (s.envelope n) t.az t.el then some 1 else if t.driveFault then some 2 else none

end Sys2Proof.Machine
end

