-- ==== Sys2Proof/Machine/Allocation.lean ====
section
/-! DEFINITION. The Setpoint Gate and the Slew Allocator: the entries of a pointing batch, the refresh of demand, the joint
slew allocation, and the setpoints formed from its grants (R23 to R32, R47 to R62, R142, R143). -/

namespace Sys2Proof.Machine

/-! ### Motion watts and caps (R27, R50) -/

/-- The motion watts of one axis: speed × k × wf / 4096, rounded up (R50). -/
def axisWatts (speed k wf : Nat) : Nat := (speed * k * wf + 4095) / 4096

/-- The motion watts of a station's speeds under an entry and a wind factor (R50). -/
def motionWatts (e : Envelope) (wf azSpeed elSpeed : Nat) : Nat :=
  axisWatts azSpeed e.kAz wf + axisWatts elSpeed e.kEl wf

/-- The wind cap of an axis (R27). -/
def windCap (rateMax pct : Nat) : Nat := rateMax * pct / 100

/-- A speed request capped (R27). -/
def capSpeed (rateMax pct req : Nat) : Nat := min req (min rateMax (windCap rateMax pct))

/-- The cause of a cap: WIND_CAP when the wind cap is below the envelope maximum, RATE_CAP when it is not (R27). -/
def capCause (rateMax pct req : Nat) : ClipSet :=
  if capSpeed rateMax pct req < req then
    if windCap rateMax pct < rateMax then { noClip with windCap := true } else { noClip with rateCap := true }
  else noClip

/-! ### Batch entries (R25 to R28) -/

/-- A demand clamped, capped and priced against the figures in force, and the causes of the changes (R26, R27, R28,
R51). -/
def State.fitDemand (s : State) (n : StationId) (az el : Int) (azSpeed elSpeed : Nat) : Demand × ClipSet :=
  let e := s.envelope n
  let azT := clampInt e.azMin e.azMax az
  let elT := clampInt e.elMin e.elMax el
  let azS := capSpeed e.azRateMax s.pct azSpeed
  let elS := capSpeed e.elRateMax s.pct elSpeed
  ({ cls := .track, azSpeed := azS, elSpeed := elS, azTarget := azT, elTarget := elT
     watts := motionWatts e s.windFactor azS elS },
   (capCause e.azRateMax s.pct azSpeed).union
     ((capCause e.elRateMax s.pct elSpeed).union { noClip with targetClamp := azT != az || elT != el }))

/-- A taken entry written into the station's demand, freshness and clip sets (R28). -/
def writeEntry (n : StationId) (b : BatchEntry) (s : State) : State :=
  let fit := s.fitDemand n b.azTarget.toInt b.elTarget.toInt b.azSpeed.toNat b.elSpeed.toNat
  setClip n fit.2
    (s.updStation n fun st =>
      { st with demand := fit.1, freshness := some (s.timer s.settings.timing.setpointDeadline), stale := false })

/-- The clip cause of an entry discarded for an authority, where it has one (R25). -/
def discardCause : Authority → Option ClipSet
  | .held | .locked | .clearing => some { noClip with lockout := true }
  | .stopped => some { noClip with stopped := true }
  | _ => none

/-- Whether an authority takes batch entries (R25). -/
def Authority.takes : Authority → Bool
  | .coasting | .tracking | .idle => true
  | _ => false

/-- The station an entry names; station numbers above 7 are refused before (R23). -/
def entryStation (b : BatchEntry) : StationId := ⟨b.station.toNat % 8, Nat.mod_lt _ (by decide)⟩

/-- One entry of a well-formed batch with cluster stow inactive (R25 to R28). -/
def handleEntry (s : State) (b : BatchEntry) : State :=
  let a := s.authority (entryStation b)
  if a.takes then writeEntry (entryStation b) b s
  else
    match discardCause a with
    | some c => setClip (entryStation b) c s
    | none => s

/-- One entry of a batch taken while cluster stow is active (R24). -/
def overrideEntry (s : State) (b : BatchEntry) : State :=
  if (s.station (entryStation b)).installed then setClip (entryStation b) { noClip with stowOverride := true } s else s

/-! ### The allocation (R51 to R62) -/

/-- Whether a station is a member of an allocation (R52). -/
def State.memberOf (s : State) (k : AllocKind) (n : StationId) : Bool :=
  match k with
  | .none => false
  | .batch => (s.station n).demand.cls == .track && !(s.station n).stale
  | .stow => s.authority n == .stowMoving

/-- The refresh of a member's demand at the start of a batch allocation; its clip_status keeps its capping causes and
gains the refresh causes (R51, R60). -/
def refreshDemand (s : State) (n : StationId) : State :=
  let st := s.station n
  if s.memberOf .batch n then
    let fit := s.fitDemand n st.demand.azTarget st.demand.elTarget st.demand.azSpeed st.demand.elSpeed
    setClip n (st.clipStatus.capping.union fit.2) (s.updStation n fun st => { st with demand := fit.1 })
  else s

/-- M, the sum of the members' requested motion watts (R53). -/
def State.demandW (s : State) (k : AllocKind) : Nat :=
  ((stationIds.filter (s.memberOf k)).map fun n => (s.station n).demand.watts).sum

/-- Hold, the sum of hold_W over the energised stations (R53). -/
def State.holdW (s : State) : Nat :=
  ((stationIds.filter fun n => (s.authority n).energised).map fun n => (s.envelope n).holdW).sum

/-- C − R − H − Hold, signed. -/
def State.afterHold (s : State) : Int :=
  (s.settings.budget.capacity : Int) - s.settings.budget.reserve - s.heatLoad - s.holdW

/-- The room of the power account (R53). -/
def State.room (s : State) : Nat := s.afterHold.toNat

/-- The shedding candidates of an allocation (R55). -/
def State.candidates (s : State) (k : AllocKind) : List (StationId × ZoneNum) :=
  match k with
  | .stow => s.drawing
  | _ =>
    if s.settings.budget.meltPriority = 1 then []
    else
      s.drawing.filter fun p =>
        decide (1 ≤ (s.zoneRecord p.1 p.2).priority) && s.minOnReached p.1 p.2

/-- Candidates shed in order until the shed power is at least the shortfall: the state, the number shed and their power
(R56). -/
def shedUntil (shortfall : Nat) : List (StationId × ZoneNum) → State → Nat → Nat → State × Nat × Nat
  | [], s, count, watts => (s, count, watts)
  | p :: ps, s, count, watts =>
    if shortfall ≤ watts then (s, count, watts)
    else shedUntil shortfall ps (shedZone p s) (count + 1) (watts + s.zonePower p)

/-- The shedding of an allocation (R54 to R56). -/
def allocationShed (k : AllocKind) (s : State) : State × Nat × Nat :=
  if s.demandW k ≤ s.room then (s, 0, 0)
  else shedUntil (s.demandW k - s.room) (shedOrder s (s.candidates k)) s 0 0

/-- The scale of a demand in a room (R54). -/
def scaleOf (demand room : Nat) : Nat := if demand ≤ room then 1024 else room * 1024 / demand

/-- Whether a zone remains ON, drawing power, that was no candidate (R59). -/
def heatHeld (before after : State) (k : AllocKind) : Bool :=
  after.drawing.any fun p => !(before.candidates k).contains p

/-- The grant of a member's demand at a scale (R58). -/
def grantOf (d : Demand) (scale : Nat) : Grant where
  azSpeed := d.azSpeed * scale / 1024
  elSpeed := d.elSpeed * scale / 1024
  watts := d.watts * scale / 1024

/-- The causes an allocation sets on a member (R59). -/
def allocationCauses (d : Demand) (scale : Nat) (held : Bool) : ClipSet :=
  if d.watts ≠ 0 ∧ scale < 1024 then { noClip with budget := true, heatHeld := held } else noClip

/-- A station's record after an allocation: grants, and a member's clip sets (R58, R60). -/
def Station.granted (st : Station) (k : AllocKind) (member : Bool) (scale : Nat) (held : Bool) : Station :=
  if member then
    let base := if k = .stow then noClip else st.clipStatus
    let clip := base.union (allocationCauses st.demand scale held)
    { st with grant := grantOf st.demand scale, clipStatus := clip, clipLog := st.clipLog.union clip }
  else { st with grant := noGrant }

/-- G, the sum of granted motion watts over all stations (R61). -/
def State.grantedW (s : State) : Nat := (stationIds.map fun n => (s.station n).grant.watts).sum

/-- One allocation, from shedding to the hand-off to the Melt Controller, and the HEAT markers of the zones it changed
(R47, R53 to R62, R168). -/
def allocate (k : AllocKind) (s : State) : State :=
  let demand := s.demandW k
  let shed := allocationShed k s
  let s1 := shed.1
  let scale := scaleOf demand s1.room
  let held := heatHeld s s1 k
  let s2 := s1.mapStations fun n st => st.granted k (s.memberOf k n) scale held
  let headroom := s1.afterHold - s2.grantedW
  let s3 := { s2 with
    alloc := {
      kind := k
      time := s.now
      members := (stationIds.filter (s.memberOf k)).length
      demandW := demand
      holdW := s.holdW
      heatW := s1.heatLoad
      roomW := s1.room
      scale := scale
      shedCount := shed.2.1
      shedW := shed.2.2
      headroomW := headroom } }
  offerHeatMarkers s (admitZones (admissionOrder s3) headroom s3)

/-- The SETPOINT formed from a station's demand targets and granted speeds (R30, R143). -/
def State.grantSetpoint (s : State) (n : StationId) : Setpoint where
  azTarget := (s.station n).demand.azTarget
  azSpeed := (s.station n).grant.azSpeed
  elTarget := (s.station n).demand.elTarget
  elSpeed := (s.station n).grant.elSpeed

/-- A SETPOINT offered from a station's demand and grant. -/
def offerGrant (s : State) (n : StationId) : State := offer n (.setpoint (s.grantSetpoint n)) s

/-! ### Batches (R23 to R30) -/

/-- Whether the entry at `i` offends: a station number above 7, or the station of an earlier entry (R23). -/
def offends (es : List BatchEntry) (i : Nat) : Bool :=
  match es[i]? with
  | none => false
  | some b => decide (7 < b.station.toNat) || (es.take i).any fun a => a.station == b.station

/-- The station number of a batch's first offending entry, if it has one (R23). -/
def firstOffender (es : List BatchEntry) : Option Byte :=
  ((List.range es.length).find? (offends es)).bind fun i => (es[i]?).map (·.station)

/-- The detail of a malformed batch's report, or none for a well-formed batch (R23). -/
def batchFault (es : List BatchEntry) : Option (BitVec 32) :=
  if es = [] then some 0xFF00
  else (firstOffender es).map fun b => BitVec.ofNat 32 (es.length % 256) ||| ((b.setWidth 32 : BitVec 32) <<< 8)

/-- The stations that are offered a SETPOINT after a batch allocation: those whose entry was taken, and other TRACK
stations, not stale, whose granted speeds changed (R29). -/
def batchOffers (taken : List StationId) (before after : State) : List StationId :=
  stationIds.filter fun n =>
    taken.contains n ||
      ((after.station n).demand.cls == .track && !(after.station n).stale
        && ((before.station n).grant.azSpeed != (after.station n).grant.azSpeed
          || (before.station n).grant.elSpeed != (after.station n).grant.elSpeed))

/-- A well-formed batch with cluster stow inactive: entries, refresh, allocation, offers (R25 to R30, R51). -/
def runBatch (es : List BatchEntry) (s : State) : State :=
  let taken := (es.filter fun b => (s.authority (entryStation b)).takes).map entryStation
  let s1 := es.foldl handleEntry s
  let s2 := allocate .batch (stationIds.foldl refreshDemand s1)
  (batchOffers taken s s2).foldl offerGrant s2

/-! ### Stow refresh (R142, R143) -/

/-- The stow demand of a STOW-MOVING station (R142). -/
def State.stowDemand (s : State) (n : StationId) : Demand :=
  let e := s.envelope n
  let az := min e.stowAzRate e.azRateMax
  let el := min e.stowElRate e.elRateMax
  { cls := .stow, azSpeed := az, elSpeed := el, azTarget := (s.stowTargets n).1, elTarget := (s.stowTargets n).2
    watts := motionWatts e s.windFactor az el }

/-- The stow demand written for the STOW-MOVING stations (R142 step 1). -/
def writeStowDemand (s : State) : State :=
  s.mapStations fun n st => if s.memberOf .stow n then { st with demand := s.stowDemand n } else st

/-- TARGET_CLAMP added to a stow member whose targets the clamp changed, and its stow setpoint offered (R143). -/
def offerStow (clamped : StationId → Bool) (s : State) (n : StationId) : State :=
  let s1 :=
    if clamped n then setClip n ((s.station n).clipStatus.union { noClip with targetClamp := true }) s else s
  offerGrant s1 n

/-- A stow refresh: stow demand, stow allocation, stow setpoints (R142). -/
def runStowRefresh (s : State) : State :=
  let s1 := writeStowDemand s
  let members := stationIds.filter (s.memberOf .stow)
  members.foldl (offerStow s.stowClamped) (allocate .stow s1)

end Sys2Proof.Machine
end

