-- ==== Sys2Proof/Machine/Sensing.lean ====
section
/-! DEFINITION. The Sensor Scanner's operations: calibration and plausibility, slot outcomes and service, substitution,
passes and transactions, and the effect of a POLL_LIST write (R105 to R127). -/

namespace Sys2Proof.Machine

/-! ### Calibration and plausibility (R117, R118) -/

/-- The calibrated value of a raw reading (R117). -/
def calibrate (r : SlotRecord) (raw : Int) : Int :=
  clampInt (-32768) 32767 (raw * (r.calM : Int) / 16384 + r.calB)

/-- Whether a value is plausible for a slot (R118). -/
def plausible (r : SlotRecord) (v : Int) : Bool := decide (r.plausLow ≤ v ∧ v ≤ r.plausHigh)

/-! ### Accepted values (R119, R125 to R127) -/

/-- A ring with a value appended, the oldest removed where it already holds 32 (R125). -/
def pushRing (ring : List Int) (v : Int) : List Int :=
  if ring.length < Config.ringSize then ring ++ [v] else ring.drop 1 ++ [v]

/-- The side after an accepted value (R126). -/
def nextSide (r : SlotRecord) (side : Side) (v : Int) : Side :=
  if v < r.crossLevel - r.deadband then .cold
  else if r.crossLevel + r.deadband < v then .warm
  else side

/-- Whether a change of side is a crossing that cross_dir selects (R126). -/
def crossingRaises (r : SlotRecord) (old new : Side) : Bool :=
  match old, new, crossDirOf r.crossDir with
  | .warm, .cold, some .down | .warm, .cold, some .both => true
  | .cold, .warm, some .up | .cold, .warm, some .both => true
  | _, _, _ => false

/-- A slot with an accepted value: state, miss count, latest value, and the ring or the side of its kind (R119). -/
def Slot.accepted (t : Slot) (r : SlotRecord) (st : SlotState) (v : Int) (now : Time) : Slot :=
  { t with
    state := st
    miss := 0
    latestValue := some (v, now)
    ring := if slotKindOf r.kind = some .windSpeed then pushRing t.ring v else t.ring
    side := if slotKindOf r.kind = some .airTemp then nextSide r t.side v else t.side }

/-- A value accepted for a slot, which takes the state given; a change of service is handed over and the value delivered
to the consumer of the slot's kind (R119 to R122, R125 to R127). -/
def accept (i : SlotId) (st : SlotState) (v : Int) (s : State) : State :=
  let r := s.slotRecord i
  let t := s.slot i
  let s1 := s.updSlot i fun t => t.accepted r st v s.now
  match slotKindOf r.kind with
  | some .windSpeed =>
    evalLevel (if t.inService then s1 else anemometerEntered s.anemometers.length s1)
  | some .airTemp =>
    evalCondition (if crossingRaises r t.side (nextSide r t.side v) then raise .freezeCross s1 else s1)
  | some .surfaceTemp => applySurface i v s1
  | some .precip => evalCondition (if 0 < v then stampPrecip s1 else s1)
  | none => s1

/-! ### Leaving service (R119, R120) -/

/-- A slot put out of service or back to IDLE: its substitute, ring and side go (R120). -/
def Slot.retired (t : Slot) (st : SlotState) (miss : Nat) : Slot :=
  { t with state := st, miss := miss, substitute := none, ring := [], side := .unknown }

/-- A slot takes a state that is not in service; where it was in service, the change is handed to the consumer of its
kind (R120). -/
def retire (i : SlotId) (st : SlotState) (miss : Nat) (s : State) : State :=
  let s1 := s.updSlot i fun t => t.retired st miss
  if (s.slot i).inService then
    match slotKindOf (s.slotRecord i).kind with
    | some .windSpeed => anemometersLeft s.anemometers.length s1
    | some .surfaceTemp => evalWants (s1.zonesOf i) s1
    | some .airTemp | some .precip => evalCondition s1
    | none => s1
  else s1

/-- The detail of a SENSOR_LOST report: the slot's address, then the cause (R119, R122). -/
def lostDetail (address : Byte) (cause : Nat) : BitVec 32 :=
  address.setWidth 32 ||| (BitVec.ofNat 32 cause <<< 8)

/-- A slot lost: it becomes OUT_OF_SERVICE and SENSOR_LOST is recorded with the cause (R119, R122). -/
def loseSlot (i : SlotId) (cause : Nat) (s : State) : State :=
  recordFault (.slot i) .sensorLost (lostDetail (s.slotRecord i).address cause) (retire i .outOfService 3 s)

/-- A miss for a slot, with its cause: 0 for no reading, 1 for an implausible one (R119). A SUBSTITUTED slot takes no
part (R124). -/
def takeMiss (cause : Nat) (i : SlotId) (s : State) : State :=
  match (s.slot i).state with
  | .idle | .active =>
    if (s.slot i).miss < 2 then s.updSlot i fun t => { t with miss := t.miss + 1 } else loseSlot i cause s
  | .outOfService | .substituted => s

/-- A reading taken for an awaited slot (R117 to R119, R124). -/
def takeReading (raw : Int) (i : SlotId) (s : State) : State :=
  let s1 := s.updSlot i fun t => { t with latestRaw := some raw }
  if (s.slot i).state = .substituted then s1
  else
    let v := calibrate (s.slotRecord i) raw
    if plausible (s.slotRecord i) v then accept i .active v s1 else takeMiss 1 i s1

/-- The substitute value of a slot delivered by a pass (R122). -/
def deliverSubstitute (i : SlotId) (s : State) : State :=
  match (s.slot i).substitute with
  | none => s
  | some p => accept i .substituted p.1 s

/-! ### Passes (R111 to R114) -/

/-- The scanner changed. -/
def State.updScanner (s : State) (f : Scanner → Scanner) : State := { s with scanner := f s.scanner }

/-- The end of a pass (R114). -/
def passEnd (s : State) : State :=
  match s.scanner.mode with
  | .once => s.updScanner fun sc => { sc with state := .idle }
  | .continuous =>
    let gap := if s.scanner.issued = false ∧ s.settings.timing.passGap = 0 then 1 else s.settings.timing.passGap
    s.updScanner fun sc => { sc with state := .gap, gapTimer := some (s.timer gap) }

/-- A transaction issued, with the slots it awaits; the pass will go on at `next` (R111, R112). -/
def issue (frame : PollFrame) (slots : List SlotId) (timeout next : Nat) (s : State) : State :=
  s.updScanner fun sc =>
    { sc with
      state := .polling
      position := next
      issued := true
      transaction := some {
        frame := frame
        awaited := slots.map fun i => { slot := i, address := (s.slotRecord i).address, answered := false }
        deadline := s.timer timeout } }

/-- A sequential pass from position `i`, for at most `fuel` positions (R111). -/
def walkSequential : Nat → Nat → State → State
  | 0, _, s => passEnd s
  | fuel + 1, i, s =>
    if h : i < 16 then
      if isYes (s.slotRecord ⟨i, h⟩).enabled then
        if (s.slot ⟨i, h⟩).state = .substituted then walkSequential fuel (i + 1) (deliverSubstitute ⟨i, h⟩ s)
        else
          issue (.poll (s.slotRecord ⟨i, h⟩).address) [⟨i, h⟩] s.settings.timing.pollTimeout (i + 1) s
      else passEnd s
    else passEnd s

/-- A paired pass from pair `p`, for at most `fuel` pairs (R112). -/
def walkPaired : Nat → Nat → State → State
  | 0, _, s => passEnd s
  | fuel + 1, p, s =>
    if h : p < 8 then
      let a : SlotId := ⟨p, by omega⟩
      let b : SlotId := ⟨p + 8, by omega⟩
      let ra := s.slotRecord a
      let rb := s.slotRecord b
      if isYes ra.enabled && isYes rb.enabled then
        if (s.slot a).state = .substituted then
          if (s.slot b).state = .substituted then
            walkPaired fuel (p + 1) (deliverSubstitute b (deliverSubstitute a s))
          else issue (.poll rb.address) [b] s.settings.timing.pollTimeout (p + 1) (deliverSubstitute a s)
        else if (s.slot b).state = .substituted then
          issue (.poll ra.address) [a] s.settings.timing.pollTimeout (p + 1) (deliverSubstitute b s)
        else issue (.pollPair ra.address rb.address) [a, b] (2 * s.settings.timing.pollTimeout) (p + 1) s
      else passEnd s
    else passEnd s

/-- The pass goes on from the position held, in the order held (R111, R112). -/
def continuePass (s : State) : State :=
  match s.scanner.order with
  | .sequential => walkSequential 17 s.scanner.position s
  | .paired => walkPaired 9 s.scanner.position s

/-- A pass begins at position 0, or at pair 0 (R111, R112). -/
def beginPass (s : State) : State :=
  continuePass (s.updScanner fun sc => { sc with state := .polling, position := 0, issued := false, gapTimer := none })

/-- A transaction completes: while POLLING the pass goes on, while STOPPING the scanner becomes IDLE (R113). -/
def completeTransaction (s : State) : State :=
  let s1 := s.updScanner fun sc => { sc with transaction := none }
  match s.scanner.state with
  | .polling => continuePass s1
  | _ => s1.updScanner fun sc => { sc with state := .idle }

/-- The awaited slots that a reading from an address answers (R113). -/
def answeredBy (t : Transaction) (address : Byte) : List SlotId :=
  (t.awaited.filter fun a => !a.answered && a.address == address).map (·.slot)

/-- A transaction with the slots of an address answered (R113). -/
def Transaction.answer (t : Transaction) (address : Byte) : Transaction :=
  { t with awaited := t.awaited.map fun a => if a.address = address then { a with answered := true } else a }

/-- A stray frame on the sensor line: dropped with BAD_FRAME, the code in the high byte and the given byte in the low one
(R113). -/
def strayFrame (code low : Byte) (s : State) : State :=
  recordFault .sensorLine .badFrame ((code ++ (0 : BitVec 16)) ++ low) s

/-- A good READING on the sensor line (R113). -/
def takeSensorFrame (address : Byte) (raw : Int) (s : State) : State :=
  match s.scanner.transaction with
  | none => strayFrame 1 address s
  | some t =>
    match answeredBy t address with
    | [] => strayFrame 1 address s
    | slots =>
      let t1 := t.answer address
      let s1 := slots.foldl (fun s i => takeReading raw i s) (s.updScanner fun sc => { sc with transaction := some t1 })
      if t1.awaited.all (·.answered) then completeTransaction s1 else s1

/-- The expiry of a transaction's deadline (R113). -/
def expireTransaction (t : Transaction) (s : State) : State :=
  completeTransaction
    (((t.awaited.filter fun a => !a.answered).map (·.slot)).foldl (fun s i => takeMiss 0 i s) s)

/-- The autostart that a reset applies (R116). -/
def autostart (s : State) : State :=
  if s.settings.poll.header.autostart = 1 then
    beginPass (s.updScanner fun sc =>
      { sc with
        mode := .continuous
        order := if s.settings.poll.header.order = 1 then .paired else .sequential })
  else s

/-! ### Substitution (R121) -/

/-- A substitute value placed in a slot for a life (R121). -/
def substitute (i : SlotId) (v : Int) (life : Nat) (s : State) : State :=
  accept i .substituted v (s.updSlot i fun t => { t with substitute := some (v, s.timer life) })

/-! ### POLL_LIST writes (R107, R156) -/

/-- A written slot: IDLE, its substitution cancelled, miss count 0, ring and side empty; latest raw and latest value are
kept (R107, R120). -/
def resetWritten (written : SlotId → Bool) (s : State) : State :=
  { s with
    slots := Tab.ofFn fun i => if written i then (s.slots.get i).retired .idle 0 else s.slots.get i }

/-- The zones whose want a POLL_LIST write has evaluated: those whose surface slot it changed, and those whose surface
slot left service (R156). -/
def rebound (s0 s : State) (written : SlotId → Bool) : List (StationId × ZoneNum) :=
  allZones.filter fun p =>
    s0.surfaceSlot p.1 p.2 != s.surfaceSlot p.1 p.2 ||
      match s0.surfaceSlot p.1 p.2 with
      | none => false
      | some i => written i && (s0.slot i).inService

/-- What a POLL_LIST write brings about: `s0` is the state before it and `s` holds the new records (R107, R120, R156). -/
def settlePollWrite (s0 : State) (written : SlotId → Bool) (s : State) : State :=
  let s1 := resetWritten written s
  let lost := slotIds.any fun i => written i && s0.serves .windSpeed i
  let s2 := if lost then anemometersLeft s0.anemometers.length s1 else s1
  evalWants (rebound s0 s1 written) (evalCondition s2)

end Sys2Proof.Machine
end

