-- ==== Sys2Proof/Machine/Reset.lean ====
section
/-! DEFINITION. The two resets: what every block takes at both (R150, R155, R171, R181, the table of record values after
reset), the examination of the retained store at power-on (R193), and what a warm reset keeps (R194). -/

namespace Sys2Proof.Machine

/-- The values that every block takes at either reset, for the installed fields given; the tables, the lockdown flag, the
store, the fault table, the Timebase and the identity stand as they are. -/
def resetBlocks (installed : StationId → Bool) (s : State) : State :=
  { s with
    responder := none
    stations := Tab.ofFn fun n =>
      resetStation (installed n) (Tab.ofFn fun z => resetZone (isYes (s.zoneRecord n z).enabled))
    alloc := resetAlloc
    slots := Tab.fill 16 resetSlot
    scanner := resetScanner
    wind := {
      level := .calm
      holdDown := none
      blindTimer := some (s.timer s.settings.timing.blindTimeout)
      causes := noCauses
      refresh := none }
    melt := resetMelt
    attention := { raised := noAttention, latched := none }
    upQueue := []
    upTx := none }

/-- The STORM input sampled at the end of either reset: an asserted input activates cluster stow in the reset event (R135,
R150). -/
def sampleStorm (storm : Bool) (s : State) : State :=
  if storm then activate (stormLevel storm s) else stormLevel storm s

/-- What every reset event ends with: the STORM sample, the autostart (R116), and the attention unit's examination
(R181). -/
def finishReset (storm : Bool) (s : State) : State := examine (autostart (sampleStorm storm s))

/-- The settings a power-on reset loads: the copy, where it is complete and passes its integrity check (R191, R193). -/
def Store.loads (st : Store) (copyFails : Bool) : Option Settings :=
  if st.state = .valid ∧ copyFails = false then st.copy else none

/-- Whether a power-on reset finds the copy left by an interrupted save (R192, R193). -/
def Store.cutOff (st : Store) : Bool := st.interrupted || st.state == .saving

/-- The state in which a power-on reset leaves everything that the blocks do not reset: the loaded tables, the shadow equal
to the active table, the identity, an empty fault table and the examined store (R193). -/
def powerOnBase (strap : Byte) (copyFails : Bool) (s : State) : State :=
  let loaded := s.store.loads copyFails
  let settings := loaded.getD defaultSettings
  { s with
    now := 0
    nodeAddress := strap
    lastReset := .por
    warmCount := 0
    settings := settings
    shadow := settings.active
    lockdown := false
    store := {
      copy := s.store.copy
      state := if loaded.isSome then .valid else .invalid
      interrupted := s.store.cutOff }
    faults := noFaults }

/-- The detail of a STORE_INVALID report (R193). -/
def storeDetail (st : Store) : BitVec 32 := if st.interrupted then 1 else 0

/-- The fault of a power-on reset that found no valid copy (R193). -/
def reportStore (s : State) : State :=
  if s.store.state = .invalid then recordFault .cluster .storeInvalid (storeDetail s.store) s else s

/-- A power-on reset (R193). -/
def powerOn (strap : Byte) (storm copyFails : Bool) (s : State) : State :=
  let s1 := powerOnBase strap copyFails s
  finishReset storm (reportStore (resetBlocks (fun n => isYes (s1.envelope n).installed) s1))

/-- The retained store after a warm reset: a save in progress is cut off (R192). -/
def Store.warm (st : Store) : Store :=
  if st.state = .saving then { st with state := .invalid, interrupted := true } else st

/-- A warm reset (R194), with the strap address and the STORM level read again. -/
def warm (strap : Byte) (s : State) : State :=
  let s1 :=
    { s with
      nodeAddress := strap
      lastReset := .warm
      warmCount := min 65535 (s.warmCount + 1)
      store := s.store.warm }
  finishReset s.stormInput (resetBlocks (fun n => (s.station n).installed) s1)

end Sys2Proof.Machine
end

