-- ==== Sys2Proof/Machine/Management.lean ====
section
/-! DEFINITION. The Management Responder: the reservation check, one request executed and answered inside its arrival event
(R43, R182), and the encodings of response contents (R199, R201). -/

namespace Sys2Proof.Machine

/-- What the execution of a request gives: the state it leaves, the response code and the contents (R182). -/
structure Answer where
  state : State
  code : RespCode
  contents : List Byte
deriving DecidableEq, Repr

/-- A refusal without contents: nothing changes (R182). -/
def refuse (code : RespCode) (s : State) : Answer := { state := s, code := code, contents := [] }

/-- The answer DONE. -/
def done (contents : List Byte) (s : State) : Answer := { state := s, code := .done, contents := contents }

/-- Whether fewer than two entries of the upstream queue are free (R43). -/
def State.upstreamShort (s : State) : Bool := decide (Config.upstreamQueueSize < s.upQueue.length + 2)

/-- The detail of UPSTREAM_FULL: the tag, then the request code (R43). -/
def upstreamFullDetail (tag code : Byte) : BitVec 32 := (code ++ tag).setWidth 32

/-- The consequences of an executed request, then its response, then the examination of the attention unit (R179, R180,
R182). -/
def respond (tag code : Byte) (s0 : State) (a : Answer) : State :=
  examine
    (offerUp (.mgmtResp tag code a.code a.contents)
      { offerHeatMarkers s0 (settleStow s0 a.state) with responder := none })

/-- A management request: discarded while the upstream queue lacks the reserved places, else executed with its tag and code
held, and answered (R43, R182). -/
def manage (tag code : Byte) (run : State → Answer) (s : State) : State :=
  if s.upstreamShort then examine (recordFault .upstream .upstreamFull (upstreamFullDetail tag code) s)
  else respond tag code s (run { s with responder := some (tag, code) })

/-- A request of no parameter: one that carries any is refused for its shape (R182). -/
def bare (params : List Byte) (run : State → Answer) (s : State) : Answer :=
  if params = [] then run s else refuse .badRequest s

/-- The station a byte names, if it names one. -/
def stationOf (b : Byte) : Option StationId := if h : b.toNat < 8 then some ⟨b.toNat, h⟩ else none

/-- The slot a byte names, if it names one. -/
def slotOf (b : Byte) : Option SlotId := if h : b.toNat < 16 then some ⟨b.toNat, h⟩ else none

/-- The zone a record number names, if it names one (R152, R167). -/
def zoneOf (b : Byte) : Option (StationId × ZoneNum) :=
  if h : b.toNat < 32 then some (⟨b.toNat / 4, by omega⟩, ⟨b.toNat % 4, by omega⟩) else none

/-- The scope a request's set byte names; a code outside the set of DRIVE and HEAT names none (R200). -/
def requestScope (b : Byte) : Option Scope := if b.toNat ≤ 3 then some (scopeOfByte b) else none

/-! ### Codes of enumerated values (R199, R201) -/

/-- The code of an authority (R201). -/
def authorityCode : Authority → Nat
  | .absent => 0
  | .held => 1
  | .locked => 2
  | .clearing => 3
  | .stopped => 4
  | .stowPending => 5
  | .stowWarning => 6
  | .stowMoving => 7
  | .stowStowed => 8
  | .coasting => 9
  | .tracking => 10
  | .idle => 11

/-- The code of a stow progress (R11). -/
def progressCode : StowProgress → Nat
  | .none => 0
  | .pending => 1
  | .warning => 2
  | .moving => 3
  | .stowed => 4

/-- The code of a demand class (R13). -/
def demandCode : DemandClass → Nat
  | .none => 0
  | .track => 1
  | .stow => 2

/-- The code of a fault latch (R10). -/
def latchCode : FaultLatch → Nat
  | .none => 0
  | .overrun => 1
  | .driveFault => 2

/-- The code of an allocation kind (R48). -/
def allocCode : AllocKind → Nat
  | .none => 0
  | .batch => 1
  | .stow => 2

/-- The code of a zone state (R155). -/
def zoneStateCode : ZoneState → Nat
  | .disabled => 0
  | .off => 1
  | .wait => 2
  | .on => 3
  | .shed => 4
  | .inhibited => 5
  | .fault => 6

/-- The code of a zone's fault reason (R155). -/
def zoneFaultCode : ZoneFaultReason → Nat
  | .overtemp => 0
  | .contactor => 1

/-- The code of a slot state (R108). -/
def slotStateCode : SlotState → Nat
  | .idle => 0
  | .active => 1
  | .outOfService => 2
  | .substituted => 3

/-- The code of a side (R108). -/
def sideCode : Side → Nat
  | .unknown => 0
  | .cold => 1
  | .warm => 2

/-- The code of a scanner state (R109). -/
def scanStateCode : ScanState → Nat
  | .idle => 0
  | .polling => 1
  | .gap => 2
  | .stopping => 3

/-- The code of a scan mode (R109). -/
def scanModeCode : ScanMode → Nat
  | .once => 0
  | .continuous => 1

/-- The code of a pass order (R109). -/
def passOrderCode : PassOrder → Nat
  | .sequential => 0
  | .paired => 1

/-- The code of a melt mode (R157). -/
def meltModeCode : MeltMode → Nat
  | .auto => 0
  | .forceOn => 1
  | .forceOff => 2

/-- The code of a store state (R191). -/
def storeCode : StoreState → Nat
  | .valid => 0
  | .invalid => 1
  | .saving => 2

/-- The code of a reset kind (R190). -/
def resetCode : ResetKind → Nat
  | .por => 0
  | .warm => 1

/-- The byte of a fault source (R201). -/
def sourceCode : FaultSource → Nat
  | .station n => n.val
  | .slot i => 0x10 + i.val
  | .upstream => 0x20
  | .sensorLine => 0x21
  | .cluster => 0x22

/-- The code of a fault reason: its position in the table of sources, reasons and details (R201). -/
def reasonCode : FaultReason → Nat
  | .sensorLost => 0
  | .stowTimeout => 1
  | .overrun => 2
  | .driveFault => 3
  | .contactor => 4
  | .overtemp => 5
  | .linkLost => 6
  | .notHolder => 7
  | .lockFull => 8
  | .storeInvalid => 9
  | .queueFull => 10
  | .upstreamFull => 11
  | .badFrame => 12
  | .blind => 13

/-- The reasons in the order of their codes. -/
def allReasons : List FaultReason :=
  [.sensorLost, .stowTimeout, .overrun, .driveFault, .contactor, .overtemp, .linkLost, .notHolder, .lockFull,
    .storeInvalid, .queueFull, .upstreamFull, .badFrame, .blind]

/-- The reason a byte names, if it names one (R201). -/
def reasonOf (b : Byte) : Option FaultReason := allReasons[b.toNat]?

/-- The attention cause a byte names, if it names one (R180, R196). -/
def causeOf (b : Byte) : Option Cause :=
  ([.stowChange, .lockChange, .faultNew, .windLevel, .freezeCross, .meltChange, .storeDone] : List Cause)[b.toNat]?

/-- The bits of a list of flags, the first at bit 0. -/
def bitsOf : List Bool → Nat
  | [] => 0
  | b :: bs => (if b then 1 else 0) + 2 * bitsOf bs

/-- A set of clip causes, TARGET_CLAMP at bit 0 to STOPPED at bit 8 (R199). -/
def encClip (c : ClipSet) : List Byte :=
  encU16 (bitsOf [c.targetClamp, c.rateCap, c.windCap, c.budget, c.heatHeld, c.stale, c.lockout, c.stowOverride,
    c.stopped])

/-- A set of attention causes, in the order of their priorities (R178). -/
def encCauses (c : CauseSet) : List Byte :=
  encU8 (bitsOf [c.stowChange, c.lockChange, c.faultNew, c.windLevel, c.freezeCross, c.meltChange, c.storeDone])

/-- The expiry of a timer that may run. -/
def encExpiry (t : Option Timer) : List Byte := encOpt (fun t => encTime t.expiry) t

/-- An AZ and EL pair of positions. -/
def encPair (p : Int × Int) : List Byte := encI32 p.1 ++ encI32 p.2

/-- The three bytes of a motion authority (R201). -/
def encAuthority (s : State) (n : StationId) : List Byte :=
  encU8 (authorityCode (s.authority n)) ++ encBool (s.stowBlocked n) ++ encU8 (progressCode (s.station n).progress)

end Sys2Proof.Machine
end

