-- ==== Sys2Proof/Machine/Reads.lean ====
section
/-! DEFINITION. The contents of the responses that read the supervisor's state: STATUS_READ (R188), STATION_READ (R189),
IDENTIFY (R190) and FAULT_READ (R174). Widths and places that R199 and R201 leave open are log entries 8, 9, 34 to 36, 40 and
42. -/

namespace Sys2Proof.Machine

/-! ### STATUS_READ (R188) -/

/-- The allocation record (R48, R188). -/
def encAlloc (a : AllocRecord) : List Byte :=
  encU8 (allocCode a.kind) ++ encTime a.time ++ encU8 a.members ++ encU32 a.demandW ++ encU32 a.holdW ++ encU32 a.heatW
    ++ encU32 a.roomW ++ encU16 a.scale ++ encU8 a.shedCount ++ encU32 a.shedW ++ encI32 a.headroomW

/-- The wind and stow group (R151, R188). -/
def encWindStow (s : State) : List Byte :=
  encU8 (levelCode s.wind.level) ++ encOpt encI16 s.worstGust ++ encOpt encI16 s.worstSustained
    ++ encExpiry s.wind.holdDown ++ encExpiry s.wind.blindTimer ++ encStowCauses s.wind.causes

/-- The melt group (R155, R188). -/
def encMelt (s : State) : List Byte :=
  encU32 s.heatLoad ++ encU8 (meltModeCode s.melt.mode) ++ encBool s.melt.condition ++ encOpt encTime s.melt.stamp

/-- The fields of one slot, with gust and sustained for an anemometer and the side for an air-temperature slot (R108). The
latest value takes two signed bytes (log entry 40). -/
def encSlotState (s : State) (i : SlotId) : List Byte :=
  let t := s.slot i
  encU8 (slotStateCode t.state) ++ encU8 t.miss ++ encOpt encI16 t.latestRaw
    ++ encOpt (fun p : Int × Time => encI16 p.1 ++ encTime p.2) t.latestValue
    ++ encOpt (fun p : Int × Timer => encTime p.2.expiry) t.substitute
    ++ match slotKindOf (s.slotRecord i).kind with
      | some .windSpeed => encOpt encI16 (gustOf t.ring) ++ encOpt encI16 (sustainedOf t.ring)
      | some .airTemp => encU8 (sideCode t.side)
      | some .surfaceTemp | some .precip | none => []

/-- The sensing group (R188). DESIGN CHOICE: no count byte stands before the sixteen slots (log entry 42). -/
def encSensing (s : State) : List Byte :=
  encU8 (scanStateCode s.scanner.state) ++ encU8 (scanModeCode s.scanner.mode) ++ encU8 (passOrderCode s.scanner.order)
    ++ slotIds.flatMap (encSlotState s)

/-- The attention group (R181, R188). -/
def encAttention (s : State) : List Byte :=
  encCauses s.attention.raised ++ encOpt (fun c => encU8 (causeCode c)) s.attention.latched ++ encU8 s.faults.count
    ++ encBool s.faults.overflow ++ encBool s.faults.overflowSeen

/-- The contents of STATUS_READ (R188). DESIGN CHOICE: the groups for each station and for each slot carry no count byte of
R199's list, since R188 fixes their number (log entry 42). -/
def statusContents (s : State) : List Byte :=
  [s.nodeAddress] ++ encTime s.now ++ stationIds.flatMap (encAuthority s) ++ encAlloc s.alloc ++ encWindStow s
    ++ encMelt s ++ encSensing s ++ encU8 (storeCode s.store.state) ++ encBool s.lockdown ++ encAttention s

/-! ### STATION_READ (R189) -/

/-- One holder record. -/
def encHolder (h : Holder) : List Byte := word16 h.badge ++ encScope h.scope

/-- The lockout fields (R103). The DRIVE and HEAT counts take one byte each, a width the manual does not give (log entry
34). -/
def encLockout (st : Station) : List Byte :=
  encList encHolder st.holders ++ encBool st.lockReportSeen ++ encExpiry st.clearing ++ encU8 (driveCount st)
    ++ encU8 (heatCount st)

/-- The stow fields beside the progress, which the authority carries (R151, R201): the stow targets are those in a demand of
class STOW. -/
def encStow (st : Station) : List Byte :=
  encExpiry st.warnTimer ++ encOpt encTime st.stowStart ++ encExpiry st.stowTimeout
    ++ encOpt encPair (if st.demand.cls = .stow then some (st.demand.azTarget, st.demand.elTarget) else none)

/-- The demand fields (R13). The requested motion watts take four bytes, a width R199 gives only to the watts of the budget
and of the allocation record (log entry 34). -/
def encDemand (d : Demand) : List Byte :=
  encU8 (demandCode d.cls) ++ encU16 d.azSpeed ++ encU16 d.elSpeed ++ encI32 d.azTarget ++ encI32 d.elTarget
    ++ encU32 d.watts

/-- The grant fields (R14). The granted motion watts take four bytes (log entry 34). -/
def encGrant (g : Grant) : List Byte := encU16 g.azSpeed ++ encU16 g.elSpeed ++ encU32 g.watts

/-- The last telemetry (R15). Its three flags are three yes-or-no bytes, not one byte of bits (log entry 35). -/
def encTelemetry (t : Telemetry) : List Byte :=
  encI32 t.az ++ encI32 t.el ++ encBool t.energised ++ encBool t.driveFault ++ encBool t.pinEngaged
    ++ encU8 t.contactors.toNat ++ encTime t.time

/-- The fields of one zone: its state, its on-start while ON or else its off-start, its fault reason, its surface slot and
its bit of the commanded mask (R155). DESIGN CHOICE: R199 gives a single bit no form, and it takes one yes-or-no byte for
each zone; the one start time is a choice too (log entry 9). -/
def encZoneState (s : State) (n : StationId) (z : ZoneNum) : List Byte :=
  let zn := s.zone n z
  encU8 (zoneStateCode zn.state) ++ encOpt encTime (if zn.state = .on then zn.onStart else zn.offStart)
    ++ encOpt (fun r => encU8 (zoneFaultCode r)) zn.faultReason ++ encOpt (fun i : SlotId => encU8 i.val) (s.surfaceSlot n z)
    ++ encBool ((s.station n).commandedMask.getLsbD z.val)

/-- The contents of STATION_READ (R189). The link field says UP or DOWN and does not carry the liveness deadline (log entry
36). DESIGN CHOICE: no count byte stands before the four zones, whose number R189 fixes (log entry 42). -/
def stationContents (s : State) (n : StationId) : List Byte :=
  let st := s.station n
  encAuthority s n ++ encBool st.installed ++ encU8 (if st.link.isUp then 0 else 1) ++ encLockout st
    ++ encU8 (latchCode st.faultLatch) ++ encStow st ++ encExpiry st.freshness ++ encBool st.stale ++ encDemand st.demand
    ++ encGrant st.grant ++ encOpt encTelemetry st.lastTelemetry ++ encOpt encPair st.lastSent ++ encClip st.clipStatus
    ++ encClip st.clipLog ++ zoneNums.flatMap (encZoneState s n)

/-! ### IDENTIFY (R190) -/

/-- The contents of IDENTIFY (R190, R199). -/
def identifyContents (s : State) : List Byte :=
  encU16 Config.partCode ++ encU16 Config.revision ++ [s.nodeAddress] ++ encU8 (resetCode s.lastReset)
    ++ encU16 s.warmCount ++ encTime s.now ++ encU8 (storeCode s.store.state)

/-! ### FAULT_READ (R174, R201) -/

/-- Bytes of a fault entry after its valid byte (R201). -/
def faultBody : Nat := 16

/-- The bytes of one fault entry; those of a free entry after its valid byte carry no meaning and are free values, taken
from counter value `free` on (R171, log entry 6). -/
def encFault (free : Nat) : Option FaultEntry → List Byte
  | none => 0 :: (List.range faultBody).map fun k => Config.freeByte (free + k)
  | some e =>
    1 :: encBool e.seen ++ encU8 (sourceCode e.source) ++ encU8 (reasonCode e.reason) ++ encTime e.firstTime
      ++ encTime e.lastTime ++ encU8 e.repeats ++ word32 e.detail

/-- The contents of FAULT_READ: the entries in index order, then the overflow flag and its seen flag (R174, R201). -/
def faultContents (s : State) : List Byte :=
  (faultIds.flatMap fun i => encFault (s.freeCount + faultBody * i.val) (s.faults.entries.get i))
    ++ encBool s.faults.overflow ++ encBool s.faults.overflowSeen

/-- The Fault Table after a FAULT_READ: every valid entry is seen, and the overflow flag where it is set (R174). -/
def FaultTable.markSeen (t : FaultTable) : FaultTable where
  entries := Tab.ofFn fun i => (t.entries.get i).map fun e => { e with seen := true }
  overflow := t.overflow
  overflowSeen := t.overflow || t.overflowSeen

end Sys2Proof.Machine
end

