-- ==== Sys2Proof/Machine/FaultRequests.lean ====
section
/-! DEFINITION. Meanings: reading and clearing faults, and acknowledging attention (R174 to R176, R180). -/

namespace Sys2Proof.Machine

/-- The execution of FAULT_READ: the response is composed, then every valid entry is seen; the free values used are counted
(R174). -/
def runFaultRead (s : State) : Answer :=
  done (faultContents s) { s with faults := s.faults.markSeen, freeCount := s.freeCount + 8 * faultBody }

/-- FAULT_READ (R174). -/
def execFaultRead (tag : Byte) (params : List Byte) (s : State) : Host.Outcome State Fault Refusal :=
  .next (manage tag 0x13 (bare params runFaultRead) s)

/-- FAULT_CLEAR of an entry (R175). -/
def clearEntry (i : Fin 8) (r : FaultReason) (s : State) : Answer :=
  match s.faults.entries.get i with
  | none => refuse .badRequest s
  | some e =>
    if e.reason ≠ r then refuse .badRequest s
    else if e.seen = false then refuse .notSeen s
    else done [] { s with faults := { s.faults with entries := s.faults.entries.set i none } }

/-- FAULT_CLEAR of the overflow flag (R176). -/
def clearOverflow (s : State) : Answer :=
  if s.faults.overflow = false then refuse .badRequest s
  else if s.faults.overflowSeen = false then refuse .notSeen s
  else done [] { s with faults := { s.faults with overflow := false, overflowSeen := false } }

/-- The execution of FAULT_CLEAR: an index 0 to 7 names an entry, 8 the overflow flag (R175, R176). DESIGN CHOICE, log entry
41: the index takes one unsigned byte, a width that R199 gives a record index and no rule gives the index of a fault entry. -/
def runFaultClear (params : List Byte) (s : State) : Answer :=
  match params with
  | [b, c] =>
    match reasonOf c with
    | none => refuse .badRequest s
    | some r =>
      if h : b.toNat < 8 then clearEntry ⟨b.toNat, h⟩ r s
      else if b.toNat = 8 then clearOverflow s
      else refuse .badRequest s
  | _ => refuse .badRequest s

/-- FAULT_CLEAR (R175, R176). -/
def execFaultClear (tag : Byte) (params : List Byte) (s : State) : Host.Outcome State Fault Refusal :=
  .next (manage tag 0x14 (runFaultClear params) s)

/-- The execution of ALERT_ACK: the latch becomes absent where the cause named is the latched one (R180). -/
def runAlertAck (params : List Byte) (s : State) : Answer :=
  match params with
  | [b] =>
    if (causeOf b).isSome ∧ s.attention.latched = causeOf b then
      done [] { s with attention := { s.attention with latched := none } }
    else refuse .badRequest s
  | _ => refuse .badRequest s

/-- ALERT_ACK (R180). -/
def execAlertAck (tag : Byte) (params : List Byte) (s : State) : Host.Outcome State Fault Refusal :=
  .next (manage tag 0x15 (runAlertAck params) s)

end Sys2Proof.Machine
end

