-- ==== Sys2Proof/Machine/Inputs.lean ====
section
/-! DEFINITION. Meanings: the reset input, the STORM input and the Timebase (R193, R136, R1). -/

namespace Sys2Proof.Machine

/-- POWER_ON_RESET (R193). -/
def execPowerOnReset (strap : Byte) (storm copyFails : Bool) (s : State) : Host.Outcome State Fault Refusal :=
  .next (powerOn strap storm copyFails s)

/-- STORM_INPUT_CHANGE (R136). -/
def execStormInputChange (asserted : Bool) (s : State) : Host.Outcome State Fault Refusal :=
  .next (closeEvent s (stormLevel asserted s))

/-- MILLISECOND_COUNT_ADVANCE (R1). -/
def execMillisecondCountAdvance (s : State) : Host.Outcome State Fault Refusal := .next { s with now := s.now + 1 }

end Sys2Proof.Machine
end

