-- ==== Sys2Proof/Machine/MeltTimers.lean ====
section
/-! DEFINITION. Meanings: the timers of the Melt Controller (R158, R160, R162, R166). An expiry acts once its timer runs and
is due, and otherwise changes nothing (R1, log entry 1). -/

namespace Sys2Proof.Machine

/-- PRECIP_HOLD_EXPIRY (R158): precipitation is no longer recent, and the condition is evaluated. -/
def execPrecipHoldExpiry (s : State) : Host.Outcome State Fault Refusal :=
  .next
    (if timerDue s.melt.hold s.now then closeEvent s (evalCondition { s with melt := { s.melt with hold := none } })
    else s)

/-- Whether an ON zone's min_on expiry runs and is due (R155). -/
def State.minOnDue (s : State) (n : StationId) (z : ZoneNum) : Bool :=
  (s.zone n z).state == .on && !(s.zone n z).minOnReached
    && sinceAtLeast (s.zone n z).onStart (s.zoneRecord n z).minOn s.now

/-- MIN_ON_EXPIRY (R162): min_on counts as reached, and the want is evaluated. -/
def execMinOnExpiry (n : StationId) (z : ZoneNum) (s : State) : Host.Outcome State Fault Refusal :=
  .next
    (if s.minOnDue n z then closeEvent s (evalWant n z (s.updZone n z fun zn => { zn with minOnReached := true }))
    else s)

/-- MIN_OFF_EXPIRY (R160): off-start becomes absent, and the want is evaluated. -/
def execMinOffExpiry (n : StationId) (z : ZoneNum) (s : State) : Host.Outcome State Fault Refusal :=
  .next
    (if sinceAtLeast (s.zone n z).offStart (s.zoneRecord n z).minOff s.now then
      closeEvent s (evalWant n z (s.updZone n z fun zn => { zn with offStart := none }))
    else s)

/-- A zone faulted by its contactor, with the report (R166). -/
def failContactor (n : StationId) (z : ZoneNum) (s : State) : State :=
  recordFault (.station n) .contactor
    (contactorDetail z (s.station n).commandedMask (reportedMask (s.station n)))
    (s.updZone n z fun zn => zn.fail .contactor s.now)

/-- Whether the contactor watch covers a zone (R165). -/
def Zone.watched (z : Zone) : Bool := z.state != .disabled && z.state != .fault

/-- MISMATCH_DEADLINE_EXPIRY (R166). -/
def execMismatchDeadlineExpiry (n : StationId) (z : ZoneNum) (s : State) : Host.Outcome State Fault Refusal :=
  .next
    (if timerDue (s.zone n z).mismatch s.now && (s.zone n z).watched then closeEvent s (failContactor n z s) else s)

end Sys2Proof.Machine
end

