-- ==== Sys2Proof/Machine/Tables.lean ====
section
/-! DEFINITION. Reading and writing the seven tables: placement with wrapping, standing records, validation, and what the
owning block does after an accepted write (R184 to R187, R70, R107, R129, R153, R154, R169). -/

namespace Sys2Proof.Machine

/-! ### Placement (R184, R185) -/

/-- The number, within the write, of the record that stands at an index: the last one placed there, if any (R185). -/
def standingAt (first count len j : Nat) : Option Nat :=
  ((List.range count).filter fun k => (first + k) % len == j).getLast?

/-- Whether a write places a record at an index. -/
def writes (first count len j : Nat) : Bool := (standingAt first count len j).isSome

/-- The bytes of the record of a number. -/
def recordBytes (size k : Nat) (bs : List Byte) : List Byte := (bs.drop (k * size)).take size

/-- A table with the standing records of a write in place, in an index space of `len` records. -/
def placed {n : Nat} {α : Type} (dec : Fin n → List Byte → α) (size first count len : Nat) (bs : List Byte)
    (t : Tab n α) : Tab n α :=
  Tab.ofFn fun j =>
    match standingAt first count len j.val with
    | none => t.get j
    | some k => dec j (recordBytes size k bs)

/-- The lowest index among the standing records that fail, with the number of its failing check (R186). -/
def firstInvalid {n : Nat} (written : Fin n → Bool) (failing : Fin n → Option Nat) : Option (Nat × Nat) :=
  (List.finRange n).findSome? fun j => if written j then (failing j).map fun k => (j.val, k) else none

/-- The answer INVALID, with the failing table index and check number (R200). -/
def refuseInvalid (p : Nat × Nat) (s : State) : Answer :=
  { state := s, code := .invalid, contents := encU8 p.1 ++ encU8 p.2 }

/-! ### Reading (R184) -/

/-- The bytes of the record of a table at an index, by table code (R184, R201). -/
def tableRecord (s : State) (table index : Nat) : List Byte :=
  match table with
  | 0 => (s.shadow.cells[index]?.map encEnvelope).getD []
  | 1 => (s.settings.active.cells[index]?.map encEnvelope).getD []
  | 2 => encBudget s.settings.budget
  | 3 => (s.settings.wind.cells[index]?.map encWind).getD []
  | 4 => encTiming s.settings.timing
  | 5 =>
    if index = 16 then encHeader s.settings.poll.header
    else (s.settings.poll.slots.cells[index]?.map encSlot).getD []
  | _ => (s.settings.zones.cells[index]?.map encZone).getD []

/-- A TABLE_READ of known shape (R184). -/
def readTable (table first count : Nat) (s : State) : Answer :=
  if 6 < table ∨ tableLength table ≤ first ∨ count = 0 ∨ tableLength table < count then refuse .badRequest s
  else
    done (encList id ((List.range count).map fun k => tableRecord s table ((first + k) % tableLength table))) s

/-! ### Writing (R186) -/

/-- A write to ENVELOPE_SHADOW (R70). -/
def writeShadow (first count : Nat) (bs : List Byte) (s : State) : Answer :=
  if s.lockdown then refuse .lockedDown s
  else if s.store.state = .saving then refuse .busy s
  else done [] { s with shadow := placed (fun _ => envelopeOfBytes) 44 first count 8 bs s.shadow }

/-- A write to BUDGET: the last record stands, and zones are shed where C − R falls below H (R49, R169). -/
def writeBudget (count : Nat) (bs : List Byte) (s : State) : Answer :=
  let r := budgetOfBytes (recordBytes 9 (count - 1) bs)
  if s.store.state = .saving then refuse .busy s
  else
    match budgetFailing r with
    | some k => refuseInvalid (0, k) s
    | none => done [] (budgetShed { s with settings := { s.settings with budget := r } })

/-- A write to WIND, followed by the level evaluation (R129). -/
def writeWind (first count : Nat) (bs : List Byte) (s : State) : Answer :=
  let t := placed (fun j b => windOfBytes j.val b) 16 first count 4 bs s.settings.wind
  if s.lockdown then refuse .lockedDown s
  else if s.store.state = .saving then refuse .busy s
  else
    match firstInvalid (fun j => writes first count 4 j.val) (windFailing t) with
    | some p => refuseInvalid p s
    | none => done [] (evalLevel { s with settings := { s.settings with wind := t } })

/-- A write to TIMING: the last record stands, and no running timer moves (R187). -/
def writeTiming (count : Nat) (bs : List Byte) (s : State) : Answer :=
  let r := timingOfBytes (recordBytes 48 (count - 1) bs)
  if s.store.state = .saving then refuse .busy s
  else
    match timingFailing r with
    | some k => refuseInvalid (0, k) s
    | none => done [] { s with settings := { s.settings with timing := r } }

/-- The poll list with the standing records of a write in place: record 16 is the header (R105). -/
def placedPoll (first count : Nat) (bs : List Byte) (p : PollList) : PollList where
  slots := placed (fun _ => slotOfBytes) 18 first count 17 bs p.slots
  header :=
    match standingAt first count 17 16 with
    | none => p.header
    | some k => headerOfBytes (recordBytes 18 k bs)

/-- The first failing record of a poll-list write: slots in order, then the header (R106, R186). -/
def pollInvalid (first count : Nat) (p : PollList) : Option (Nat × Nat) :=
  match firstInvalid (fun i : SlotId => writes first count 17 i.val) (fun i => slotFailing (p.slots.get i)) with
  | some x => some x
  | none => if writes first count 17 16 then (headerFailing p.header).map fun k => (16, k) else none

/-- A write to POLL_LIST (R107). -/
def writePoll (first count : Nat) (bs : List Byte) (s : State) : Answer :=
  let p := placedPoll first count bs s.settings.poll
  if s.store.state = .saving then refuse .busy s
  else if s.scanner.state ≠ .idle then refuse .busy s
  else
    match pollInvalid first count p with
    | some x => refuseInvalid x s
    | none =>
      done [] (settlePollWrite s (fun i => writes first count 17 i.val)
        { s with settings := { s.settings with poll := p } })

/-- Whether a write changes the power of a zone that is ON (R153). -/
def powerChanges (s : State) (t : Tab 32 ZoneRecord) : Bool :=
  allZones.any fun p =>
    s.zoneOn p && (t.get (zoneIndex p.1 p.2)).powerW != (s.settings.zones.get (zoneIndex p.1 p.2)).powerW

/-- A write to ZONES (R153, R154). -/
def writeZones (first count : Nat) (bs : List Byte) (s : State) : Answer :=
  let t := placed (fun _ => zoneOfBytes) 18 first count 32 bs s.settings.zones
  if s.store.state = .saving then refuse .busy s
  else
    match firstInvalid (fun j => writes first count 32 j.val) (fun j => zoneFailing (t.get j)) with
    | some p => refuseInvalid p s
    | none =>
      if powerChanges s t then refuse .busy s
      else
        done []
          ((allZones.filter fun p => writes first count 32 (zoneIndex p.1 p.2).val).foldl
            (fun s' p => settleZoneWrite s.settings.zones p s')
            { s with settings := { s.settings with zones := t } })

/-- A TABLE_WRITE of known shape: table, first record, record count, record bytes (R185, R186, R200). -/
def writeTable (table first count : Nat) (bs : List Byte) (s : State) : Answer :=
  if 6 < table ∨ table = 1 ∨ tableLength table ≤ first ∨ count = 0 ∨ 32 < count
      ∨ bs.length ≠ count * recordSize table then
    refuse .badRequest s
  else
    match table with
    | 0 => writeShadow first count bs s
    | 2 => writeBudget count bs s
    | 3 => writeWind first count bs s
    | 4 => writeTiming count bs s
    | 5 => writePoll first count bs s
    | _ => writeZones first count bs s

end Sys2Proof.Machine
end

