-- ==== Sys2Proof/Machine/ReadRequests.lean ====
section
/-! DEFINITION. Meanings: the requests that read the supervisor, the tables, the settings store and the resets by request
(R184 to R194), and a request code that names none (R182). -/

namespace Sys2Proof.Machine

/-- STATUS_READ (R188). -/
def execStatusRead (tag : Byte) (params : List Byte) (s : State) : Host.Outcome State Fault Refusal :=
  .next (manage tag 0x01 (bare params fun s => done (statusContents s) s) s)

/-- The execution of STATION_READ (R189). -/
def runStationRead (params : List Byte) (s : State) : Answer :=
  match params with
  | [b] =>
    match stationOf b with
    | some n => done (stationContents s n) s
    | none => refuse .badRequest s
  | _ => refuse .badRequest s

/-- STATION_READ (R189). -/
def execStationRead (tag : Byte) (params : List Byte) (s : State) : Host.Outcome State Fault Refusal :=
  .next (manage tag 0x02 (runStationRead params) s)

/-- IDENTIFY (R190). -/
def execIdentify (tag : Byte) (params : List Byte) (s : State) : Host.Outcome State Fault Refusal :=
  .next (manage tag 0x03 (bare params fun s => done (identifyContents s) s) s)

/-- The execution of TABLE_READ (R184). -/
def runTableRead (params : List Byte) (s : State) : Answer :=
  match params with
  | [table, first, count] => readTable table.toNat first.toNat count.toNat s
  | _ => refuse .badRequest s

/-- TABLE_READ (R184). -/
def execTableRead (tag : Byte) (params : List Byte) (s : State) : Host.Outcome State Fault Refusal :=
  .next (manage tag 0x04 (runTableRead params) s)

/-- The execution of TABLE_WRITE (R185, R186): table, first record, then a list of records, which carries its count (log
entry 11). -/
def runTableWrite (params : List Byte) (s : State) : Answer :=
  match params with
  | table :: first :: count :: bs => writeTable table.toNat first.toNat count.toNat bs s
  | _ => refuse .badRequest s

/-- TABLE_WRITE (R186). -/
def execTableWrite (tag : Byte) (params : List Byte) (s : State) : Host.Outcome State Fault Refusal :=
  .next (manage tag 0x05 (runTableWrite params) s)

/-- The execution of SETTINGS_SAVE: a snapshot of the six tables, and SAVING (R191). -/
def runSettingsSave (s : State) : Answer :=
  if s.lockdown then refuse .lockedDown s
  else if s.store.state = .saving then refuse .busy s
  else
    { state := { s with store := { s.store with copy := some s.settings, state := .saving } }
      code := .accepted
      contents := [] }

/-- SETTINGS_SAVE (R191). -/
def execSettingsSave (tag : Byte) (params : List Byte) (s : State) : Host.Outcome State Fault Refusal :=
  .next (manage tag 0x09 (bare params runSettingsSave) s)

/-- The store after a completed save (R192). -/
def completeSave (s : State) : State :=
  raise .storeDone { s with store := { s.store with state := .valid, interrupted := false } }

/-- SAVE_COMPLETION (R192): no change unless a save is in progress. -/
def execSaveCompletion (s : State) : Host.Outcome State Fault Refusal :=
  .next (if s.store.state = .saving then examine (completeSave s) else s)

/-- WARM_RESET (R194): subject to the reservation of R43 and the shape check; no response is sent. -/
def execWarmReset (tag : Byte) (params : List Byte) (strap : Byte) (s : State) : Host.Outcome State Fault Refusal :=
  .next
    (if s.upstreamShort || params != [] then manage tag 0x19 (refuse .badRequest) s
    else warm strap s)

/-- UNKNOWN_REQUEST_CODE (R182). -/
def execUnknownRequestCode (tag code : Byte) (_params : List Byte) (s : State) : Host.Outcome State Fault Refusal :=
  .next (manage tag code (refuse .badRequest) s)

end Sys2Proof.Machine
end

