-- ==== Sys2Proof/Machine/UpstreamFrames.lean ====
section
/-! DEFINITION. Meanings: pointing batches and cabinet data from the upstream link, and the end of an upstream frame (R23 to
R30, R39, R44). -/

namespace Sys2Proof.Machine

/-- A pointing batch: dropped where malformed (R23), discarded under active stow (R24), else taken (R25 to R30). -/
def takeBatch (es : List BatchEntry) (s : State) : State :=
  match batchFault es with
  | some detail => recordFault .upstream .badFrame detail s
  | none => if s.stowActive then es.foldl overrideEntry s else runBatch es s

/-- POINTING_BATCH (R23). -/
def execPointingBatch (es : List BatchEntry) (s : State) : Host.Outcome State Fault Refusal :=
  .next (examine (takeBatch es s))

/-- The detail of a BAD_FRAME that names a kind code (R22, R46, R198). -/
def kindDetail (kind : Byte) : BitVec 32 := kind.setWidth 32

/-- Whether a destination is the supervisor's own address, a cabinet or broadcast (R198). -/
def State.addressed (s : State) (dest : Byte) : Bool :=
  dest == s.nodeAddress || (stationOfAddress dest).isSome || dest == broadcastAddress

/-- Cabinet data routed by its destination: to one queue, or to all eight; a frame to the supervisor itself is of no kind
it takes, and one to another node is dropped (R44, R198). -/
def routeCabinet (f : CabinetFrame) (s : State) : State :=
  if f.dest = broadcastAddress then stationIds.foldl (fun s n => offer n (.cabinetData f) s) s
  else
    match stationOfAddress f.dest with
    | some n => offer n (.cabinetData f) s
    | none => if s.addressed f.dest then recordFault .upstream .badFrame (kindDetail 0x04) s else s

/-- CABINET_DATA_FROM_UPSTREAM (R44). -/
def execCabinetDataFromUpstream (f : CabinetFrame) (s : State) : Host.Outcome State Fault Refusal :=
  .next (examine (routeCabinet f s))

/-- UPSTREAM_FRAME_END (R39): the head of the queue, if any, leaves. -/
def execUpstreamFrameEnd (s : State) : Host.Outcome State Fault Refusal := .next (departUp { s with upTx := none })

end Sys2Proof.Machine
end

