-- ==== Sys2Proof/Machine/Reception.lean ====
section
/-! DEFINITION. Meanings: frames dropped at reception, on any link (R46, R113, R197, R198). -/

namespace Sys2Proof.Machine

/-- The detail of BAD_FRAME for a failing frame: on the upstream link its kind code, or 0x100 where fewer than three bytes
came; 0 on the other links (R197). -/
def failingDetail (link : RxLink) (bytes : List Byte) : BitVec 32 :=
  match link with
  | .upstream => if bytes.length < 3 then 0x100 else kindDetail (byteAt bytes 2)
  | .station _ | .sensorLine => 0

/-- The fault source of a receiving link (R197). -/
def linkSource : RxLink → FaultSource
  | .upstream => .upstream
  | .station n => .station n
  | .sensorLine => .sensorLine

/-- RECEIVED_FRAME_FAILING_CHECKS (R197): dropped with BAD_FRAME and no other effect. -/
def execReceivedFrameFailingChecks (link : RxLink) (bytes : List Byte) (_byteError : Bool) (s : State) :
    Host.Outcome State Fault Refusal :=
  .next (examine (recordFault (linkSource link) .badFrame (failingDetail link bytes) s))

/-- A good frame of a kind its link does not take: on a station link it first acts on the link (R46); on the upstream link a
frame for another node is dropped without a fault (R198); on the sensor line it is a stray frame (R113). -/
def dropUnhandled (link : RxLink) (f : Frame) (s : State) : State :=
  match link with
  | .upstream => if s.addressed f.dest then recordFault .upstream .badFrame (kindDetail f.kind) s else s
  | .station n => recordFault (.station n) .badFrame (kindDetail f.kind) (goodFrame n s)
  | .sensorLine => strayFrame 2 f.kind s

/-- GOOD_FRAME_OF_UNHANDLED_KIND (R46). -/
def execGoodFrameOfUnhandledKind (link : RxLink) (f : Frame) (s : State) : Host.Outcome State Fault Refusal :=
  .next (examine (dropUnhandled link f s))

end Sys2Proof.Machine
end

