-- ==== Sys2Proof/Machine/SensingRequests.lean ====
section
/-! DEFINITION. Meanings: the requests on the scanner, its slots and the melting (R110, R115, R121, R123, R157, R167). -/

namespace Sys2Proof.Machine

/-! ### The scanner (R110, R115) -/

/-- The execution of SCAN_START (R110). -/
def runScanStart (params : List Byte) (s : State) : Answer :=
  match params with
  | [mode, order] =>
    if 1 < mode.toNat ∨ 1 < order.toNat then refuse .badRequest s
    else if s.scanner.state ≠ .idle then refuse .busy s
    else
      done [] (beginPass (s.updScanner fun sc =>
        { sc with
          mode := if mode = 1 then .continuous else .once
          order := if order = 1 then .paired else .sequential }))
  | _ => refuse .badRequest s

/-- SCAN_START (R110). -/
def execScanStart (tag : Byte) (params : List Byte) (s : State) : Host.Outcome State Fault Refusal :=
  .next (manage tag 0x0F (runScanStart params) s)

/-- The scanner after a SCAN_STOP (R115). -/
def Scanner.stopped (sc : Scanner) : Scanner :=
  match sc.state with
  | .idle | .stopping => sc
  | .gap => { sc with state := .idle, gapTimer := none }
  | .polling => { sc with state := .stopping }

/-- SCAN_STOP (R115). -/
def execScanStop (tag : Byte) (params : List Byte) (s : State) : Host.Outcome State Fault Refusal :=
  .next (manage tag 0x10 (bare params fun s => done [] (s.updScanner Scanner.stopped)) s)

/-! ### Substitution (R121, R123) -/

/-- The checks and the effect of SLOT_SUBSTITUTE on a slot (R121). -/
def runSubstitute (i : SlotId) (v : Int) (life : Nat) (s : State) : Answer :=
  let span := if life = 0 then s.settings.timing.substituteLife else life
  if life ≠ 0 ∧ (life < 1000 ∨ 600000 < life) then refuse .invalid s
  else if isYes (s.slotRecord i).enabled = false ∨ (s.slot i).state = .active then refuse .wrongState s
  else if plausible (s.slotRecord i) v = false then refuse .invalid s
  else done (encTime (s.timer span).expiry) (substitute i v span s)

/-- The execution of SLOT_SUBSTITUTE: slot, value, life (R121). The value takes two signed bytes, a form R199 does not give
a calibrated value (log entry 40). -/
def runSlotSubstitute (params : List Byte) (s : State) : Answer :=
  if params.length ≠ 7 then refuse .badRequest s
  else
    match slotOf (byteAt params 0) with
    | none => refuse .badRequest s
    | some i => runSubstitute i (i16At params 1) (u32At params 3) s

/-- SLOT_SUBSTITUTE (R121). -/
def execSlotSubstitute (tag : Byte) (params : List Byte) (s : State) : Host.Outcome State Fault Refusal :=
  .next (manage tag 0x11 (runSlotSubstitute params) s)

/-- The execution of SLOT_RESTORE (R123). -/
def runSlotRestore (params : List Byte) (s : State) : Answer :=
  match params with
  | [b] =>
    match slotOf b with
    | none => refuse .badRequest s
    | some i =>
      match (s.slot i).state with
      | .active => refuse .wrongState s
      | .idle => done [] s
      | .outOfService | .substituted => done [] (retire i .idle 0 s)
  | _ => refuse .badRequest s

/-- SLOT_RESTORE (R123). -/
def execSlotRestore (tag : Byte) (params : List Byte) (s : State) : Host.Outcome State Fault Refusal :=
  .next (manage tag 0x12 (runSlotRestore params) s)

/-! ### Snow melting (R157, R167) -/

/-- Why a ZONE_FAULT_CLEAR is refused WRONG_STATE, by the code of the reason: 0 NOT_FAULT, 1 OVERTEMP, 2 CONTACTOR
(R167). -/
def State.zoneClearBar (s : State) (n : StationId) (z : ZoneNum) : Option Nat :=
  if (s.zone n z).state ≠ .fault then some 0
  else if (s.surfaceValue n z).any fun v => decide ((s.zoneRecord n z).overtemp ≤ v) then some 1
  else if (s.station n).lastTelemetry.any fun t => t.contactors.getLsbD z.val then some 2
  else none

/-- A faulted zone returned to OFF, its want evaluated, and inhibited where its station's heat block holds (R163,
R167). -/
def clearZone (n : StationId) (z : ZoneNum) (s : State) : State :=
  let s1 := evalWant n z (s.updZone n z fun zn => { zn with state := .off, faultReason := none })
  if heatBlock (s.station n) then s1.updZone n z fun zn => zn.inhibit s.now else s1

/-- The execution of ZONE_FAULT_CLEAR (R167). -/
def runZoneFaultClear (params : List Byte) (s : State) : Answer :=
  match params with
  | [b] =>
    match zoneOf b with
    | none => refuse .badRequest s
    | some (n, z) =>
      match s.zoneClearBar n z with
      | some reason => { state := s, code := .wrongState, contents := encU8 reason }
      | none => done [] (clearZone n z s)
  | _ => refuse .badRequest s

/-- ZONE_FAULT_CLEAR (R167). -/
def execZoneFaultClear (tag : Byte) (params : List Byte) (s : State) : Host.Outcome State Fault Refusal :=
  .next (manage tag 0x17 (runZoneFaultClear params) s)

/-- The melt mode a byte names, if it names one (R157). -/
def meltModeOf (b : Byte) : Option MeltMode := ([.auto, .forceOn, .forceOff] : List MeltMode)[b.toNat]?

/-- The execution of MELT_MODE_SET: the answer carries the mode and the condition as the event leaves them (R157, R182). -/
def runMeltModeSet (params : List Byte) (s : State) : Answer :=
  match params with
  | [b] =>
    match meltModeOf b with
    | none => refuse .badRequest s
    | some mode =>
      let s1 := evalCondition { s with melt := { s.melt with mode := mode } }
      done (encU8 (meltModeCode s1.melt.mode) ++ encBool s1.melt.condition) s1
  | _ => refuse .badRequest s

/-- MELT_MODE_SET (R157). -/
def execMeltModeSet (tag : Byte) (params : List Byte) (s : State) : Host.Outcome State Fault Refusal :=
  .next (manage tag 0x18 (runMeltModeSet params) s)

end Sys2Proof.Machine
end

