-- ==== Sys2Proof/Machine/SensorLine.lean ====
section
/-! DEFINITION. Meanings: readings on the sensor line and the Sensor Scanner's timers (R113, R114, R122). -/

namespace Sys2Proof.Machine

/-- READING (R113). -/
def execReading (address : Byte) (raw : BitVec 16) (s : State) : Host.Outcome State Fault Refusal :=
  .next (closeEvent s (takeSensorFrame address raw.toInt s))

/-- TRANSACTION_DEADLINE_EXPIRY (R113): no change unless a transaction is in flight and its deadline is due. -/
def execTransactionDeadlineExpiry (s : State) : Host.Outcome State Fault Refusal :=
  match s.scanner.transaction with
  | none => .next s
  | some t => .next (if t.deadline.due s.now then closeEvent s (expireTransaction t s) else s)

/-- PASS_GAP_EXPIRY (R114): no change unless the pass-gap timer runs and is due. -/
def execPassGapExpiry (s : State) : Host.Outcome State Fault Refusal :=
  .next (if timerDue s.scanner.gapTimer s.now then closeEvent s (beginPass s) else s)

/-- SUBSTITUTE_LIFE_EXPIRY (R122): no change unless the slot holds a substitute whose life is due. -/
def execSubstituteLifeExpiry (i : SlotId) (s : State) : Host.Outcome State Fault Refusal :=
  match (s.slot i).substitute with
  | none => .next s
  | some p => .next (if p.2.due s.now then closeEvent s (loseSlot i 2 s) else s)

end Sys2Proof.Machine
end

