-- ==== Sys2Proof/Machine/StationFrames.lean ====
section
/-! DEFINITION. Meanings: the frames a cabinet sends, and the end of a frame toward a cabinet (R15, R33, R41, R45, R46, R88,
R89, R91 to R94). -/

namespace Sys2Proof.Machine

/-- The last telemetry replaced (R15). -/
def storeTelemetry (n : StationId) (t : Telemetry) (s : State) : State :=
  s.updStation n fun st => { st with lastTelemetry := some t }

/-- A telemetry frame: the record is replaced, and the Envelope Unit, the Wind and Stow Controller and the Melt Controller
act on it in that order; then the frame is queued upstream (R15, R45). -/
def takeTelemetry (n : StationId) (f : TelemetryFrame) (s : State) : State :=
  let t := telemetryOf f s.now
  let s1 := storeTelemetry n t (goodFrame n s)
  let s2 := settleStation n s none (checkTelemetry n t s1)
  offerUp (.telemetry n f) (contactorWatch n t.contactors (stowTest n t s2))

/-- TELEMETRY (R15). -/
def execTelemetry (n : StationId) (f : TelemetryFrame) (s : State) : Host.Outcome State Fault Refusal :=
  .next (closeEvent s (takeTelemetry n f s))

/-- LOCK (R88). -/
def execLock (n : StationId) (badge : Badge) (scope : Scope) (s : State) : Host.Outcome State Fault Refusal :=
  .next (closeEvent s (takeLock n s badge scope (goodFrame n s)))

/-- UNLOCK (R89). -/
def execUnlock (n : StationId) (badge : Badge) (scope : Scope) (s : State) : Host.Outcome State Fault Refusal :=
  .next (closeEvent s (takeUnlock n s badge scope (goodFrame n s)))

/-- A LOCK_REPORT: dropped with its entry count where malformed (R91), else taken (R92 to R94). -/
def handleReport (n : StationId) (es : List ReportEntry) (s : State) : State :=
  if malformedReport es then recordFault (.station n) .badFrame (BitVec.ofNat 32 es.length) (goodFrame n s)
  else takeReport n s es (goodFrame n s)

/-- LOCK_REPORT (R92). -/
def execLockReport (n : StationId) (es : List ReportEntry) (s : State) : Host.Outcome State Fault Refusal :=
  .next (closeEvent s (handleReport n es s))

/-- CABINET_DATA_FROM_STATION (R41). -/
def execCabinetDataFromStation (n : StationId) (f : CabinetFrame) (s : State) : Host.Outcome State Fault Refusal :=
  .next (examine (offerUp (.cabinetData f) (goodFrame n s)))

/-- STATION_FRAME_END (R33): the head of the queue, if any, leaves. -/
def execStationFrameEnd (n : StationId) (s : State) : Host.Outcome State Fault Refusal :=
  .next (depart n (s.updStation n fun st => { st with tx := none }))

end Sys2Proof.Machine
end

