-- ==== Sys2Proof/Machine/StationRequests.lean ====
section
/-! DEFINITION. Meanings: the requests on envelopes, lockdown, stow, locks, latches and clip logs (R65, R71 to R78, R83, R95,
R96, R137). -/

namespace Sys2Proof.Machine

/-! ### Envelopes (R71 to R79) -/

/-- The stations of an apply scope: `2^m` stations from the first (R71). -/
def applyScope (first m : Nat) : List StationId :=
  stationIds.filter fun n => decide (first ≤ n.val ∧ n.val < first + 2 ^ m)

/-- The two bytes of a station's outcome: the outcome and its failing check (R72, R201). -/
def encOutcome : ApplyOutcome → List Byte
  | .protectedHold => [0, 0]
  | .busy => [1, 0]
  | .invalid check => 2 :: encU8 check
  | .applied => [3, 0]

/-- The performed scope: FULL 0, NONE 1, PARTIAL 2 (R75, R201). -/
def performedCode (os : List ApplyOutcome) : Byte :=
  if os.all (· == .applied) then 0 else if os.any (· == .applied) then 2 else 1

/-- The execution of ENVELOPE_APPLY (R71 to R75). -/
def runEnvelopeApply (params : List Byte) (s : State) : Answer :=
  match params with
  | [first, m] =>
    if 3 < m.toNat ∨ 7 < first.toNat ∨ first.toNat % 2 ^ m.toNat ≠ 0 then refuse .badScope s
    else if s.lockdown then refuse .lockedDown s
    else if s.store.state = .saving then refuse .busy s
    else
      let scope := applyScope first.toNat m.toNat
      let outcomes := scope.map s.applyOutcome
      done ([first, m] ++ outcomes.flatMap encOutcome ++ [performedCode outcomes]) (scope.foldl applyStation s)
  | _ => refuse .badRequest s

/-- ENVELOPE_APPLY (R72). -/
def execEnvelopeApply (tag : Byte) (params : List Byte) (s : State) : Host.Outcome State Fault Refusal :=
  .next (manage tag 0x06 (runEnvelopeApply params) s)

/-- The execution of ENVELOPE_CLEAR_ALL (R77). -/
def runEnvelopeClearAll (s : State) : Answer :=
  if s.lockdown then refuse .lockedDown s
  else if s.store.state = .saving then refuse .busy s
  else if stationIds.any fun n => s.clearBar n != 0 then
    { state := s, code := .protectedStation, contents := stationIds.flatMap fun n => encU8 (s.clearBar n) }
  else done [] (clearEnvelopes s)

/-- ENVELOPE_CLEAR_ALL (R77). -/
def execEnvelopeClearAll (tag : Byte) (params : List Byte) (s : State) : Host.Outcome State Fault Refusal :=
  .next (manage tag 0x07 (bare params runEnvelopeClearAll) s)

/-- The execution of LOCKDOWN_SET (R78). -/
def runLockdownSet (s : State) : Answer :=
  if s.store.state = .saving then refuse .busy s else done [] { s with lockdown := true }

/-- LOCKDOWN_SET (R78). -/
def execLockdownSet (tag : Byte) (params : List Byte) (s : State) : Host.Outcome State Fault Refusal :=
  .next (manage tag 0x08 (bare params runLockdownSet) s)

/-! ### Stow (R137) -/

/-- MANUAL put into the stow cause set or taken out, answered with the set as it then stands (R137). -/
def setManual (on : Bool) (s : State) : Answer :=
  let s1 := { s with wind := { s.wind with causes := { s.wind.causes with manual := on } } }
  done (encStowCauses s1.wind.causes) s1

/-- STOW_REQUEST (R137). -/
def execStowRequest (tag : Byte) (params : List Byte) (s : State) : Host.Outcome State Fault Refusal :=
  .next (manage tag 0x0A (bare params (setManual true)) s)

/-- STOW_RELEASE (R137). -/
def execStowRelease (tag : Byte) (params : List Byte) (s : State) : Host.Outcome State Fault Refusal :=
  .next (manage tag 0x0B (bare params (setManual false)) s)

/-! ### Control-room locks (R95, R96) -/

/-- A request that names a station and a non-empty scope; another shape is refused (R95, R96, R200). -/
def withClaim (params : List Byte) (run : StationId → Scope → State → Answer) (s : State) : Answer :=
  match params with
  | [b, c] =>
    match stationOf b, requestScope c with
    | some n, some scope => if emptyScope scope then refuse .badRequest s else run n scope s
    | _, _ => refuse .badRequest s
  | _ => refuse .badRequest s

/-- A list changed under badge 0, with the LOCK_REPLY that is also offered and the answer DONE (R95, R96). -/
def changeRoom (n : StationId) (hs : List Holder) (outcome : LockOutcome) (s : State) : Answer :=
  done (encU8 (lockOutcomeCode outcome) ++ encScope (standingScope hs 0))
    (changeHolders n s hs (some ⟨0, outcome, standingScope hs 0⟩) s)

/-- The execution of REMOTE_LOCK (R95). -/
def runRemoteLock (n : StationId) (scope : Scope) (s : State) : Answer :=
  let out := claim (s.station n).holders 0 scope
  if out.2 = .full then refuse .noRoom s else changeRoom n out.1 out.2 s

/-- REMOTE_LOCK (R95). -/
def execRemoteLock (tag : Byte) (params : List Byte) (s : State) : Host.Outcome State Fault Refusal :=
  .next (manage tag 0x0C (withClaim params runRemoteLock) s)

/-- The execution of REMOTE_UNLOCK (R96). -/
def runRemoteUnlock (n : StationId) (scope : Scope) (s : State) : Answer :=
  let out := unclaim (s.station n).holders 0 scope
  if out.2 = .notHolder then refuse .notHolder s else changeRoom n out.1 out.2 s

/-- REMOTE_UNLOCK (R96). -/
def execRemoteUnlock (tag : Byte) (params : List Byte) (s : State) : Host.Outcome State Fault Refusal :=
  .next (manage tag 0x0D (withClaim params runRemoteUnlock) s)

/-! ### Latches and clip logs (R65, R83) -/

/-- The execution of STATION_RESUME (R83): a refusal carries the code of its reason. -/
def runStationResume (params : List Byte) (s : State) : Answer :=
  match params with
  | [b] =>
    match stationOf b with
    | none => refuse .badRequest s
    | some n =>
      match s.resumeBar n with
      | some reason => { state := s, code := .wrongState, contents := encU8 reason }
      | none => done [] (settleStation n s none (s.updStation n fun st => { st with faultLatch := .none }))
  | _ => refuse .badRequest s

/-- STATION_RESUME (R83). -/
def execStationResume (tag : Byte) (params : List Byte) (s : State) : Host.Outcome State Fault Refusal :=
  .next (manage tag 0x0E (runStationResume params) s)

/-- The clip logs emptied of the stations a test selects (R65). -/
def clearLogs (p : StationId → Bool) (s : State) : State :=
  s.mapStations fun n st => if p n then { st with clipLog := noClip } else st

/-- The execution of CLIP_LOG_CLEAR: 0 to 7 name a station, 0xFF names ALL (R65, R201). -/
def runClipLogClear (params : List Byte) (s : State) : Answer :=
  match params with
  | [b] =>
    if b.toNat < 8 then done [] (clearLogs (fun n => n.val == b.toNat) s)
    else if b = 0xFF then done [] (clearLogs (fun _ => true) s)
    else refuse .badRequest s
  | _ => refuse .badRequest s

/-- CLIP_LOG_CLEAR (R65). -/
def execClipLogClear (tag : Byte) (params : List Byte) (s : State) : Host.Outcome State Fault Refusal :=
  .next (manage tag 0x16 (runClipLogClear params) s)

end Sys2Proof.Machine
end

