-- ==== Sys2Proof/Machine/StationTimers.lean ====
section
/-! DEFINITION. Meanings: the timers of the station records and of the stow (R6, R31, R99, R141, R142, R146). An expiry acts
once its timer runs and is due, and otherwise changes nothing (R1, log entry 1). -/

namespace Sys2Proof.Machine

/-- A link lost: the link goes DOWN, LINK_LOST carries the reading of the last good frame, a cancelled clearing is a lock
change, and the station's authority and heat block follow (R6, R87, R102). -/
def loseLink (n : StationId) (lastGood : Time) (s : State) : State :=
  let s1 := recordFault (.station n) .linkLost lastGood (dropLink n s)
  settleStation n s none (if (s.station n).clearing.isSome then raise .lockChange s1 else s1)

/-- LIVENESS_DEADLINE_EXPIRY (R6). -/
def execLivenessDeadlineExpiry (n : StationId) (s : State) : Host.Outcome State Fault Refusal :=
  match (s.station n).link with
  | .down => .next s
  | .up deadline => .next (if deadline.due s.now then closeEvent s (loseLink n deadline.start s) else s)

/-- A station turned stale: no deadline, no motion watts, no grant (R31 steps 1 to 3). -/
def goStale (st : Station) : Station :=
  { st with stale := true, freshness := none, demand := { st.demand with watts := 0 }, grant := noGrant }

/-- FRESHNESS_EXPIRY (R31). -/
def execFreshnessExpiry (n : StationId) (s : State) : Host.Outcome State Fault Refusal :=
  .next
    (if timerDue (s.station n).freshness s.now then
      examine (setClip n { noClip with stale := true } (offerStop n (s.updStation n goStale)))
    else s)

/-- The end of a clearing: HORN off, a lock change, and the authority falls through R18. HORN off does not depart before the
HORN on of a stow warning that the event enters, which supersedes it (R99; R33 taken alone would let it leave at once, log
entry 39). -/
def endClearing (n : StationId) (s : State) : State :=
  withheld n
    (fun s' =>
      settleStation n s none
        (raise .lockChange (offer n (.horn false) (s'.updStation n fun st => { st with clearing := none })))) s

/-- CLEARING_EXPIRY (R99). -/
def execClearingExpiry (n : StationId) (s : State) : Host.Outcome State Fault Refusal :=
  .next (if timerDue (s.station n).clearing s.now then closeEvent s (endClearing n s) else s)

/-- WARN_EXPIRY (R141): HORN off, then MOVING. -/
def execWarnExpiry (n : StationId) (s : State) : Host.Outcome State Fault Refusal :=
  .next
    (if timerDue (s.station n).warnTimer s.now then examine (enterMoving n (offer n (.horn false) s)) else s)

/-- STOW_REFRESH_EXPIRY (R142): the timer restarts, then stow demand, allocation and setpoints. -/
def execStowRefreshExpiry (s : State) : Host.Outcome State Fault Refusal :=
  .next
    (if timerDue s.wind.refresh s.now then
      examine (runStowRefresh { s with wind := { s.wind with refresh := some (s.timer s.settings.timing.stowRefresh) } })
    else s)

/-- STOW_TIMEOUT_EXPIRY (R146): STOW_TIMEOUT is recorded once for the entry to MOVING. -/
def execStowTimeoutExpiry (n : StationId) (s : State) : Host.Outcome State Fault Refusal :=
  .next
    (if timerDue (s.station n).stowTimeout s.now then
      examine (recordFault (.station n) .stowTimeout (s.stowTimeoutDetail n)
        (s.updStation n fun st => { st with stowTimeout := none }))
    else s)

end Sys2Proof.Machine
end

