-- ==== Sys2Proof/Machine/WindTimers.lean ====
section
/-! DEFINITION. Meanings: the hold-down timer and the blind timer (R132, R134). -/

namespace Sys2Proof.Machine

/-- The fall of one step and the evaluation at the new level (R132). -/
def stepDown (s : State) : State := evalLevel (setLevel (levelBelow s.wind.level) (setHoldDown none s))

/-- HOLD_DOWN_EXPIRY (R132): no change unless the timer runs and is due. -/
def execHoldDownExpiry (s : State) : Host.Outcome State Fault Refusal :=
  .next (if timerDue s.wind.holdDown s.now then closeEvent s (stepDown s) else s)

/-- BLIND joins the stow cause set and fault BLIND is recorded (R134). -/
def goBlind (s : State) : State :=
  recordFault .cluster .blind (BitVec.ofNat 32 s.enabledAnemometers)
    { s with wind := { s.wind with blindTimer := none, causes := { s.wind.causes with blind := true } } }

/-- BLIND_TIMER_EXPIRY (R134): no change unless the timer runs and is due. -/
def execBlindTimerExpiry (s : State) : Host.Outcome State Fault Refusal :=
  .next (if timerDue s.wind.blindTimer s.now then closeEvent s (goBlind s) else s)

end Sys2Proof.Machine
end

