-- ==== Sys2Proof/Machine/Dispatch.lean ====
section
/-! DEFINITION. One arm for each command, each a direct call of its meaning. -/

namespace Sys2Proof.Machine

/-- The effect of a command on everything but the queue of waiting commands. -/
def exec (i : Instr) (s : State) : Host.Outcome State Fault Refusal :=
  match i with
  | .powerOnReset strap storm copyFails => Sys2Proof.Machine.execPowerOnReset strap storm copyFails s
  | .stormInputChange asserted => Sys2Proof.Machine.execStormInputChange asserted s
  | .pointingBatch entries => Sys2Proof.Machine.execPointingBatch entries s
  | .cabinetDataFromUpstream frame => Sys2Proof.Machine.execCabinetDataFromUpstream frame s
  | .telemetry n frame => Sys2Proof.Machine.execTelemetry n frame s
  | .lock n badge scope => Sys2Proof.Machine.execLock n badge scope s
  | .unlock n badge scope => Sys2Proof.Machine.execUnlock n badge scope s
  | .lockReport n entries => Sys2Proof.Machine.execLockReport n entries s
  | .cabinetDataFromStation n frame => Sys2Proof.Machine.execCabinetDataFromStation n frame s
  | .reading address raw => Sys2Proof.Machine.execReading address raw s
  | .stationFrameEnd n => Sys2Proof.Machine.execStationFrameEnd n s
  | .upstreamFrameEnd => Sys2Proof.Machine.execUpstreamFrameEnd s
  | .livenessDeadlineExpiry n => Sys2Proof.Machine.execLivenessDeadlineExpiry n s
  | .freshnessExpiry n => Sys2Proof.Machine.execFreshnessExpiry n s
  | .clearingExpiry n => Sys2Proof.Machine.execClearingExpiry n s
  | .warnExpiry n => Sys2Proof.Machine.execWarnExpiry n s
  | .stowRefreshExpiry => Sys2Proof.Machine.execStowRefreshExpiry s
  | .stowTimeoutExpiry n => Sys2Proof.Machine.execStowTimeoutExpiry n s
  | .holdDownExpiry => Sys2Proof.Machine.execHoldDownExpiry s
  | .blindTimerExpiry => Sys2Proof.Machine.execBlindTimerExpiry s
  | .transactionDeadlineExpiry => Sys2Proof.Machine.execTransactionDeadlineExpiry s
  | .passGapExpiry => Sys2Proof.Machine.execPassGapExpiry s
  | .substituteLifeExpiry slot => Sys2Proof.Machine.execSubstituteLifeExpiry slot s
  | .precipHoldExpiry => Sys2Proof.Machine.execPrecipHoldExpiry s
  | .minOnExpiry n z => Sys2Proof.Machine.execMinOnExpiry n z s
  | .minOffExpiry n z => Sys2Proof.Machine.execMinOffExpiry n z s
  | .mismatchDeadlineExpiry n z => Sys2Proof.Machine.execMismatchDeadlineExpiry n z s
  | .saveCompletion => Sys2Proof.Machine.execSaveCompletion s
  | .statusRead tag params => Sys2Proof.Machine.execStatusRead tag params s
  | .stationRead tag params => Sys2Proof.Machine.execStationRead tag params s
  | .identify tag params => Sys2Proof.Machine.execIdentify tag params s
  | .tableRead tag params => Sys2Proof.Machine.execTableRead tag params s
  | .tableWrite tag params => Sys2Proof.Machine.execTableWrite tag params s
  | .envelopeApply tag params => Sys2Proof.Machine.execEnvelopeApply tag params s
  | .envelopeClearAll tag params => Sys2Proof.Machine.execEnvelopeClearAll tag params s
  | .lockdownSet tag params => Sys2Proof.Machine.execLockdownSet tag params s
  | .settingsSave tag params => Sys2Proof.Machine.execSettingsSave tag params s
  | .stowRequest tag params => Sys2Proof.Machine.execStowRequest tag params s
  | .stowRelease tag params => Sys2Proof.Machine.execStowRelease tag params s
  | .remoteLock tag params => Sys2Proof.Machine.execRemoteLock tag params s
  | .remoteUnlock tag params => Sys2Proof.Machine.execRemoteUnlock tag params s
  | .stationResume tag params => Sys2Proof.Machine.execStationResume tag params s
  | .scanStart tag params => Sys2Proof.Machine.execScanStart tag params s
  | .scanStop tag params => Sys2Proof.Machine.execScanStop tag params s
  | .slotSubstitute tag params => Sys2Proof.Machine.execSlotSubstitute tag params s
  | .slotRestore tag params => Sys2Proof.Machine.execSlotRestore tag params s
  | .faultRead tag params => Sys2Proof.Machine.execFaultRead tag params s
  | .faultClear tag params => Sys2Proof.Machine.execFaultClear tag params s
  | .alertAck tag params => Sys2Proof.Machine.execAlertAck tag params s
  | .clipLogClear tag params => Sys2Proof.Machine.execClipLogClear tag params s
  | .zoneFaultClear tag params => Sys2Proof.Machine.execZoneFaultClear tag params s
  | .meltModeSet tag params => Sys2Proof.Machine.execMeltModeSet tag params s
  | .warmReset tag params strap => Sys2Proof.Machine.execWarmReset tag params strap s
  | .receivedFrameFailingChecks link bytes byteError => Sys2Proof.Machine.execReceivedFrameFailingChecks link bytes byteError s
  | .goodFrameOfUnhandledKind link frame => Sys2Proof.Machine.execGoodFrameOfUnhandledKind link frame s
  | .unknownRequestCode tag code params => Sys2Proof.Machine.execUnknownRequestCode tag code params s
  | .millisecondCountAdvance => Sys2Proof.Machine.execMillisecondCountAdvance s

end Sys2Proof.Machine
end

