-- ==== Sys2Proof/Safety.lean ====
section
/-! DEFINITION. The laws the manual states of the whole machine, in the terms that claims use. Each is kept by every step. -/

namespace Sys2Proof.Machine

/-! ### People (R8, R85, R97, R98, R101, R163) -/

/-- A holder list keeps the law of R85: at most six records, no two with the same badge, each with a non-empty scope. -/
def holderListLaw (hs : List Holder) : Prop :=
  hs.length ≤ 6 ∧ (hs.map (·.badge)).Nodup ∧ ∀ h ∈ hs, emptyScope h.scope = false

/-- Every holder list keeps the law of R85. -/
def State.holderLaw (s : State) : Prop := ∀ n, holderListLaw (s.station n).holders

/-- A station whose link is DOWN has no lock report seen, and clearing is present only at a station whose link is UP, whose
report is seen and where no holder claims DRIVE (R8, R97, R98). -/
def State.clearingLaw (s : State) : Prop :=
  ∀ n, ((s.station n).link.isUp = false → (s.station n).lockReportSeen = false)
    ∧ ((s.station n).clearing.isSome = true →
        (s.station n).link.isUp = true ∧ (s.station n).lockReportSeen = true ∧ driveCount (s.station n) = 0)

/-- Whether a zone state is one that a heat block allows (R163). -/
def ZoneState.coldUnderBlock : ZoneState → Bool
  | .disabled | .inhibited | .fault => true
  | _ => false

/-- While a station's heat block holds, none of its zones is ON, nor in a state from which it could be admitted or shed
(R163). -/
def State.heatSafe (s : State) : Prop :=
  ∀ n z, heatBlock (s.station n) = true → (s.zone n z).state.coldUnderBlock = true

/-! ### Motion (R21, R74) -/

/-- The SETPOINT entries of a queue. -/
def queuedSetpoints (q : List StationEntry) : List Setpoint :=
  q.filterMap fun e =>
    match e with
    | .setpoint sp => some sp
    | _ => none

/-- No moving SETPOINT waits for a station whose authority is non-permitting (R20, R21). -/
def State.motionSafe (s : State) : Prop :=
  ∀ n, (s.authority n).permitting = false → ∀ sp ∈ queuedSetpoints (s.station n).queue, sp.moving = false

/-- An envelope entry whose soft limits are in order (R69, checks 4 and 6). -/
def Envelope.ordered (e : Envelope) : Prop := e.azMin < e.azMax ∧ e.elMin < e.elMax

/-- Every entry of a table has its soft limits in order. -/
def allOrdered (t : Tab 8 Envelope) : Prop := ∀ n, (t.get n).ordered

/-- The active limits, and those that a power-on reset would load, are in order, and every queued SETPOINT lies within the
active soft limits of its station (R74). -/
def State.limitSafe (s : State) : Prop :=
  allOrdered s.settings.active
    ∧ (∀ c, s.store.copy = some c → allOrdered c.active)
    ∧ ∀ n, ∀ sp ∈ queuedSetpoints (s.station n).queue, withinSoft (s.envelope n) sp.azTarget sp.elTarget = true

/-! ### Power (R161) -/

/-- H + R never exceeds C, and the copy that a power-on reset would load has R within C (R161, R187). -/
def State.powerSafe (s : State) : Prop :=
  s.heatLoad + s.settings.budget.reserve ≤ s.settings.budget.capacity
    ∧ ∀ c, s.store.copy = some c → c.budget.reserve ≤ c.budget.capacity

/-! ### Queues (R7, R33, R35, R39, R40, R179) -/

/-- A station queue holds at most 8 entries, and at most one of each superseding kind (R33, R35). -/
def queueLaw (q : List StationEntry) : Prop :=
  q.length ≤ 8 ∧ ∀ k : EntryKind, k.superseding = true → q.countP (fun e => e.kind == k) ≤ 1

/-- Every station queue keeps its law, and a DOWN link holds its queue and its transmitter empty (R7, R33, R35). -/
def State.queuesLaw (s : State) : Prop :=
  ∀ n, queueLaw (s.station n).queue
    ∧ ((s.station n).link.isUp = false → (s.station n).queue = [] ∧ (s.station n).tx = none)

/-- Whether an entry is telemetry or cabinet data. -/
def UpEntry.isTraffic : UpEntry → Bool
  | .telemetry _ _ | .cabinetData _ => true
  | .mgmtResp _ _ _ _ | .alert _ => false

/-- The upstream queue holds at most 32 entries, at most 28 of them telemetry or cabinet data, at most one TELEMETRY for each
station and at most one ALERT (R39, R40, R42, R179). -/
def State.upstreamLaw (s : State) : Prop :=
  s.upQueue.length ≤ 32 ∧ s.upQueue.countP (·.isTraffic) ≤ 28 ∧ s.upQueue.countP (·.isAlert) ≤ 1
    ∧ ∀ n, s.upQueue.countP (·.isTelemetryOf n) ≤ 1

/-! ### Stow (R11, R135, R136, R142) -/

/-- WIND stands in the stow cause set exactly at level STOW, and STORM_LINE exactly while the STORM input is asserted (R135,
R136). -/
def State.causeLaw (s : State) : Prop :=
  s.wind.causes.wind = (s.wind.level == .stow) ∧ s.wind.causes.stormLine = s.stormInput

/-- The stow refresh timer runs exactly while cluster stow is active; while it is, the progress of a station is NONE exactly
where it is not installed, and while it is not, every progress is NONE; a warn-expiry time is present only in WARNING (R11,
R138, R142). -/
def State.stowLaw (s : State) : Prop :=
  s.wind.refresh.isSome = s.stowActive
    ∧ ∀ n, ((s.station n).progress = .none ↔ (s.stowActive = false ∨ (s.station n).installed = false))
      ∧ ((s.station n).warnTimer.isSome = true → (s.station n).progress = .warning)

/-! ### Sensing (R108, R109, R119, R120, R125) -/

/-- A slot's working state (R108, R119, R120, R125): a substitute is present exactly in SUBSTITUTED, a slot out of service
has an empty ring and side UNKNOWN, the miss count is at most 3 and is 3 in OUT_OF_SERVICE, and a ring holds at most 32
values. -/
def slotLaw (t : Slot) : Prop :=
  (t.substitute.isSome = true ↔ t.state = .substituted)
    ∧ (t.inService = false → t.ring = [] ∧ t.side = .unknown)
    ∧ t.miss ≤ 3 ∧ (t.state = .outOfService → t.miss = 3) ∧ t.ring.length ≤ 32

/-- Every slot keeps its law. -/
def State.slotsLaw (s : State) : Prop := ∀ i, slotLaw (s.slot i)

/-- A transaction is in flight exactly while the scanner is POLLING or STOPPING, and the pass-gap timer runs exactly while it
is in GAP (R109, R114, R115). -/
def State.scannerLaw (s : State) : Prop :=
  (s.scanner.transaction.isSome = true ↔ (s.scanner.state = .polling ∨ s.scanner.state = .stopping))
    ∧ (s.scanner.gapTimer.isSome = true ↔ s.scanner.state = .gap)

/-! ### Faults and attention (R172, R178, R179) -/

/-- At most one valid entry for any pair of source and reason (R172). -/
def State.faultLaw (s : State) : Prop :=
  ∀ i j e f, s.faults.entries.get i = some e → s.faults.entries.get j = some f
    → e.source = f.source → e.reason = f.reason → i = j

/-- Between events no cause waits while none is latched, and no request is in hand (R179, R182). -/
def State.restLaw (s : State) : Prop :=
  (s.attention.latched = none → s.attention.raised = noAttention) ∧ s.responder = none

/-! ### Settings (R71, R79, R191) -/

/-- Lockdown and SAVING do not hold together, and while the store is SAVING its copy is the working tables (R71, R191). -/
def State.storeLaw (s : State) : Prop :=
  (s.lockdown = true → s.store.state ≠ .saving) ∧ (s.store.state = .saving → s.store.copy = some s.settings)

/-! ### How claims speak of a step -/

/-- An outcome is a next state of which `P` holds. -/
def completes (o : Host.Outcome State Fault Refusal) (P : State → Prop) : Prop := ∃ t, o = .next t ∧ P t

/-- An entry waits in the upstream queue, or is the frame in transmission (R39). -/
def State.upstreamHolds (t : State) (e : UpEntry) : Prop := e ∈ t.upQueue ∨ t.upTx = some e

/-- Nothing has changed but the upstream port, no request is in hand, and no attention cause is raised: the attention unit
stands, unless it held a cause to latch before (R175, R182). -/
def State.sameButPort (s t : State) : Prop :=
  t = { s with responder := none, upQueue := t.upQueue, upTx := t.upTx, attention := t.attention }
    ∧ (s.restLaw → t.attention = s.attention)

/-- The ALERT of a latched cause (R179). -/
def State.alertOf (t : State) (k : Cause) : UpEntry :=
  .alert { cause := k, level := t.wind.level, causes := t.wind.causes, faultCount := t.faults.count }

/-- An upstream queue with an ALERT in the place of the queued one, or else at the tail (R42, R179). -/
def withAlert (q : List UpEntry) (e : UpEntry) : List UpEntry :=
  if q.any (·.isAlert) then q.map fun x => if x.isAlert then e else x
  else if q.length < 32 then q ++ [e] else q

/-- An upstream queue with the ALERT of an event, where that event latched a cause (R179). -/
def State.withNews (s t : State) (q : List UpEntry) : List UpEntry :=
  match s.attention.latched, t.attention.latched with
  | none, some k => withAlert q (t.alertOf k)
  | _, _ => q

/-- What an event leaves upstream whose offers make the queue `q`: a sending transmitter goes on and the queue is `q`; an
idle one, whose queue was empty, has taken the head of `q`. Behind them stands the ALERT of a cause the event latched (R39,
R179). -/
def State.sendsUp (s t : State) (q : List UpEntry) : Prop :=
  (s.upTx.isSome = true → t.upTx = s.upTx ∧ t.upQueue = s.withNews t q)
    ∧ (s.upTx = none → s.upQueue = [] → q ≠ [] → t.upTx = q.head? ∧ t.upQueue = s.withNews t q.tail)

/-- A response is offered: it joins the tail of the upstream queue, behind everything that waits there, or leaves at once
(R39, R42, R182). -/
def State.answered (s t : State) (e : UpEntry) : Prop :=
  t.upstreamHolds e ∧ s.sendsUp t (s.upQueue ++ [e])

/-- Nothing has changed but the station records, the Fault Table, the attention unit and the upstream port. -/
def State.sameButStations (s t : State) : Prop :=
  t = { s with stations := t.stations, faults := t.faults, attention := t.attention, upQueue := t.upQueue, upTx := t.upTx }

/-- Nothing of a station record has changed but what the departure of a queue entry writes: the queue, the transmitter,
last_sent, the commanded mask and the mismatch deadlines (R16, R33, R165). -/
def Station.sameButPort (a b : Station) : Prop :=
  b = { a with queue := b.queue, tx := b.tx, lastSent := b.lastSent, commandedMask := b.commandedMask, zones := b.zones }
    ∧ ∀ z, b.zones.get z = { a.zones.get z with mismatch := (b.zones.get z).mismatch }

/-- Nothing of a station record has changed but its stow fields, freshness, demand and grant, and what a departure writes:
the link, the people, the latch, the telemetry, the clip causes and the zone states stand. -/
def Station.sameButMotion (a b : Station) : Prop :=
  { a with
    progress := b.progress, warnTimer := b.warnTimer, stowStart := b.stowStart, stowTimeout := b.stowTimeout
    freshness := b.freshness, stale := b.stale, demand := b.demand, grant := b.grant }.sameButPort b

/-- Nothing has changed outside one station's record but the Fault Table, the attention unit and the upstream port. -/
def State.sameOutside (n : StationId) (s t : State) : Prop :=
  t = { s with stations := t.stations, faults := t.faults, attention := t.attention, upQueue := t.upQueue, upTx := t.upTx }
    ∧ ∀ m, m ≠ n → t.station m = s.station m

/-- Whether a set holds a cause. -/
def CauseSet.has (c : CauseSet) : Cause → Bool
  | .stowChange => c.stowChange
  | .lockChange => c.lockChange
  | .faultNew => c.faultNew
  | .windLevel => c.windLevel
  | .freezeCross => c.freezeCross
  | .meltChange => c.meltChange
  | .storeDone => c.storeDone

/-- An event from `s` to `t` raises a cause: a latched cause stands and the raised one is pending, be it the same; where no
cause was latched, the raised one is latched, or is pending behind one of higher priority (R178, R179). -/
def State.raises (s t : State) (k : Cause) : Prop :=
  (∀ j, s.attention.latched = some j → t.attention.latched = some j ∧ t.attention.raised.has k = true)
    ∧ (s.attention.latched = none → t.attention.latched ≠ none
      ∧ ∀ j, t.attention.latched = some j → j = k ∨ (causeCode j < causeCode k ∧ t.attention.raised.has k = true))

/-- An event from `s` to `t` raises no cause of this class: it is pending as before, and latched where it was (R178, R179). -/
def State.silent (s t : State) (k : Cause) : Prop :=
  s.restLaw →
    t.attention.raised.has k = s.attention.raised.has k
      ∧ (t.attention.latched = some k ↔ s.attention.latched = some k)

/-- Whether an entry is of a source and a reason (R172). -/
def FaultEntry.isOf (e : FaultEntry) (src : FaultSource) (r : FaultReason) : Bool := e.source == src && e.reason == r

/-- An event from `s` to `t` records a report: an unseen entry of its source and reason carries its detail and the time of
the event, or the table is full without one and the overflow flag is set and unseen; and FAULT_NEW is raised where no entry
was there to collapse into, unless the report fell to an overflow flag already set (R172, R173). -/
def State.recorded (s t : State) (src : FaultSource) (r : FaultReason) (detail : BitVec 32) : Prop :=
  ((∃ i : Fin 8, ∃ e ∈ t.faults.entries.get i, e.isOf src r = true ∧ e.seen = false ∧ e.detail = detail
      ∧ e.lastTime = s.now)
    ∨ ((∀ i : Fin 8, ∃ e ∈ t.faults.entries.get i, e.isOf src r = false)
        ∧ t.faults.overflow = true ∧ t.faults.overflowSeen = false))
  ∧ ((∀ i : Fin 8, ∀ e ∈ s.faults.entries.get i, e.isOf src r = false) →
      (∃ i : Fin 8, s.faults.entries.get i = none) ∨ s.faults.overflow = false → s.raises t .faultNew)

/-- A station's link is UP and its transmitter is sending, so that an entry offered waits in the queue (R33). -/
def State.queueing (s : State) (n : StationId) : Prop :=
  (s.station n).link.isUp = true ∧ (s.station n).tx.isSome = true

/-- A station's link is UP, its transmitter is idle and nothing waits, so that an entry offered leaves at once (R33). -/
def State.idling (s : State) (n : StationId) : Prop :=
  (s.station n).link.isUp = true ∧ (s.station n).tx = none ∧ (s.station n).queue = []

/-- A station's port and lock fields as a lost link and either reset leave them: the link DOWN, nothing waiting or in
transmission, the report unseen and clearing absent (R4, R6, R7). -/
def State.away (s : State) (n : StationId) : Prop :=
  (s.station n).link = .down ∧ (s.station n).queue = [] ∧ (s.station n).tx = none
    ∧ (s.station n).lockReportSeen = false ∧ (s.station n).clearing = none

/-- The first good frame of a cabinet whose link is DOWN: the link comes UP, LINK_UP departs at once, and behind it wait the
HEAT marker and then the entries `q` that the frame's own handling offers (R5, R33, R34). -/
def State.linkReturns (s t : State) (n : StationId) (q : List StationEntry) : Prop :=
  s.away n → (t.station n).link.isUp = true ∧ (t.station n).tx = some (.linkUp s.nodeAddress)
    ∧ (t.station n).queue = .heat :: q

/-- A superseding entry offered to a station in an event from `s` to `t`, and not superseded in it, waits in the queue (R33,
R35, R36). -/
def State.offered (s t : State) (n : StationId) (e : StationEntry) : Prop :=
  s.queuesLaw → s.queueing n → e ∈ (t.station n).queue

/-! ### Stow targets, wind levels and wants as the manual puts them (R131, R143, R156, R159) -/

/-- A value brought between two bounds (R26). -/
def between (lo hi v : Int) : Int := if v < lo then lo else if hi < v then hi else v

/-- The stow targets of a station before the clamp: the AZ position, or for KEEP the AZ target of a demand of class STOW,
else the AZ target of a STOP setpoint: that of the last telemetry, else the one last sent, else 0 (R143, R16). -/
def stowAim (e : Envelope) (st : Station) : Int × Int :=
  (match e.stowAz with
    | .position p => p
    | .keep =>
      if st.demand.cls = .stow then st.demand.azTarget
      else
        match st.lastTelemetry, st.lastSent with
        | some p, _ => p.az
        | none, some q => q.1
        | none, none => 0,
    e.stowEl)

/-- The stow targets of a station, each clamped into the soft limits of its entry (R143). -/
def stowGoal (e : Envelope) (st : Station) : Int × Int :=
  (between e.azMin e.azMax (stowAim e st).1, between e.elMin e.elMax (stowAim e st).2)

/-- Whether an enabled pair of a level's record has its on-threshold met by the figures G and S (R131). -/
def thresholdMet (r : WindRecord) (g u : Int) : Bool :=
  (isYes r.gustEnable && decide ((r.gustOn : Int) ≤ g)) || (isYes r.sustEnable && decide ((r.sustOn : Int) ≤ u))

/-- The target level of the figures G and S: the highest level whose on-threshold is met, or CALM where none is (R131). -/
def isTargetLevel (t : Tab 4 WindRecord) (g u : Int) (l : WindLevel) : Prop :=
  (l ≠ .calm → thresholdMet (t.get (levelIndex l)) g u = true)
    ∧ ∀ m : WindLevel, levelIndex l < levelIndex m → thresholdMet (t.get (levelIndex m)) g u = false

/-- Whether a slot is the surface slot of a zone: the lowest enabled SURFACE_TEMP slot that names its station and has its
bit in the mask (R156). -/
def State.isSurfaceSlot (s : State) (n : StationId) (z : ZoneNum) (i : SlotId) : Prop :=
  let names := fun j : SlotId =>
    isYes (s.slotRecord j).enabled = true ∧ (s.slotRecord j).kind = 2 ∧ (s.slotRecord j).station.toNat = n.val
      ∧ (s.slotRecord j).zoneMask.getLsbD z.val = true
  names i ∧ ∀ j < i, ¬names j

/-! ### What an event brings about in the zones, the level and the condition -/

/-- After an event a zone is as given, but for its mismatch deadline, which the departure of a HEAT frame may cancel
(R165). -/
def State.becomes (t : State) (n : StationId) (z : ZoneNum) (x : Zone) : Prop :=
  t.zone n z = { x with mismatch := (t.zone n z).mismatch }

/-- The want of a zone evaluated, with what follows from it (R159, R160, R162). -/
def State.follows (s t : State) (n : StationId) (z : ZoneNum) (want : Prop) : Prop :=
  let zn := s.zone n z
  let zr := s.zoneRecord n z
  let rested := ∀ start ∈ zn.offStart, zr.minOff ≤ (s.now - start).toNat
  let ran := zn.minOnReached = true ∨ ∃ start ∈ zn.onStart, zr.minOn ≤ (s.now - start).toNat
  let off := { zn with state := .off }
  let wait := { zn with state := .wait }
  (zn.state = .off → (want ∧ rested → t.becomes n z wait) ∧ (¬(want ∧ rested) → t.becomes n z zn))
  ∧ (zn.state = .shed →
      (want ∧ rested → t.becomes n z wait) ∧ (want ∧ ¬rested → t.becomes n z zn) ∧ (¬want → t.becomes n z off))
  ∧ (zn.state = .wait → (want → t.becomes n z zn) ∧ (¬want → t.becomes n z off))
  ∧ (zn.state = .on →
      (want ∨ ¬ran → t.becomes n z zn)
      ∧ (¬(want ∨ ¬ran) →
          t.becomes n z { off with offStart := some s.now, onStart := none, minOnReached := false }))
  ∧ (zn.state = .disabled ∨ zn.state = .inhibited ∨ zn.state = .fault → t.becomes n z zn)

/-- A HEAT marker is offered to a station whose ON zones an event has changed (R168). -/
def State.marked (s t : State) (n : StationId) : Prop :=
  (∃ z, ¬((s.zone n z).state = .on ↔ (t.zone n z).state = .on)) → s.offered t n .heat

/-- A station's zones after an event that may begin or end its heat block: at its beginning every zone that is neither
DISABLED nor in FAULT is INHIBITED at once; at its end every INHIBITED zone goes to OFF, and to WAIT where it wants heat and
its min_off is satisfied; otherwise they stand (R101, R163). -/
def State.blockFollows (s t : State) (n : StationId) : Prop :=
  s.marked t n
  ∧ ∀ z,
    let zn := s.zone n z
    let rested := ∀ start ∈ zn.offStart, (s.zoneRecord n z).minOff ≤ (s.now - start).toNat
    let exempt := zn.state = .disabled ∨ zn.state = .fault ∨ zn.state = .inhibited
    (heatBlock (s.station n) = false → heatBlock (t.station n) = true →
      (exempt → t.becomes n z zn)
      ∧ (¬exempt → t.becomes n z { zn with
          state := .inhibited, onStart := none, minOnReached := false, offStart := some s.now }))
    ∧ (heatBlock (s.station n) = true → heatBlock (t.station n) = false →
        (zn.state ≠ .inhibited → t.becomes n z zn)
        ∧ (zn.state = .inhibited →
            (s.wants n z = true ∧ rested → t.becomes n z { zn with state := .wait })
            ∧ (¬(s.wants n z = true ∧ rested) → t.becomes n z { zn with state := .off })))
    ∧ (heatBlock (s.station n) = heatBlock (t.station n) → t.becomes n z zn)

/-- A station's clearing after a change of its holders or of its lock report, from a state that keeps the law of clearing: it
starts, with the full clear delay and HORN on, where the event makes the station eligible; it is cancelled, with HORN off,
where a holder now claims DRIVE, and a CLEARING station is LOCKED; otherwise it stands as it was (R97, R98). -/
def State.clearingFollows (s t : State) (n : StationId) : Prop :=
  let a := s.station n
  let b := t.station n
  let able := fun st : Station =>
    st.installed = true ∧ st.link.isUp = true ∧ st.lockReportSeen = true ∧ driveCount st = 0
  s.clearingLaw →
  (¬able a → able b →
    b.clearing = some ⟨s.now, s.settings.timing.clearDelay⟩ ∧ s.raises t .lockChange ∧ s.offered t n (.horn true)
      ∧ t.authority n = .clearing)
  ∧ (a.clearing.isSome = true → driveCount b ≠ 0 →
      b.clearing = none ∧ s.raises t .lockChange ∧ s.offered t n (.horn false)
        ∧ (s.authority n = .clearing → t.authority n = .locked))
  ∧ (able a ∨ ¬able b → a.clearing = none ∨ driveCount b = 0 → b.clearing = a.clearing)

/-- The crew set of a report: the distinct badges other than 0 in the order of their first appearance, each with every claim
that one of its entries makes (R92, steps 1 and 2). -/
def crewOf (es : List ReportEntry) : List Holder :=
  let crew := es.filter fun e => e.badge != 0
  (crew.map (·.badge)).eraseDups.map fun badge =>
    { badge := badge
      scope := {
        drive := crew.any fun e => e.badge == badge && e.scope.drive
        heat := crew.any fun e => e.badge == badge && e.scope.heat } }

/-- A station's motion after an event on its locks or its link. Where its authority turns from permitting to non-permitting,
the demand, the freshness and the grants return and every moving SETPOINT that waits is a STOP in its place, and where the
progress is WARNING the warn-expiry time is cancelled, with HORN off offered while the link is UP; otherwise all of these
stand. The progress, the stow-start time and the stow timeout stand in either case (R20, R140). -/
def State.motionFollows (s t : State) (n : StationId) : Prop :=
  let a := s.station n
  let b := t.station n
  let turned := (s.authority n).permitting = true ∧ (t.authority n).permitting = false
  let waiting := s.queueing n ∧ b.link.isUp = true
  b.progress = a.progress ∧ b.stowStart = a.stowStart ∧ b.stowTimeout = a.stowTimeout
  ∧ (turned →
      b.demand = noDemand ∧ b.grant = noGrant ∧ b.freshness = none ∧ b.stale = false
        ∧ (∀ sp ∈ queuedSetpoints b.queue, sp.moving = false)
        ∧ (waiting → queuedSetpoints b.queue =
            (queuedSetpoints a.queue).map fun sp => if sp.moving then s.stopSetpoint n else sp))
  ∧ (turned → a.progress = .warning → b.warnTimer = none ∧ (b.link.isUp = true → s.offered t n (.horn false)))
  ∧ (¬(turned ∧ a.progress = .warning) → b.warnTimer = a.warnTimer)
  ∧ (¬turned →
      b.demand = a.demand ∧ b.grant = a.grant ∧ b.freshness = a.freshness ∧ b.stale = a.stale
        ∧ (waiting → queuedSetpoints b.queue = queuedSetpoints a.queue))

/-- LOCK_CHANGE after an event on a station's holder list that is no report: a record added, removed or changed in scope and
a clearing started or cancelled each raise it, and an event that leaves both as they stand raises none (R87). -/
def State.lockNews (s t : State) (n : StationId) : Prop :=
  ((t.station n).holders ≠ (s.station n).holders ∨ (t.station n).clearing ≠ (s.station n).clearing →
    s.raises t .lockChange)
  ∧ (s.clearingLaw → (t.station n).holders = (s.station n).holders → (t.station n).clearing = (s.station n).clearing →
      s.silent t .lockChange)

/-- The level after it is evaluated against the figures G and S that the event leaves: it rises at once to the target level,
or stands, and then the hold-down starts or runs on while the release condition holds, and is cancelled while it does not
(R131, R133). -/
def State.levelFollows (s t : State) : Prop :=
  let w := s.settings.wind.get (levelIndex s.wind.level)
  ∀ g ∈ t.worstGust, ∀ u ∈ t.worstSustained,
    let released := (isYes w.gustEnable = true → g < w.gustOff) ∧ (isYes w.sustEnable = true → u < w.sustOff)
    ∀ l, isTargetLevel s.settings.wind g u l →
      (levelIndex s.wind.level < levelIndex l →
        t.wind.level = l ∧ t.wind.holdDown = none ∧ s.raises t .windLevel ∧ t.wind.causes.wind = (l == .stow))
      ∧ (¬levelIndex s.wind.level < levelIndex l →
          t.wind.level = s.wind.level ∧ t.wind.causes.wind = s.wind.causes.wind
            ∧ (s.wind.level = .calm → t.wind.holdDown = s.wind.holdDown)
            ∧ (s.wind.level ≠ .calm → released →
                t.wind.holdDown = match s.wind.holdDown with
                  | some timer => some timer
                  | none => some ⟨s.now, w.holdDown⟩)
            ∧ (s.wind.level ≠ .calm → ¬released → t.wind.holdDown = none))

/-- The melt condition is what the mode gives: in AUTO, whether some air-temperature slot in service is COLD while the
precipitation hold runs (R158). -/
def State.conditionHolds (t : State) : Prop :=
  let cold := ∃ j, (t.slotRecord j).kind = 1 ∧ ((t.slot j).state = .active ∨ (t.slot j).state = .substituted)
    ∧ (t.slot j).side = .cold
  t.melt.condition = true ↔
    t.melt.mode = .forceOn ∨ (t.melt.mode = .auto ∧ t.melt.hold.isSome = true ∧ cold)

/-- The melt condition evaluated: it is what the mode gives; where it changes, MELT_CHANGE is raised and the want of every
zone is evaluated, and where it does not, no station changes (R158, R159). -/
def State.meltFollows (s t : State) : Prop :=
  t.conditionHolds
  ∧ (t.melt.condition ≠ s.melt.condition →
      s.raises t .meltChange
        ∧ ∀ n, s.marked t n ∧ ∀ z, s.follows t n z ({ s with melt := t.melt }.wants n z = true))
  ∧ (t.melt.condition = s.melt.condition → t.stations = s.stations)

/-- A slot in service leaves it: where no anemometer is left, the blind timer starts, the hold-down is cancelled and the level
is frozen; where some is, the level is evaluated over those left; the melt condition is evaluated where it was an
air-temperature or precipitation slot, and where it was a surface slot the want of each zone it served (R120, R130, R134,
R156, R158, R159). -/
def State.leavesService (s t : State) (i : SlotId) : Prop :=
  let kind := (s.slotRecord i).kind
  let serving := fun (u : State) (j : SlotId) =>
    (u.slotRecord j).kind = 0 ∧ ((u.slot j).state = .active ∨ (u.slot j).state = .substituted)
  (kind = 0 → (∀ j, ¬serving t j) →
    t.wind = { s.wind with blindTimer := some ⟨s.now, s.settings.timing.blindTimeout⟩, holdDown := none })
  ∧ (kind = 0 → (∃ j, serving t j) → s.levelFollows t ∧ t.wind.blindTimer = s.wind.blindTimer)
  ∧ (kind = 1 ∨ kind = 3 → s.meltFollows t)
  ∧ (kind = 2 → ∀ n, s.marked t n
      ∧ ∀ z, (s.isSurfaceSlot n z i → s.follows t n z False)
        ∧ (¬s.isSurfaceSlot n z i → t.becomes n z (s.zone n z)))

/-- An accepted surface value applied: each ON zone that the slot serves and whose overtemperature threshold the value
reaches goes to FAULT, recorded as OVERTEMP with the value and the zone, and the want of every other zone it serves is
evaluated with what follows from it; no other zone changes; a HEAT marker is offered where the ON zones of a station changed,
and where no zone faults the Fault Table stands (R156, R159, R160, R162, R164, R168; that the last report of a station is that
of its highest such zone is log entry 21). -/
def State.surfaceFollows (s t : State) (i : SlotId) (v : Int) : Prop :=
  let hot := fun (n : StationId) (z : ZoneNum) =>
    s.isSurfaceSlot n z i ∧ (s.zone n z).state = .on ∧ (s.zoneRecord n z).overtemp ≤ v
  (∀ n, s.marked t n
    ∧ ∀ z,
      let zn := s.zone n z
      let zr := s.zoneRecord n z
      let want := s.melt.condition = true ∧ v < zr.setpoint + if zn.state = .on then zr.hysteresis else 0
      (hot n z →
        t.zone n z = { zn with
          state := .fault, faultReason := some .overtemp, offStart := some s.now, onStart := none
          minOnReached := false, mismatch := none }
        ∧ ((∀ y, z < y → ¬hot n y) →
            s.recorded t (.station n) .overtemp (BitVec.ofNat 32 ((v % 65536).toNat + 65536 * z.val))))
      ∧ (¬hot n z → s.isSurfaceSlot n z i → s.follows t n z want)
      ∧ (¬hot n z → ¬s.isSurfaceSlot n z i → t.becomes n z (s.zone n z)))
  ∧ ((∀ n z, ¬hot n z) → t.faults = s.faults)

/-- A value accepted for a slot enters the ring or the side of its kind and reaches its consumer: an anemometer has a gust and
a sustained figure, the level is evaluated, and the first to enter service cancels the blind timer and takes BLIND out of the
set; a crossing that cross_dir selects raises FREEZE_CROSS, and where neither that nor a change of the condition happens no
cause is raised; a surface value is applied to the zones it serves; a positive precipitation value stamps the time and starts
the hold anew; and the melt condition is evaluated for an air temperature and a precipitation value (R125 to R127, R131, R134,
R156, R158, R164). -/
def State.valueFollows (s t : State) (i : SlotId) (v : Int) : Prop :=
  let r := s.slotRecord i
  let ring := (s.slot i).ring
  let serving := fun j : SlotId =>
    (s.slotRecord j).kind = 0 ∧ ((s.slot j).state = .active ∨ (s.slot j).state = .substituted)
  let crossed :=
    ((s.slot i).side = .warm ∧ v < r.crossLevel - r.deadband ∧ (r.crossDir = 1 ∨ r.crossDir = 3))
      ∨ ((s.slot i).side = .cold ∧ r.crossLevel + r.deadband < v ∧ (r.crossDir = 2 ∨ r.crossDir = 3))
  (r.kind = 0 → s.levelFollows t ∧ t.worstGust.isSome = true ∧ t.worstSustained.isSome = true
    ∧ (ring.length ≤ 32 → (t.slot i).ring = (ring ++ [v]).drop (ring.length - 31))
    ∧ t.melt = s.melt
    ∧ ((∀ j, ¬serving j) → t.wind.blindTimer = none ∧ t.wind.causes.blind = false)
    ∧ ((∃ j, serving j) → t.wind.blindTimer = s.wind.blindTimer ∧ t.wind.causes.blind = s.wind.causes.blind))
  ∧ (r.kind = 1 →
      (t.slot i).side = (
        if v < r.crossLevel - r.deadband then .cold
        else if r.crossLevel + r.deadband < v then .warm
        else (s.slot i).side)
      ∧ t.melt = { s.melt with condition := t.melt.condition }
      ∧ (crossed → s.raises t .freezeCross)
      ∧ (s.restLaw → ¬crossed → t.melt.condition = s.melt.condition → t.attention = s.attention))
  ∧ (r.kind = 2 → s.surfaceFollows t i v ∧ t.melt = s.melt)
  ∧ (r.kind = 3 →
      (0 < v → t.melt = { s.melt with
        condition := t.melt.condition, stamp := some s.now, hold := some ⟨s.now, s.settings.timing.precipHold⟩ })
      ∧ (v ≤ 0 → t.melt = { s.melt with condition := t.melt.condition })
      ∧ (s.restLaw → t.melt.condition = s.melt.condition → t.attention = s.attention))
  ∧ (r.kind = 1 ∨ r.kind = 3 → s.meltFollows t)
  ∧ (r.kind ≠ 0 → (t.slot i).ring = ring ∧ t.wind = s.wind)
  ∧ (r.kind ≠ 1 → (t.slot i).side = (s.slot i).side)

/-! ### The stow of the cluster (R138, R139, R141, R148) -/

/-- The zones of a station that are ON stand, so that an event offers it no HEAT marker (R168). -/
def State.sameOn (s t : State) (n : StationId) : Prop :=
  ∀ z, (s.zone n z).state = .on ↔ (t.zone n z).state = .on

/-- What an activation of cluster stow does to a station: every queued SETPOINT is a STOP, demand, freshness and grants
return, an uninstalled station keeps NONE, a blocked one is PENDING, any other enters WARNING: a STOP setpoint and then HORN on
are offered and the warn-expiry time is set, or, where the stow warn time is 0, it passes to MOVING after the STOP. The rest
of the record stands, but for zones that the same event moves (R138, R139, R141, R63; that a stow-start time of an earlier
stow stands until the next entry to MOVING is log entry 18). -/
def State.activates (s t : State) (n : StationId) : Prop :=
  let a := s.station n
  let b := t.station n
  let stop := StationEntry.setpoint (s.stopSetpoint n)
  { a with zones := b.zones }.sameButMotion b
  ∧ b.demand = noDemand ∧ b.grant = noGrant ∧ b.freshness = none ∧ b.stale = false
  ∧ (∀ sp ∈ queuedSetpoints b.queue, sp = s.stopSetpoint n)
  ∧ (a.installed = false → b.progress = .none)
  ∧ (a.installed = true → (s.authority n).blocked = true → b.progress = .pending)
  ∧ ((s.authority n).blocked = true →
      b.warnTimer = a.warnTimer ∧ b.stowStart = a.stowStart ∧ b.stowTimeout = a.stowTimeout)
  ∧ ((s.authority n).blocked = false → s.settings.timing.stowWarn ≠ 0 →
      b.progress = .warning ∧ b.warnTimer = some ⟨s.now, s.settings.timing.stowWarn⟩
        ∧ b.stowStart = a.stowStart ∧ b.stowTimeout = a.stowTimeout
        ∧ s.offered t n stop ∧ s.offered t n (.horn true)
        ∧ (a.tx.isSome = true → a.queue.length ≤ 6 → (∀ e ∈ a.queue, e.kind ≠ .setpoint ∧ e.kind ≠ .horn) →
            s.sameOn t n → b.queue = a.queue ++ [stop, .horn true])
        ∧ (s.idling n → b.tx = some (.setpoint (s.stopSetpoint n)) ∧ (s.sameOn t n → b.queue = [.horn true])))
  ∧ ((s.authority n).blocked = false → s.settings.timing.stowWarn = 0 →
      b.progress = .moving ∧ b.warnTimer = none ∧ b.stowStart = some s.now
        ∧ b.stowTimeout = some ⟨s.now, s.settings.timing.stowTimeout⟩ ∧ s.offered t n stop
        ∧ (a.tx.isSome = true → a.queue.length ≤ 7 → (∀ e ∈ a.queue, e.kind ≠ .setpoint) →
            s.sameOn t n → b.queue = a.queue ++ [stop])
        ∧ (s.idling n → b.tx = some (.setpoint (s.stopSetpoint n)) ∧ (s.sameOn t n → b.queue = [])))

/-- What a release of cluster stow does to a station: a STOP setpoint is offered while MOVING, HORN off in STOW-WARNING and
PIN out to an installed one that has a pin; progress, timers, demand and grants return. The rest of the record stands, but
for zones that the same event moves (R148, R63; that the stow-start time stands is log entry 18). -/
def State.releases (s t : State) (n : StationId) : Prop :=
  let a := s.station n
  let b := t.station n
  { a with zones := b.zones }.sameButMotion b
  ∧ b.progress = .none ∧ b.warnTimer = none ∧ b.stowTimeout = none ∧ b.stowStart = a.stowStart
  ∧ b.demand = noDemand ∧ b.grant = noGrant ∧ b.freshness = none ∧ b.stale = false
  ∧ (a.progress = .moving → s.offered t n (.setpoint (s.stopSetpoint n))
      ∧ (s.idling n → b.tx = some (.setpoint (s.stopSetpoint n))))
  ∧ (s.authority n = .stowWarning → s.offered t n (.horn false) ∧ (s.idling n → b.tx = some (.horn false)))
  ∧ (a.installed = true → isYes (s.envelope n).pinFitted = true → s.offered t n (.pin false)
      ∧ (s.idling n → a.progress ≠ .moving → s.authority n ≠ .stowWarning → b.tx = some (.pin false)))

/-- Where an event makes the stow cause set non-empty, it activates the stow of every station and starts the refresh timer;
where it empties the set, it releases every station and stops the timer; and STOW_CHANGE is raised either way (R135, R138,
R148). -/
def State.stowFollows (s t : State) : Prop :=
  (s.stowActive = false → t.stowActive = true →
    t.wind.refresh = some ⟨s.now, s.settings.timing.stowRefresh⟩ ∧ s.raises t .stowChange ∧ ∀ n, s.activates t n)
  ∧ (s.stowActive = true → t.stowActive = false →
      t.wind.refresh = none ∧ s.raises t .stowChange ∧ ∀ n, s.releases t n)

/-- The stow of a station after an event whose own change leaves its record as `a`, and which may end its blocking under active
stow. Where it does, a PENDING station and one whose warning was suspended enter WARNING, the warning whole: a STOP setpoint
and HORN on are offered and the full warn-expiry time is set, or, where the stow warn time is 0, the station passes to MOVING
with a new stow-start time and stow timeout; a MOVING or STOWED station takes up its progress. In every other case the record
stands as `a`, but for what a departure writes (R139, R140, R141, R147). -/
def State.stowTakesUp (s t : State) (n : StationId) (a : Station) (freed : Prop) : Prop :=
  let warn := s.settings.timing.stowWarn
  let stop := StationEntry.setpoint (s.stopSetpoint n)
  let active := freed ∧ s.stowActive = true
  let begins := active ∧ (a.progress = .pending ∨ a.progress = .warning)
  (begins → warn ≠ 0 →
    { a with progress := .warning, warnTimer := some ⟨s.now, warn⟩ }.sameButPort (t.station n)
      ∧ t.authority n = .stowWarning ∧ s.offered t n stop ∧ s.offered t n (.horn true))
  ∧ (begins → warn = 0 →
      { a with
        progress := .moving, warnTimer := none, stowStart := some s.now
        stowTimeout := some ⟨s.now, s.settings.timing.stowTimeout⟩ }.sameButPort (t.station n)
        ∧ t.authority n = .stowMoving ∧ s.offered t n stop)
  ∧ (¬begins → a.sameButPort (t.station n))
  ∧ (active → a.progress = .moving → t.authority n = .stowMoving)
  ∧ (active → a.progress = .stowed → t.authority n = .stowStowed)

/-! ### A new active entry (R3, R20, R73, R74, R77) -/

/-- A setpoint within an entry: each target clamped into its soft limits, each speed capped at its rate maximum (R74). -/
def limitedTo (e : Envelope) (sp : Setpoint) : Setpoint where
  azTarget := between e.azMin e.azMax sp.azTarget
  azSpeed := min sp.azSpeed e.azRateMax
  elTarget := between e.elMin e.elMax sp.elTarget
  elSpeed := min sp.elSpeed e.elRateMax

/-- A queue with each SETPOINT changed in its place. -/
def mapSetpoints (f : Setpoint → Setpoint) (q : List StationEntry) : List StationEntry :=
  q.map fun x =>
    match x with
    | .setpoint sp => .setpoint (f sp)
    | y => y

/-- A station record within an entry: its queued SETPOINTs in their places, and its granted speeds. The granted watts, the
demand and every other field stand (R74). -/
def recordWithin (e : Envelope) (a : Station) : Station :=
  { a with
    queue := mapSetpoints (limitedTo e) a.queue
    grant := { a.grant with
      azSpeed := min a.grant.azSpeed e.azRateMax
      elSpeed := min a.grant.elSpeed e.elRateMax } }

/-- A station that an event uninstalls, with a new active entry and no stow motion: its record comes within the entry, its
progress is NONE without warn-expiry time or stow timeout, and where it was permitting, the demand, the freshness and the
grants return and every moving SETPOINT that waits is a STOP. Every other field stands: holders, clearing, latch, telemetry,
clip causes and zones among them (R3, R20, R73, R74, R77; that the stow-start time stands is log entry 18). -/
def State.uninstalls (s t : State) (n : StationId) : Prop :=
  let a := recordWithin (t.envelope n) (s.station n)
  let gone := { a with installed := false, progress := .none, warnTimer := none, stowTimeout := none }
  ((s.authority n).permitting = false → t.station n = gone)
  ∧ ((s.authority n).permitting = true →
      t.station n = { gone with
        demand := noDemand
        grant := noGrant
        freshness := none
        stale := false
        queue := mapSetpoints (fun sp => if sp.moving then t.stopSetpoint n else sp) a.queue })

/-- A station that an event installs, with a new active entry: its record comes within the entry; under active stow it is
PENDING, with demand, freshness and grants returned and every SETPOINT that waits a STOP. Every other field stands, but for
the clearing, which may start, and what a departure writes; of the queue HORN alone may join or change (R3, R73, R74, R97,
R138). -/
def State.installs (s t : State) (n : StationId) : Prop :=
  let a := { recordWithin (t.envelope n) (s.station n) with installed := true, clearing := (t.station n).clearing }
  let joined := if s.stowActive = true then
    { a with
      progress := .pending
      demand := noDemand
      grant := noGrant
      freshness := none
      stale := false
      queue := mapSetpoints (fun _ => t.stopSetpoint n) a.queue }
    else a
  let others := fun q : List StationEntry => q.filter fun e => e.kind ≠ .horn
  joined.sameButPort (t.station n)
  ∧ (a.tx.isSome = true →
      queuedSetpoints (t.station n).queue = queuedSetpoints joined.queue
        ∧ (a.queue.length ≤ 7 → others (t.station n).queue = others joined.queue))

/-! ### Passes (R111, R112, R114, R122) -/

/-- Whether the want of a zone has been acted on, so that to evaluate it again would move nothing (R159, R160, R162). -/
def State.settled (t : State) (n : StationId) (z : ZoneNum) : Prop :=
  let zn := t.zone n z
  let want := t.wants n z = true
  let rested := ∀ start ∈ zn.offStart, (t.zoneRecord n z).minOff ≤ (t.now - start).toNat
  let ran := zn.minOnReached = true ∨ ∃ start ∈ zn.onStart, (t.zoneRecord n z).minOn ≤ (t.now - start).toNat
  (zn.state = .off → ¬(want ∧ rested)) ∧ (zn.state = .shed → want ∧ ¬rested) ∧ (zn.state = .wait → want)
    ∧ (zn.state = .on → want ∨ ¬ran)

/-- Whether an event could hand the melt condition more than one slot's values: another slot of a kind that it is evaluated
for is substituted or awaited. -/
def State.otherWeather (s : State) : Prop :=
  ∃ j, ((s.slotRecord j).kind = 1 ∨ (s.slotRecord j).kind = 3)
    ∧ ((s.slot j).state = .substituted ∨ ∃ tr ∈ s.scanner.transaction, ∃ a ∈ tr.awaited, a.slot = j)

/-- A pass has met a substituted slot: its value was delivered as an accepted one, at the time of the event, into the ring or
the side of its kind. The level is at least the target level after a wind speed; a selected crossing raised FREEZE_CROSS; a
positive precipitation value stamped the time. After an air temperature or a precipitation value the melt condition is what
the mode gives, and where the event has changed it MELT_CHANGE is raised and every zone has acted on its want. After a surface
value every zone it serves has acted on its want and none is ON at its overtemperature threshold or above it: one that was ON
is in FAULT, recorded as OVERTEMP, unless a value of another slot in the same event had ended its want before. Where the event
is the pass alone and the slot the only substituted one, all that follows is what follows an accepted value (R122, R125 to
R127, R131, R156, R158, R159, R164, R168). -/
def State.delivers (s t : State) (i : SlotId) : Prop :=
  let r := s.slotRecord i
  ∀ p ∈ (s.slot i).substitute,
    (t.slot i).state = .substituted ∧ (t.slot i).miss = 0 ∧ (t.slot i).substitute = some p
      ∧ (t.slot i).latestValue = some (p.1, s.now)
      ∧ (r.kind = 0 → (s.slot i).ring.length ≤ 32 →
          (t.slot i).ring = ((s.slot i).ring ++ [p.1]).drop ((s.slot i).ring.length - 31))
      ∧ (r.kind = 0 → ∀ g ∈ t.worstGust, ∀ u ∈ t.worstSustained, ∀ l, isTargetLevel s.settings.wind g u l →
          levelIndex l ≤ levelIndex t.wind.level)
      ∧ (r.kind = 1 →
          (t.slot i).side =
            if p.1 < r.crossLevel - r.deadband then .cold
            else if r.crossLevel + r.deadband < p.1 then .warm
            else (s.slot i).side)
      ∧ (r.kind = 1 →
          ((s.slot i).side = .warm ∧ p.1 < r.crossLevel - r.deadband ∧ (r.crossDir = 1 ∨ r.crossDir = 3))
            ∨ ((s.slot i).side = .cold ∧ r.crossLevel + r.deadband < p.1 ∧ (r.crossDir = 2 ∨ r.crossDir = 3)) →
          s.raises t .freezeCross)
      ∧ (r.kind = 3 → 0 < p.1 →
          t.melt.stamp = some s.now ∧ t.melt.hold = some ⟨s.now, s.settings.timing.precipHold⟩)
      ∧ (r.kind = 1 ∨ r.kind = 3 → t.conditionHolds
          ∧ (t.melt.condition ≠ s.melt.condition → s.raises t .meltChange
              ∧ ∀ n, s.marked t n ∧ ∀ z, 0 ≤ (s.zoneRecord n z).hysteresis → t.settled n z))
      ∧ (r.kind = 2 → ∀ n, s.marked t n ∧ ∀ z, s.isSurfaceSlot n z i →
          (0 ≤ (s.zoneRecord n z).hysteresis → t.settled n z)
          ∧ ((t.zone n z).state = .on → p.1 < (s.zoneRecord n z).overtemp)
          ∧ ((s.zone n z).state = .on → (s.zoneRecord n z).overtemp ≤ p.1 →
              ((t.zone n z).state = .fault ∧ (t.zone n z).faultReason = some .overtemp
                ∧ ∃ detail, s.recorded t (.station n) .overtemp detail)
              ∨ ((t.zone n z).state = .off ∧ s.otherWeather)))
      ∧ (s.scanner.transaction = none → (∀ j, j ≠ i → (s.slot j).state ≠ .substituted) → s.valueFollows t i p.1)

/-- A pass has ended: once, the scanner is IDLE; continuously, it is in GAP for the pass gap, or for 1 ms where that is 0 and
the pass issued nothing (R114). -/
def State.passEnds (s t : State) (sc : Scanner) : Prop :=
  t.scanner = match sc.mode with
    | .once => { sc with state := .idle }
    | .continuous => { sc with
        state := .gap
        gapTimer := some ⟨s.now, if sc.issued = false ∧ s.settings.timing.passGap = 0 then 1
          else s.settings.timing.passGap⟩ }

/-- A transaction has been issued for some slots with a frame and a deadline, and the pass holds the next position (R111,
R112). -/
def State.issues (s t : State) (sc : Scanner) (frame : PollFrame) (slots : List SlotId) (timeout next : Nat) : Prop :=
  t.scanner = { sc with
    state := .polling
    position := next
    issued := true
    transaction := some {
      frame := frame
      awaited := slots.map fun i => { slot := i, address := (s.slotRecord i).address, answered := false }
      deadline := ⟨s.now, timeout⟩ } }

/-- From the position that `sc` holds, a pass goes over enabled positions whose slots are all substituted, delivering each,
to the first position of another sort: there it issues a transaction for the slots to be polled, with the single poll timeout
for one and twice that for a pair, delivering the other slot of the pair where that one is substituted; or it ends, where a
slot is disabled or the list is done (R111, R112, R114). -/
def State.passGoesOn (s t : State) (sc : Scanner) : Prop :=
  let on := fun i : SlotId => isYes (s.slotRecord i).enabled = true
  let sub := fun i : SlotId => (s.slot i).state = .substituted
  let poll := fun i : SlotId => PollFrame.poll (s.slotRecord i).address
  let timeout := s.settings.timing.pollTimeout
  (sc.order = .sequential → ∃ k, sc.position ≤ k ∧ k ≤ sc.position + 16
    ∧ (∀ i : SlotId, sc.position ≤ i.val → i.val < k → on i ∧ sub i ∧ s.delivers t i)
    ∧ (∀ i : SlotId, i.val = k → on i → ¬sub i ∧ s.issues t sc (poll i) [i] timeout (k + 1))
    ∧ ((∀ i : SlotId, i.val = k → ¬on i) → s.passEnds t sc))
  ∧ (sc.order = .paired → ∃ k, sc.position ≤ k ∧ k ≤ sc.position + 8
    ∧ (∀ a b : SlotId, b.val = a.val + 8 → sc.position ≤ a.val → a.val < k →
        on a ∧ on b ∧ sub a ∧ sub b ∧ s.delivers t a ∧ s.delivers t b)
    ∧ (∀ a b : SlotId, b.val = a.val + 8 → a.val = k → on a → on b →
        ¬(sub a ∧ sub b)
        ∧ (¬sub a → ¬sub b →
            s.issues t sc (.pollPair (s.slotRecord a).address (s.slotRecord b).address) [a, b] (2 * timeout) (k + 1))
        ∧ (sub a → s.delivers t a ∧ s.issues t sc (poll b) [b] timeout (k + 1))
        ∧ (sub b → s.delivers t b ∧ s.issues t sc (poll a) [a] timeout (k + 1)))
    ∧ ((∀ a b : SlotId, b.val = a.val + 8 → a.val = k → ¬(on a ∧ on b)) → s.passEnds t sc))

/-! ### Fields as bytes (R195, R199) -/

/-- A value in so many bytes, the most significant first, a negative one in two's complement (R195, R199). -/
def be (size : Nat) (v : Int) : List Byte := (List.range size).map fun i => BitVec.ofInt 8 (v / 256 ^ (size - 1 - i))

/-- A yes-or-no byte (R199). -/
def yesByte (b : Bool) : List Byte := [if b then 1 else 0]

/-- An optional field: a presence byte, then the field (R199). -/
def optionalField (o : Option (List Byte)) : List Byte :=
  match o with
  | none => [0]
  | some bs => 1 :: bs

/-- A set as a number: bit i for the i-th member (R199). -/
def setValue (members : List Bool) : Int := (members.zipIdx.map fun p => if p.1 then 2 ^ p.2 else 0).sum

/-- An enumerated value: its position in the list of its rule (R199, R201). -/
def positionOf {α : Type} [BEq α] (values : List α) (a : α) : List Byte := be 1 (values.idxOf a)

/-- An expiry as a reading of the Timebase, where its timer runs (R1, R199). -/
def expiryField (o : Option Timer) : List Byte := optionalField (o.map fun t => be 4 (t.start.toNat + t.interval))

/-! ### Table records as bytes (R49, R67, R105, R128, R152, R187, R199) -/

/-- The bytes of an envelope entry (R67, R199). -/
def envelopeBytes (e : Envelope) : List Byte :=
  [e.installed] ++ be 4 e.azMin ++ be 4 e.azMax ++ be 4 e.elMin ++ be 4 e.elMax ++ be 2 e.azRateMax ++ be 2 e.elRateMax
    ++ be 2 e.holdW ++ be 2 e.kAz ++ be 2 e.kEl
    ++ be 4 (match e.stowAz with | .keep => 0x7FFFFFFF | .position p => p) ++ be 4 e.stowEl
    ++ be 2 e.stowAzRate ++ be 2 e.stowElRate ++ be 2 e.stowTol ++ [e.pinFitted] ++ be 2 e.overrunMargin

/-- The bytes of the BUDGET record (R49, R199). -/
def budgetBytes (r : Budget) : List Byte := be 4 r.capacity ++ be 4 r.reserve ++ [r.meltPriority]

/-- The bytes of a WIND record (R128, R199). -/
def windBytes (w : WindRecord) : List Byte :=
  be 1 w.wf ++ be 2 w.gustOn ++ be 2 w.gustOff ++ [w.gustEnable] ++ be 2 w.sustOn ++ be 2 w.sustOff ++ [w.sustEnable]
    ++ be 4 w.holdDown ++ be 1 w.pct

/-- The times of the TIMING record in the order of its table (R187). -/
def timingTimes (r : Timing) : List Nat :=
  [r.setpointDeadline, r.linkTimeout, r.clearDelay, r.stowWarn, r.stowRefresh, r.stowTimeout, r.pollTimeout, r.passGap,
    r.blindTimeout, r.precipHold, r.substituteLife, r.contactorMismatch]

/-- The bytes of the TIMING record (R187, R199). -/
def timingBytes (r : Timing) : List Byte := (timingTimes r).flatMap fun ms => be 4 ms

/-- The bytes of a slot record of POLL_LIST (R105, R199). -/
def slotBytes (r : SlotRecord) : List Byte :=
  [r.enabled, r.kind, r.address] ++ be 2 r.calM ++ be 2 r.calB ++ be 2 r.plausLow ++ be 2 r.plausHigh
    ++ [r.station, r.zoneMask] ++ be 2 r.crossLevel ++ be 2 r.deadband ++ [r.crossDir]

/-- The bytes of the header record of POLL_LIST (R105, R199). -/
def headerBytes (h : PollHeader) : List Byte := [h.autostart, h.order] ++ be 16 0

/-- The bytes of a ZONES record (R152, R199). -/
def zoneBytes (r : ZoneRecord) : List Byte :=
  [r.enabled] ++ be 2 r.powerW ++ be 1 r.priority ++ be 2 r.setpoint ++ be 2 r.hysteresis ++ be 2 r.overtemp
    ++ be 4 r.minOn ++ be 4 r.minOff

/-- An unsigned value that so many bytes carry (R199). -/
def fits (size v : Nat) : Prop := v < 256 ^ size

/-- A signed value that so many bytes carry (R199). -/
def fitsSigned (size : Nat) (v : Int) : Prop := -(256 ^ size) ≤ 2 * v ∧ 2 * v < 256 ^ size

/-- Every field of an envelope entry fits its bytes, and its azimuth position is not the code of KEEP (R199). -/
def envelopeFits (e : Envelope) : Prop :=
  (∀ v ∈ [e.azMin, e.azMax, e.elMin, e.elMax, e.stowEl], fitsSigned 4 v)
    ∧ (∀ v ∈ [e.azRateMax, e.elRateMax, e.holdW, e.kAz, e.kEl, e.stowAzRate, e.stowElRate, e.stowTol, e.overrunMargin],
        fits 2 v)
    ∧ ∀ p, e.stowAz = .position p → fitsSigned 4 p ∧ p ≠ 0x7FFFFFFF

/-- Every field of a WIND record fits its bytes (R199). -/
def windFits (w : WindRecord) : Prop :=
  fits 1 w.wf ∧ (∀ v ∈ [w.gustOn, w.gustOff, w.sustOn, w.sustOff], fits 2 v) ∧ fits 4 w.holdDown ∧ fits 1 w.pct

/-- Every field of a slot record fits its bytes (R199). -/
def slotFits (r : SlotRecord) : Prop :=
  fits 2 r.calM ∧ ∀ v ∈ [r.calB, r.plausLow, r.plausHigh, r.crossLevel, r.deadband], fitsSigned 2 v

/-- Every field of a ZONES record fits its bytes (R199). -/
def zoneFits (r : ZoneRecord) : Prop :=
  fits 2 r.powerW ∧ fits 1 r.priority ∧ (∀ v ∈ [r.setpoint, r.hysteresis, r.overtemp], fitsSigned 2 v)
    ∧ fits 4 r.minOn ∧ fits 4 r.minOff

/-- A WIND record as it stands at an index: the fields that R128 does not give to the index are disregarded (R128,
R199). -/
def windAt (j : Fin 4) (w : WindRecord) : WindRecord :=
  let given := fun v : Nat => if j = 0 then 0 else v
  { wf := w.wf
    gustOn := given w.gustOn
    gustOff := given w.gustOff
    gustEnable := if j = 0 then 0 else w.gustEnable
    sustOn := given w.sustOn
    sustOff := given w.sustOff
    sustEnable := if j = 0 then 0 else w.sustEnable
    holdDown := given w.holdDown
    pct := if j = 1 ∨ j = 2 then w.pct else 0 }

/-! ### Shedding and admission (R56, R161) -/

/-- The on-time of a zone (R55). -/
def onTimeOf (s : State) (p : StationId × ZoneNum) : Nat :=
  match (s.zone p.1 p.2).onStart with
  | none => 0
  | some start => (s.now - start).toNat

/-- Whether a zone comes before another in the order of shedding: priority 3 first, then the longest on-time, then
ascending station and zone (R56). -/
def shedBefore (s : State) (p q : StationId × ZoneNum) : Prop :=
  (s.zoneRecord q.1 q.2).priority < (s.zoneRecord p.1 p.2).priority
    ∨ ((s.zoneRecord p.1 p.2).priority = (s.zoneRecord q.1 q.2).priority
      ∧ (onTimeOf s q < onTimeOf s p ∨ (onTimeOf s p = onTimeOf s q ∧ (zoneIndex p.1 p.2).val < (zoneIndex q.1 q.2).val)))

/-- Whether a zone comes before another in the order of admission: priority 0 first, then ascending station and zone
(R161). -/
def admitBefore (s : State) (p q : StationId × ZoneNum) : Bool :=
  decide ((s.zoneRecord p.1 p.2).priority < (s.zoneRecord q.1 q.2).priority
    ∨ ((s.zoneRecord p.1 p.2).priority = (s.zoneRecord q.1 q.2).priority
      ∧ (zoneIndex p.1 p.2).val < (zoneIndex q.1 q.2).val))

/-- The zones that an event turns from one state to another. -/
def turned (a b : ZoneState) (s t : State) : List (StationId × ZoneNum) :=
  allZones.filter fun p => (s.zone p.1 p.2).state == a && (t.zone p.1 p.2).state == b

/-- The power of zones together. -/
def powerOf (s : State) (ps : List (StationId × ZoneNum)) : Nat := (ps.map fun p => (s.zoneRecord p.1 p.2).powerW).sum

/-- The zones shed between `s` and `t` are candidates, each taken before every candidate that was not; they count as off
from now on; and without the last of them the need was not met, nor is it with all of them while candidates are left
(R56). -/
def shedInOrder (candidate : StationId × ZoneNum → Prop) (need : Int) (s t : State) : Prop :=
  let shed := turned .on .shed s t
  (∀ p ∈ shed, candidate p
    ∧ (t.zone p.1 p.2).offStart = some s.now ∧ (t.zone p.1 p.2).onStart = none
    ∧ (∀ q ∈ allZones, candidate q → q ∉ shed → shedBefore s p q)
    ∧ ((∀ q ∈ shed, q ≠ p → shedBefore s q p) → (powerOf s shed : Int) < need + (s.zoneRecord p.1 p.2).powerW))
  ∧ (need ≤ powerOf s shed ∨ ∀ q ∈ allZones, candidate q → q ∈ shed)

/-! ### Batches, writes and resets -/

/-- Of a write of `count` records from index `first` into a table of `len`, record `k` is the last one placed at index `j`,
and stands (R185). -/
def lastPlaced (first count len j k : Nat) : Prop :=
  k < count ∧ (first + k) % len = j ∧ ∀ i < count, k < i → (first + i) % len ≠ j

/-- Such a write places no record at index `j` (R185). -/
def notPlaced (first count len j : Nat) : Prop := ∀ k < count, (first + k) % len ≠ j

/-- A batch that is not malformed (R23). -/
def wellFormedBatch (es : List BatchEntry) : Prop :=
  es ≠ [] ∧ (∀ b ∈ es, b.station.toNat ≤ 7) ∧ (es.map (·.station)).Nodup

/-- The scanner after a reset that autostarts: CONTINUOUS, in the header's order, its first pass at slot 0, or at slots 0 and
8 where it is PAIRED; a pass that is empty there has ended, and its gap lasts at least 1 ms (R111, R112, R114, R116). -/
def State.autostarted (t : State) : Prop :=
  let paired := t.settings.poll.header.order = 1
  let base := { resetScanner with mode := .continuous, order := if paired then .paired else .sequential }
  let first := isYes (t.slotRecord 0).enabled = true ∧ (paired → isYes (t.slotRecord 8).enabled = true)
  let awaited : SlotId → Awaited := fun i => { slot := i, address := (t.slotRecord i).address, answered := false }
  (first → t.scanner = { base with
    state := .polling
    position := 1
    issued := true
    transaction := some (
      if paired then {
        frame := .pollPair (t.slotRecord 0).address (t.slotRecord 8).address
        awaited := [awaited 0, awaited 8]
        deadline := ⟨t.now, 2 * t.settings.timing.pollTimeout⟩ }
      else {
        frame := .poll (t.slotRecord 0).address
        awaited := [awaited 0]
        deadline := ⟨t.now, t.settings.timing.pollTimeout⟩ }) })
  ∧ (¬first → t.scanner = { base with state := .gap, gapTimer := some ⟨t.now, max 1 t.settings.timing.passGap⟩ })

/-- What either reset leaves, for the STORM level sampled in it: the records, the allocation, the slots, the wind and stow
state, the melt state and the empty upstream queue (the table of record values after reset, R48, R108, R150, R155, R157,
R158, R39). -/
def State.afterReset (t : State) (storm : Bool) : Prop :=
  (∀ n, t.station n =
    { resetStation (t.station n).installed (Tab.ofFn fun z => resetZone (isYes (t.zoneRecord n z).enabled)) with
      progress := if storm && (t.station n).installed then .pending else .none })
    ∧ t.alloc = resetAlloc
    ∧ (∀ i, t.slot i = resetSlot)
    ∧ (t.settings.poll.header.autostart ≠ 1 → t.scanner = resetScanner)
    ∧ (t.settings.poll.header.autostart = 1 → t.autostarted)
    ∧ t.wind = {
        level := .calm
        holdDown := none
        blindTimer := some ⟨t.now, t.settings.timing.blindTimeout⟩
        causes := { noCauses with stormLine := storm }
        refresh := if storm then some ⟨t.now, t.settings.timing.stowRefresh⟩ else none }
    ∧ t.stormInput = storm
    ∧ t.melt = resetMelt
    ∧ t.upQueue = []
    ∧ (storm = true → t.attention.latched = some .stowChange)
    ∧ t.upTx = t.attention.latched.map t.alertOf

end Sys2Proof.Machine
end

