-- ==== Sys2Proof/WellFormed.lean ====
section
/-! DEFINITION. Which commands can arrive at a supervisor: the operands of a command are those that a good frame, a pin or a
timer can carry (R190, R195 to R198). `exec` has a meaning for the others as well (log entry 23). -/

namespace Sys2Proof

open Machine

/-- Whether an address lies in the supervisor's range of node addresses. -/
def isNodeAddress (a : Byte) : Bool := decide (0x10 ≤ a.toNat ∧ a.toNat ≤ 0x7F)

/-- Whether a parameter list fits a MGMT_REQ payload (R195). -/
def fitsRequest (params : List Byte) : Bool := decide (params.length ≤ 2046)

/-- Whether a good frame on a link is of a kind that the link does not take, at a supervisor whose address is `own` (R46,
R113, R198). -/
def unhandledOn (own : Byte) (link : RxLink) (f : Frame) : Bool :=
  match link with
  | .upstream =>
    (f.dest != own || (f.kind != 0x01 && f.kind != 0x10))
      && !((f.dest == broadcastAddress || (stationOfAddress f.dest).isSome) && f.kind == 0x04)
  | .station n => f.src == stationAddress n && !(decide (0x03 ≤ f.kind.toNat ∧ f.kind.toNat ≤ 0x07))
  | .sensorLine => f.kind != 0x22

/-- Whether a command can arrive at a supervisor whose address is `own`. -/
def Instr.wf (own : Byte) (i : Instr) : Bool :=
  match i with
  | .powerOnReset strap _ _ => isNodeAddress strap
  | .stormInputChange _ => true
  | .pointingBatch es => decide (es.length ≤ 157)
  | .cabinetDataFromUpstream f =>
    (f.dest == broadcastAddress || (stationOfAddress f.dest).isSome) && decide (f.payload.length ≤ 1024)
  | .telemetry _ _ | .lock _ _ _ | .unlock _ _ _ => true
  | .lockReport _ es => decide (es.length ≤ 255)
  | .cabinetDataFromStation n f => f.src == stationAddress n && decide (f.payload.length ≤ 1024)
  | .reading _ _ => true
  | .stationFrameEnd _ | .upstreamFrameEnd => true
  | .livenessDeadlineExpiry _ | .freshnessExpiry _ | .clearingExpiry _ | .warnExpiry _ | .stowRefreshExpiry => true
  | .stowTimeoutExpiry _ | .holdDownExpiry | .blindTimerExpiry | .transactionDeadlineExpiry | .passGapExpiry => true
  | .substituteLifeExpiry _ | .precipHoldExpiry | .minOnExpiry _ _ | .minOffExpiry _ _ => true
  | .mismatchDeadlineExpiry _ _ | .saveCompletion => true
  | .statusRead _ ps | .stationRead _ ps | .identify _ ps | .tableRead _ ps | .tableWrite _ ps => fitsRequest ps
  | .envelopeApply _ ps | .envelopeClearAll _ ps | .lockdownSet _ ps | .settingsSave _ ps => fitsRequest ps
  | .stowRequest _ ps | .stowRelease _ ps | .remoteLock _ ps | .remoteUnlock _ ps => fitsRequest ps
  | .stationResume _ ps | .scanStart _ ps | .scanStop _ ps | .slotSubstitute _ ps | .slotRestore _ ps => fitsRequest ps
  | .faultRead _ ps | .faultClear _ ps | .alertAck _ ps | .clipLogClear _ ps => fitsRequest ps
  | .zoneFaultClear _ ps | .meltModeSet _ ps => fitsRequest ps
  | .warmReset _ ps strap => fitsRequest ps && isNodeAddress strap
  | .receivedFrameFailingChecks link bytes byteError => byteError || !goodBytes link bytes
  | .goodFrameOfUnhandledKind link f =>
    decide (f.payload.length ≤ 2048) && lengthAgrees f.kind f.payload && unhandledOn own link f
  | .unknownRequestCode _ code ps => !(decide (0x01 ≤ code.toNat ∧ code.toNat ≤ 0x19)) && fitsRequest ps
  | .millisecondCountAdvance => true

end Sys2Proof
end

