-- ==== Sys2Proof/Certificates/Slice0/Obligations.lean ====
section
/-! DEFINITION. The statements for the provers. -/

open Sys2Proof Sys2Proof.Machine

/-! ### The machine as a whole -/

/-- One step takes the command at the front of the queue and runs it with the queue's rest; on an empty queue the block
idles (the queue is the model's, log entries 3 and 24). -/
def Obligations.StepTakesTheFront : Prop :=
  (∀ (c : Instr) (rest : List Instr) (s : State), s.pending = c :: rest → step s = exec c { s with pending := rest })
    ∧ ∀ s : State, s.pending = [] → step s = .next s

/-- Every command ends in a next state, from every state, and leaves the queue of waiting commands alone: the manual calls
no command illegal (R182: a request is answered or discarded; R197: a bad frame is dropped). -/
def Obligations.EveryCommandCompletes : Prop :=
  ∀ (c : Instr) (s : State), completes (exec c s) fun t => t.pending = s.pending

/-- The state after reset is what a power-on reset makes of it, and it keeps every law of `Safety`. It rests on the model's
choices of what the part holds before its first reset (log entry 4). -/
def Obligations.ResetStateIsStableAndLawful : Prop :=
  exec (.powerOnReset Config.resetStrapAddress false false) State.reset = .next State.reset
    ∧ State.reset.holderLaw ∧ State.reset.clearingLaw ∧ State.reset.heatSafe ∧ State.reset.motionSafe
    ∧ State.reset.limitSafe ∧ State.reset.powerSafe ∧ State.reset.queuesLaw ∧ State.reset.upstreamLaw
    ∧ State.reset.causeLaw ∧ State.reset.stowLaw ∧ State.reset.slotsLaw ∧ State.reset.scannerLaw
    ∧ State.reset.faultLaw ∧ State.reset.restLaw ∧ State.reset.storeLaw

/-- The bytes of the frame of every well-formed command pass the reception checks and spell that command: no bit of a
header, payload or CRC is dropped (R195 to R198; that a frame comes as a command, named by `receive`, is log entry 22). -/
def Obligations.FrameRoundTrip : Prop :=
  ∀ (own strap : Byte) (i : Instr) (link : RxLink) (f : Frame),
    isNodeAddress own = true → i.wf own = true → frameOfCommand own i = some (link, f) →
    (∀ tag params x, i = .warmReset tag params x → x = strap) →
    receive own strap link (frameBytes f) false = i

/-- The Timebase advances by one, modulo 2^32; a timer is due once the count has advanced by its interval from its start,
across any wrap (R1; how the elapsed count is taken is log entry 2); and an expiry whose timer does not run, or is not due,
changes nothing (log entry 1). -/
def Obligations.ExpiriesWaitForTheirTimers : Prop :=
  (∀ s : State, exec .millisecondCountAdvance s = .next { s with now := s.now + 1 })
  ∧ (BitVec.ofNat 32 0xFFFFFFFF + 1 = (0 : Time))
  ∧ (∀ (t : Timer) (elapsed : Time), t.due (t.start + elapsed) = true ↔ t.interval ≤ elapsed.toNat)
  ∧ ∀ (n : StationId) (z : ZoneNum) (i : SlotId) (s : State),
    ((∀ d, (s.station n).link = .up d → d.due s.now = false) → exec (.livenessDeadlineExpiry n) s = .next s)
    ∧ (timerDue (s.station n).freshness s.now = false → exec (.freshnessExpiry n) s = .next s)
    ∧ (timerDue (s.station n).clearing s.now = false → exec (.clearingExpiry n) s = .next s)
    ∧ (timerDue (s.station n).warnTimer s.now = false → exec (.warnExpiry n) s = .next s)
    ∧ (timerDue s.wind.refresh s.now = false → exec .stowRefreshExpiry s = .next s)
    ∧ (timerDue (s.station n).stowTimeout s.now = false → exec (.stowTimeoutExpiry n) s = .next s)
    ∧ (timerDue s.wind.holdDown s.now = false → exec .holdDownExpiry s = .next s)
    ∧ (timerDue s.wind.blindTimer s.now = false → exec .blindTimerExpiry s = .next s)
    ∧ ((∀ t, s.scanner.transaction = some t → t.deadline.due s.now = false) →
        exec .transactionDeadlineExpiry s = .next s)
    ∧ (timerDue s.scanner.gapTimer s.now = false → exec .passGapExpiry s = .next s)
    ∧ ((∀ p, (s.slot i).substitute = some p → p.2.due s.now = false) → exec (.substituteLifeExpiry i) s = .next s)
    ∧ (timerDue s.melt.hold s.now = false → exec .precipHoldExpiry s = .next s)
    ∧ ((s.zone n z).state ≠ .on ∨ (s.zone n z).minOnReached = true
        ∨ (∀ start ∈ (s.zone n z).onStart, (s.now - start).toNat < (s.zoneRecord n z).minOn) →
        exec (.minOnExpiry n z) s = .next s)
    ∧ ((∀ start ∈ (s.zone n z).offStart, (s.now - start).toNat < (s.zoneRecord n z).minOff) →
        exec (.minOffExpiry n z) s = .next s)
    ∧ (timerDue (s.zone n z).mismatch s.now = false ∨ (s.zone n z).state = .disabled ∨ (s.zone n z).state = .fault →
        exec (.mismatchDeadlineExpiry n z) s = .next s)
    ∧ (s.store.state ≠ .saving → exec .saveCompletion s = .next s)

/-! ### Laws that every step keeps -/

/-- Every holder list keeps at most six records, distinct badges and non-empty scopes (R85); a DOWN link has no lock report
seen, and clearing is present only where the link is UP, the report seen and no holder claims DRIVE (R8, R97, R98). -/
def Obligations.LockoutLawsKept : Prop :=
  ∀ s t : State, step s = .next t → (s.holderLaw → t.holderLaw) ∧ (s.clearingLaw → t.clearingLaw)

/-- No heater zone is ON, or could be admitted, while its station's heat block holds (R101, R163). -/
def Obligations.HeatBlockLawKept : Prop :=
  ∀ s t : State, s.heatSafe → step s = .next t → t.heatSafe

/-- No moving SETPOINT waits for a station whose authority is non-permitting (R20, R21). -/
def Obligations.MotionLawKept : Prop :=
  ∀ s t : State, s.motionSafe → step s = .next t → t.motionSafe

/-- Every queued SETPOINT target lies within the active soft limits of its station, whatever envelope is applied meanwhile
(R16, R26, R51, R74). -/
def Obligations.SoftLimitLawKept : Prop :=
  ∀ s t : State, s.limitSafe → step s = .next t → t.limitSafe

/-- The heater load and the reserve together never exceed the feed capacity (R161). -/
def Obligations.PowerLawKept : Prop :=
  ∀ s t : State, s.powerSafe → step s = .next t → t.powerSafe

/-- Every queue keeps its capacity and its supersession law, and a DOWN link its emptiness (R7, R33, R35, R39, R40, R42). -/
def Obligations.QueueLawsKept : Prop :=
  ∀ s t : State, step s = .next t →
    (s.queuesLaw → t.queuesLaw) ∧ (s.upstreamLaw → t.upstreamLaw)

/-- The stow cause set agrees with the wind level and the STORM input, and the refresh timer, the progress of every station
and its warn-expiry time agree with the cause set (R11, R135, R136, R138, R142). -/
def Obligations.StowLawsKept : Prop :=
  ∀ s t : State, step s = .next t → (s.causeLaw → t.causeLaw) ∧ (s.stowLaw → t.stowLaw)

/-- Every slot and the scanner keep their laws (R108, R109, R114, R115, R119, R120, R125). -/
def Obligations.SensingLawsKept : Prop :=
  ∀ s t : State, step s = .next t → (s.slotsLaw → t.slotsLaw) ∧ (s.scannerLaw → t.scannerLaw)

/-- The Fault Table holds at most one valid entry for any pair of source and reason; and between events no cause waits
unlatched and no request is in hand (R172, R179, R182). -/
def Obligations.ReportingLawsKept : Prop :=
  ∀ s t : State, step s = .next t → (s.faultLaw → t.faultLaw) ∧ (s.restLaw → t.restLaw)

/-- Lockdown and SAVING do not hold together, the working tables equal the snapshot throughout a save, and under lockdown
only a power-on reset changes the flag, the active table or the wind table (R71, R79, R191). -/
def Obligations.SettingsLawsKept : Prop :=
  (∀ s t : State, step s = .next t → s.storeLaw → t.storeLaw)
    ∧ ∀ (c : Instr) (s t : State), s.lockdown = true → (∀ strap storm fails, c ≠ .powerOnReset strap storm fails) →
      exec c s = .next t →
      t.lockdown = true ∧ t.settings.active = s.settings.active ∧ t.settings.wind = s.settings.wind

/-- The latched cause does not change but by an ALERT_ACK that names it or by a reset (R179, R180). -/
def Obligations.LatchedCauseStands : Prop :=
  ∀ (c : Instr) (s t : State) (k : Cause), s.attention.latched = some k → exec c s = .next t →
    (∀ strap storm fails, c ≠ .powerOnReset strap storm fails) →
    (∀ tag strap, c ≠ .warmReset tag [] strap) →
    (∀ tag, c ≠ .alertAck tag (encU8 (causeCode k))) →
    t.attention.latched = some k

/-- After a batch allocation and after a stow allocation: the granted motion watts over all stations are at most
C − R − H − Hold where that is positive, and zero otherwise, with H as recorded after shedding; the recorded headroom is
what they leave; the zones admitted take no more than the headroom; and no granted speed exceeds its request (R58, R61,
R161). -/
def Obligations.GrantsStayWithinTheFeed : Prop :=
  ∀ (es : List BatchEntry) (s t : State),
    (wellFormedBatch es ∧ s.stowActive = false ∧ exec (.pointingBatch es) s = .next t)
      ∨ (timerDue s.wind.refresh s.now = true ∧ exec .stowRefreshExpiry s = .next t) →
    let free : Int := (t.settings.budget.capacity : Int) - t.settings.budget.reserve - t.alloc.heatW - t.alloc.holdW
    t.grantedW ≤ free.toNat
      ∧ t.alloc.headroomW = free - t.grantedW
      ∧ (t.heatLoad : Int) ≤ t.alloc.heatW + max 0 t.alloc.headroomW
      ∧ ∀ n, (t.station n).grant.azSpeed ≤ (t.station n).demand.azSpeed
          ∧ (t.station n).grant.elSpeed ≤ (t.station n).demand.elSpeed

/-- An allocation, on a batch or on a stow refresh: the terms of its record; the zones shed, only where the demand exceeds
the room, from the candidates of its kind and in their order, until the shortfall is met or no candidate is left; the scale
from the room then left; every grant; and the zones in WAIT admitted against the headroom in theirs, each whole and one that
does not fit passed over. A BUDGET write sheds in the same order any zone that draws power, until H + R is within C. A HEAT
marker is offered where the ON zones of a station changed (R53 to R56, R58, R61, R161, R168, R169; the count byte of the
write is log entry 11). -/
def Obligations.SheddingAndAdmission : Prop :=
  (∀ (es : List BatchEntry) (s t : State),
    (wellFormedBatch es ∧ s.stowActive = false ∧ exec (.pointingBatch es) s = .next t)
      ∨ (timerDue s.wind.refresh s.now = true ∧ exec .stowRefreshExpiry s = .next t) →
    let member := fun n : StationId =>
      if t.alloc.kind = .stow then t.authority n = .stowMoving
      else (t.station n).demand.cls = .track ∧ (t.station n).stale = false
    let demand := ((stationIds.filter fun n => decide (member n)).map fun n => (t.station n).demand.watts).sum
    let hold := ((stationIds.filter fun n => (t.authority n).energised).map fun n => (t.envelope n).holdW).sum
    let room := fun heat : Nat =>
      ((t.settings.budget.capacity : Int) - t.settings.budget.reserve - heat - hold).toNat
    let candidate := fun p : StationId × ZoneNum =>
      (s.zone p.1 p.2).state = .on ∧ 1 ≤ (s.zoneRecord p.1 p.2).powerW
        ∧ (t.alloc.kind ≠ .stow →
            s.settings.budget.meltPriority ≠ 1 ∧ 1 ≤ (s.zoneRecord p.1 p.2).priority
              ∧ ((s.zone p.1 p.2).minOnReached = true
                ∨ ∃ start ∈ (s.zone p.1 p.2).onStart, (s.zoneRecord p.1 p.2).minOn ≤ (s.now - start).toNat))
    let shed := turned .on .shed s t
    let admitted := turned .wait .on s t
    t.alloc.members = (stationIds.filter fun n => decide (member n)).length
    ∧ t.alloc.demandW = demand ∧ t.alloc.holdW = hold ∧ t.alloc.shedCount = shed.length
    ∧ t.alloc.shedW = powerOf s shed ∧ t.alloc.heatW + t.alloc.shedW = s.heatLoad ∧ t.alloc.roomW = room t.alloc.heatW
    ∧ (t.alloc.scale = if demand ≤ t.alloc.roomW then 1024 else t.alloc.roomW * 1024 / demand)
    ∧ (demand ≤ room s.heatLoad → shed = [])
    ∧ (room s.heatLoad < demand → shedInOrder candidate ((demand : Int) - room s.heatLoad) s t)
    ∧ ∀ n,
      (t.station n).grant = (
        if member n then {
          azSpeed := (t.station n).demand.azSpeed * t.alloc.scale / 1024
          elSpeed := (t.station n).demand.elSpeed * t.alloc.scale / 1024
          watts := (t.station n).demand.watts * t.alloc.scale / 1024 }
        else noGrant)
      ∧ ((∃ z, ¬((s.zone n z).state = .on ↔ (t.zone n z).state = .on)) → s.offered t n .heat)
      ∧ ∀ z,
        let becomes := fun x : Zone => t.zone n z = { x with mismatch := (t.zone n z).mismatch }
        let used := powerOf s (admitted.filter fun q => admitBefore s q (n, z))
        ((s.zone n z).state = .wait → (s.zoneRecord n z).priority ≤ 3 →
          if ((s.zoneRecord n z).powerW : Int) ≤ t.alloc.headroomW - used then
            becomes { s.zone n z with
              state := .on, onStart := some s.now, minOnReached := false, offStart := none }
          else becomes (s.zone n z))
        ∧ ((s.zone n z).state ≠ .wait → (n, z) ∉ shed → becomes (s.zone n z)))
  ∧ ∀ (tag count : Byte) (bs : List Byte) (s : State), s.upstreamShort = false → s.store.state ≠ .saving →
      1 ≤ count.toNat → count.toNat ≤ 32 → bs.length = count.toNat * 9 →
      let r := budgetOfBytes (bs.drop (9 * (count.toNat - 1)))
      budgetFailing r = none →
      completes (exec (.tableWrite tag (2 :: 0 :: count :: bs)) s) fun t =>
        shedInOrder (fun p => (s.zone p.1 p.2).state = .on ∧ 1 ≤ (s.zoneRecord p.1 p.2).powerW)
          ((s.heatLoad : Int) + r.reserve - r.capacity) s t
        ∧ ∀ n, ((∃ z, ¬((s.zone n z).state = .on ↔ (t.zone n z).state = .on)) → s.offered t n .heat)
          ∧ ∀ z, (n, z) ∉ turned .on .shed s t → t.zone n z = { s.zone n z with mismatch := (t.zone n z).mismatch }

/-! ### Shared operations -/

/-- Recording a report: collapse into the entry of its source and reason, raising nothing; else the lowest free entry, with
FAULT_NEW joining the pending set; else the report is dropped and the overflow flag set and unseen, with FAULT_NEW pending
where it was clear (R172, R173). -/
def Obligations.FaultRecording : Prop :=
  ∀ (src : FaultSource) (r : FaultReason) (detail : BitVec 32) (s : State),
    let t := recordFault src r detail s
    let fresh : FaultEntry :=
      { seen := false, source := src, reason := r, firstTime := s.now, lastTime := s.now, repeats := 1, detail := detail }
    let absent := ∀ i e, s.faults.entries.get i = some e → ¬(e.source = src ∧ e.reason = r)
    let raised : Attention := { s.attention with raised := { s.attention.raised with faultNew := true } }
    (∀ i e, s.faultLaw → s.faults.entries.get i = some e → e.source = src → e.reason = r →
      t = { s with faults := { s.faults with
        entries := s.faults.entries.set i (some { e with
          repeats := min 255 (e.repeats + 1), lastTime := s.now, detail := detail, seen := false }) } })
    ∧ (∀ i, absent → s.faults.entries.get i = none → (∀ j < i, s.faults.entries.get j ≠ none) →
        t.faults = { s.faults with entries := s.faults.entries.set i (some fresh) } ∧ t.attention = raised)
    ∧ (absent → (∀ i, s.faults.entries.get i ≠ none) →
        t.faults = { s.faults with overflow := true, overflowSeen := false }
          ∧ (s.faults.overflow = false → t.attention = raised)
          ∧ (s.faults.overflow = true → t.attention = s.attention))
    ∧ (s.faultLaw → t.faultLaw)

/-- Admission to a station queue: a superseding entry takes the place of the queued one of its kind; an entry finds the tail
while fewer than 8 stand; in a full queue a superseding entry evicts the oldest CABINET_DATA, else the oldest LOCK_REPLY
with QUEUE_FULL, a LOCK_REPLY is dropped with QUEUE_FULL and a CABINET_DATA without (R35, R36, R37). -/
def Obligations.StationQueueAdmission : Prop :=
  ∀ (n : StationId) (e : StationEntry) (s : State),
    let q := (s.station n).queue
    let t := admitEntry n e s
    (∀ pre x post, e.kind.superseding = true → q = pre ++ x :: post → x.kind = e.kind →
        (∀ y ∈ pre ++ post, y.kind ≠ e.kind) → t = setQueue n (pre ++ e :: post) s)
    ∧ ((∀ x ∈ q, e.kind.superseding = true → x.kind ≠ e.kind) → q.length < 8 → t = setQueue n (q ++ [e]) s)
    ∧ (8 ≤ q.length →
        (∀ f, e = .cabinetData f → t = s)
        ∧ (∀ r, e = .lockReply r → t = recordFault (.station n) .queueFull (r.badge.setWidth 32) s)
        ∧ (e.kind.superseding = true → (∀ x ∈ q, x.kind ≠ e.kind) →
            (∀ pre f post, q = pre ++ .cabinetData f :: post → (∀ y ∈ pre, y.kind ≠ .cabinetData) →
              t = setQueue n (pre ++ post ++ [e]) s)
            ∧ (∀ pre r post, q = pre ++ .lockReply r :: post → (∀ y ∈ pre, y.kind ≠ .lockReply) →
              (∀ y ∈ q, y.kind ≠ .cabinetData) →
              t = recordFault (.station n) .queueFull (r.badge.setWidth 32) (setQueue n (pre ++ post ++ [e]) s))))

/-! ### Resets and inputs -/

/-- POWER_ON_RESET: a VALID copy that passes its check is loaded; otherwise the defaults, with STORE_INVALID in entry 0,
detail 1 for an interrupted save and 0 for any other cause, and FAULT_NEW latched, or pending behind the STOW_CHANGE of an
asserted STORM input. The shadow equals the active table, lockdown is clear, the count is 0, every block takes its power-on
values, and a scan autostarts where the header says so (R193, R67, R78, R116, R171, R181, R190; the strap level and the
STORM level come with the command, log entry 5). WARM_RESET with room for its event: the tables, lockdown, the Fault Table,
the store's copy and the count are kept, a save in progress leaves the store INVALID, the strap address is read again, the
reset is counted, no response is sent, every block takes its reset values, and a scan autostarts as above (R194, R192; the
STORM level sampled is the level the model holds, log entry 5). -/
def Obligations.Resets : Prop :=
  ∀ (strap tag : Byte) (storm fails : Bool) (s : State),
    (completes (exec (.powerOnReset strap storm fails) s) fun t =>
      t.now = 0 ∧ t.nodeAddress = strap ∧ t.lastReset = .por ∧ t.warmCount = 0 ∧ t.lockdown = false
        ∧ t.shadow = t.settings.active ∧ t.store.copy = s.store.copy
        ∧ (∀ n, (t.station n).installed = isYes (t.envelope n).installed)
        ∧ t.afterReset storm
        ∧ (∀ c, s.store.copy = some c → s.store.state = .valid → fails = false →
            t.settings = c ∧ t.store.state = .valid ∧ t.faults = noFaults
              ∧ t.attention = { raised := noAttention, latched := if storm then some .stowChange else none })
        ∧ (s.store.state ≠ .valid ∨ fails = true →
            t.settings = defaultSettings ∧ t.store.state = .invalid
              ∧ t.attention = {
                  raised := { noAttention with faultNew := storm }
                  latched := if storm then some .stowChange else some .faultNew }
              ∧ t.faults = { noFaults with entries := noFaults.entries.set 0 (some {
                  seen := false, source := .cluster, reason := .storeInvalid, firstTime := 0, lastTime := 0, repeats := 1
                  detail := if s.store.interrupted = true ∨ s.store.state = .saving then 1 else 0 }) }))
    ∧ (s.upstreamShort = false →
        completes (exec (.warmReset tag [] strap) s) fun t =>
          t.settings = s.settings ∧ t.shadow = s.shadow ∧ t.lockdown = s.lockdown ∧ t.faults = s.faults ∧ t.now = s.now
            ∧ t.store.copy = s.store.copy
            ∧ t.store.state = (if s.store.state = .saving then .invalid else s.store.state)
            ∧ t.nodeAddress = strap ∧ t.lastReset = .warm ∧ t.warmCount = min 65535 (s.warmCount + 1)
            ∧ (∀ n, (t.station n).installed = (s.station n).installed)
            ∧ t.afterReset s.stormInput
            ∧ t.attention = { raised := noAttention, latched := if s.stormInput then some .stowChange else none })

/-- STORM_INPUT_CHANGE: STORM_LINE stands in the set while the input is asserted, and a change that leaves the set empty or
non-empty as it was changes no station (R135, R136). An activation of cluster stow by it: every queued SETPOINT is a STOP,
demand, freshness and grants return, an uninstalled station keeps NONE, a blocked one is PENDING, any other enters WARNING: a
STOP setpoint and then HORN on are offered and the warn-expiry time is set, or, where the stow warn time is 0, it passes to
MOVING after the STOP; the refresh timer starts and STOW_CHANGE is raised (R138, R139, R141, R63). The same activation, and
the release, follow every other command but a reset that makes the set non-empty or empties it, and a command that does
neither raises no STOW_CHANGE; an ALERT_ACK may latch one that was pending (R135, R138, R148, R149; that a stow-start time
stands until the next entry to MOVING is log entry 18). -/
def Obligations.StormInputAndActivation : Prop :=
  (∀ (asserted : Bool) (s : State),
    completes (exec (.stormInputChange asserted) s) fun t =>
      { s with
          stormInput := asserted
          wind := { s.wind with
            causes := { s.wind.causes with stormLine := asserted }, refresh := t.wind.refresh } }.sameButStations t
        ∧ (s.stowActive = (s.wind.causes.wind || asserted || s.wind.causes.blind || s.wind.causes.manual) →
            t.stations = s.stations ∧ t.wind.refresh = s.wind.refresh ∧ t.faults = s.faults))
  ∧ (∀ s : State, s.stowActive = false →
      completes (exec (.stormInputChange true) s) fun t =>
        t.wind.refresh = some ⟨s.now, s.settings.timing.stowRefresh⟩ ∧ s.raises t .stowChange
          ∧ ∀ n, s.activates t n ∧ (s.station n).sameButMotion (t.station n))
  ∧ ∀ (c : Instr) (s t : State), (∀ strap storm fails, c ≠ .powerOnReset strap storm fails) →
      (∀ tag strap, c ≠ .warmReset tag [] strap) → exec c s = .next t →
      s.stowFollows t
        ∧ ((∀ tag params, c ≠ .alertAck tag params) → s.stowActive = t.stowActive → s.silent t .stowChange)

/-- A release of cluster stow by the STORM input: a STOP setpoint is offered to a MOVING station, HORN off to one in
STOW-WARNING and PIN out to an installed one that has a pin; progress, timers, demand and grants return everywhere, the
refresh timer stops and STOW_CHANGE is raised (R148, R63; that the stow-start time stands is log entry 18). -/
def Obligations.StowRelease : Prop :=
  ∀ s : State, s.wind.causes = { noCauses with stormLine := true } →
    completes (exec (.stormInputChange false) s) fun t =>
      t.wind.refresh = none ∧ t.stowActive = false ∧ s.raises t .stowChange
        ∧ ∀ n, s.releases t n ∧ (s.station n).sameButMotion (t.station n)

/-! ### Upstream frames -/

/-- Batches that are not acted on: a malformed batch is dropped whole, with the entry count and the station number of the
first offending entry, 0xFF where there is none; and a well-formed batch under active stow gives each installed station it
names STOW_OVERRIDE and changes nothing else. The outcome of a well-formed batch does not depend on the order of its entries
(R23, R24). -/
def Obligations.BatchesNotTaken : Prop :=
  (∀ s : State, exec (.pointingBatch []) s = .next (examine (recordFault .upstream .badFrame 0xFF00 s)))
    ∧ (∀ (before after : List BatchEntry) (b : BatchEntry) (s : State),
        (before ++ b :: after).length ≤ 157 → (∀ a ∈ before, a.station.toNat ≤ 7) → (before.map (·.station)).Nodup →
        7 < b.station.toNat ∨ b.station ∈ before.map (·.station) →
        exec (.pointingBatch (before ++ b :: after)) s =
          .next (examine (recordFault .upstream .badFrame
            (BitVec.ofNat 32 ((before ++ b :: after).length + 256 * b.station.toNat)) s)))
    ∧ (∀ (es other : List BatchEntry) (s : State), wellFormedBatch es → es.Perm other →
        exec (.pointingBatch es) s = exec (.pointingBatch other) s)
    ∧ ∀ (es : List BatchEntry) (s : State), wellFormedBatch es → s.stowActive = true → s.restLaw →
        completes (exec (.pointingBatch es) s) fun t =>
          t = { s with stations := t.stations }
            ∧ ∀ n, t.station n =
              if (∃ b ∈ es, b.station.toNat = n.val) ∧ (s.station n).installed = true then
                { s.station n with
                  clipStatus := { noClip with stowOverride := true }
                  clipLog := (s.station n).clipLog.union { noClip with stowOverride := true } }
              else s.station n

/-- A batch taken: each entry for a COASTING, TRACKING or IDLE station leaves demand TRACK with clamped targets, capped
speeds and the motion watts of R50, a new freshness deadline, the causes TARGET_CLAMP, RATE_CAP and WIND_CAP of what was
changed with the allocation causes BUDGET and HEAT_HELD, and the SETPOINT of its targets and granted speeds is offered. A
TRACK station without an entry is refreshed against the figures now in force, keeps its capping causes, and is offered a
SETPOINT where its granted speeds changed. An entry for a HELD, LOCKED or CLEARING station leaves LOCKOUT, one for a STOPPED
station STOPPED and one for an ABSENT station no cause, with demand and freshness as they stood (R25 to R30, R50, R51, R59,
R60; the percentage 100 at level STOW with an empty cause set, which no run reaches, is log entry 20). -/
def Obligations.BatchEntriesTaken : Prop :=
  ∀ (es : List BatchEntry) (s : State), wellFormedBatch es → s.stowActive = false → s.limitSafe →
    completes (exec (.pointingBatch es) s) fun t =>
      t.alloc.kind = .batch ∧ t.alloc.time = s.now
        ∧ { s with alloc := t.alloc }.sameButStations t
        ∧ (∀ n, { s.station n with
            freshness := (t.station n).freshness, stale := (t.station n).stale, demand := (t.station n).demand
            grant := (t.station n).grant, clipStatus := (t.station n).clipStatus, clipLog := (t.station n).clipLog
            zones := (t.station n).zones }.sameButPort (t.station n))
        ∧ ∀ n : StationId,
          let e := s.envelope n
          let pct := match s.wind.level with
            | .breezy => (s.settings.wind.get 1).pct
            | .gusty => (s.settings.wind.get 2).pct
            | .calm | .stow => 100
          let cap := fun rateMax : Nat => min rateMax (rateMax * pct / 100)
          let capped := fun rateMax req : Nat => decide (cap rateMax < req)
          let windBelow := fun rateMax : Nat => decide (rateMax * pct / 100 < rateMax)
          let fitted := fun (az el : Int) (azReq elReq : Nat) => ({
            cls := .track
            azSpeed := min azReq (cap e.azRateMax)
            elSpeed := min elReq (cap e.elRateMax)
            azTarget := max e.azMin (min e.azMax az)
            elTarget := max e.elMin (min e.elMax el)
            watts := (min azReq (cap e.azRateMax) * e.kAz * s.windFactor + 4095) / 4096
              + (min elReq (cap e.elRateMax) * e.kEl * s.windFactor + 4095) / 4096 } : Demand)
          let held := ∃ m z, (s.zone m z).state = .on ∧ 1 ≤ (s.zoneRecord m z).powerW
            ∧ (s.settings.budget.meltPriority = 1 ∨ (s.zoneRecord m z).priority = 0
              ∨ ((s.zone m z).minOnReached = false
                ∧ ∀ start ∈ (s.zone m z).onStart, (s.now - start).toNat < (s.zoneRecord m z).minOn))
          let limited := (t.station n).demand.watts ≠ 0 ∧ t.alloc.scale < 1024
          let causes := fun (before : ClipSet) (az el : Int) (azReq elReq : Nat) => ({
            targetClamp := before.targetClamp || decide (az < e.azMin ∨ e.azMax < az ∨ el < e.elMin ∨ e.elMax < el)
            rateCap := before.rateCap || (capped e.azRateMax azReq && !windBelow e.azRateMax)
              || (capped e.elRateMax elReq && !windBelow e.elRateMax)
            windCap := before.windCap || (capped e.azRateMax azReq && windBelow e.azRateMax)
              || (capped e.elRateMax elReq && windBelow e.elRateMax)
            budget := decide limited
            heatHeld := decide (limited ∧ held)
            stale := false
            lockout := false
            stowOverride := false
            stopped := false } : ClipSet)
          let sp : Setpoint := {
            azTarget := (t.station n).demand.azTarget
            azSpeed := (t.station n).grant.azSpeed
            elTarget := (t.station n).demand.elTarget
            elSpeed := (t.station n).grant.elSpeed }
          (∀ b ∈ es, b.station.toNat = n.val →
            (s.authority n = .coasting ∨ s.authority n = .tracking ∨ s.authority n = .idle →
              (t.station n).demand = fitted b.azTarget.toInt b.elTarget.toInt b.azSpeed.toNat b.elSpeed.toNat
                ∧ (t.station n).freshness = some ⟨s.now, s.settings.timing.setpointDeadline⟩
                ∧ (t.station n).stale = false
                ∧ (t.station n).clipStatus
                  = causes noClip b.azTarget.toInt b.elTarget.toInt b.azSpeed.toNat b.elSpeed.toNat
                ∧ (t.station n).clipLog = (s.station n).clipLog.union (t.station n).clipStatus
                ∧ s.offered t n (.setpoint sp)
                ∧ (s.idling n → (∀ z, (t.zone n z).state = (s.zone n z).state) →
                    (t.station n).tx = some (.setpoint sp)))
            ∧ ((s.station n).demand.cls ≠ .track →
                s.authority n = .held ∨ s.authority n = .locked ∨ s.authority n = .clearing →
                (t.station n).clipStatus = { noClip with lockout := true }
                  ∧ (t.station n).clipLog = (s.station n).clipLog.union { noClip with lockout := true }
                  ∧ (t.station n).demand = (s.station n).demand ∧ (t.station n).freshness = (s.station n).freshness)
            ∧ ((s.station n).demand.cls ≠ .track → s.authority n = .stopped →
                (t.station n).clipStatus = { noClip with stopped := true }
                  ∧ (t.station n).clipLog = (s.station n).clipLog.union { noClip with stopped := true }
                  ∧ (t.station n).demand = (s.station n).demand ∧ (t.station n).freshness = (s.station n).freshness)
            ∧ ((s.station n).demand.cls ≠ .track → s.authority n = .absent →
                (t.station n).clipStatus = (s.station n).clipStatus ∧ (t.station n).clipLog = (s.station n).clipLog
                  ∧ (t.station n).demand = (s.station n).demand ∧ (t.station n).freshness = (s.station n).freshness))
          ∧ ((∀ b ∈ es, b.station.toNat ≠ n.val) → s.authority n = .tracking →
              let d := (s.station n).demand
              (t.station n).demand = fitted d.azTarget d.elTarget d.azSpeed d.elSpeed
                ∧ (t.station n).freshness = (s.station n).freshness
                ∧ (t.station n).clipStatus = causes (s.station n).clipStatus d.azTarget d.elTarget d.azSpeed d.elSpeed
                ∧ (t.station n).clipLog = (s.station n).clipLog.union (t.station n).clipStatus
                ∧ ((t.station n).grant.azSpeed ≠ (s.station n).grant.azSpeed
                      ∨ (t.station n).grant.elSpeed ≠ (s.station n).grant.elSpeed → s.offered t n (.setpoint sp))
                ∧ ((t.station n).grant.azSpeed = (s.station n).grant.azSpeed →
                    (t.station n).grant.elSpeed = (s.station n).grant.elSpeed → s.queueing n →
                    queuedSetpoints (t.station n).queue = queuedSetpoints (s.station n).queue))
          ∧ ((∀ b ∈ es, b.station.toNat ≠ n.val) →
              (s.station n).demand.cls ≠ .track ∨ (s.station n).stale = true →
              (t.station n).demand = (s.station n).demand ∧ (t.station n).grant = noGrant
                ∧ (t.station n).clipStatus = (s.station n).clipStatus ∧ (t.station n).clipLog = (s.station n).clipLog
                ∧ (s.queueing n → queuedSetpoints (t.station n).queue = queuedSetpoints (s.station n).queue))

/-- Cabinet data is forwarded unchanged: toward the named cabinet, or toward all eight for broadcast, at once where the
transmitter is idle, at the tail of a queue that has room, discarded while the link is DOWN and dropped when the queue is
full; and upstream at once where the transmitter is idle, at the tail while at most 27 entries are occupied, else dropped. A
frame from a cabinet whose link is DOWN brings it UP: LINK_UP departs and a HEAT marker waits (R5, R7, R33, R37, R39, R41,
R44). -/
def Obligations.CabinetDataForwarded : Prop :=
  ∀ (f : CabinetFrame) (n : StationId) (s : State), s.restLaw →
    (f.dest = stationAddress n →
      (s.queueing n → (s.station n).queue.length < 8 →
        exec (.cabinetDataFromUpstream f) s =
          .next (setQueue n ((s.station n).queue ++ [.cabinetData f]) s))
      ∧ (s.queueing n → 8 ≤ (s.station n).queue.length → exec (.cabinetDataFromUpstream f) s = .next s)
      ∧ (s.idling n →
          exec (.cabinetDataFromUpstream f) s =
            .next (s.updStation n fun st => { st with tx := some (.cabinetData f) }))
      ∧ ((s.station n).link = .down → exec (.cabinetDataFromUpstream f) s = .next s))
    ∧ (f.dest = 0xFF →
        completes (exec (.cabinetDataFromUpstream f) s) fun t =>
          t = { s with stations := t.stations }
            ∧ ∀ m, ((s.station m).link = .down → t.station m = s.station m)
              ∧ (s.queueing m → (s.station m).queue.length < 8 →
                  t.station m = { s.station m with queue := (s.station m).queue ++ [.cabinetData f] })
              ∧ (s.queueing m → 8 ≤ (s.station m).queue.length → t.station m = s.station m)
              ∧ (s.idling m → t.station m = { s.station m with tx := some (.cabinetData f) }))
    ∧ ((s.station n).link.isUp = true →
        completes (exec (.cabinetDataFromStation n f) s) fun t =>
          s.sameOutside n t
            ∧ t.station n = { s.station n with link := .up ⟨s.now, s.settings.timing.linkTimeout⟩ }
            ∧ (s.upTx.isSome = true → t.upTx = s.upTx
                ∧ t.upQueue = if s.upQueue.length ≤ 27 then s.upQueue ++ [.cabinetData f] else s.upQueue)
            ∧ (s.upTx = none → s.upQueue = [] → t.upTx = some (.cabinetData f) ∧ t.upQueue = []))
    ∧ ((s.station n).link = .down → (s.station n).queue = [] → (s.station n).tx = none →
        completes (exec (.cabinetDataFromStation n f) s) fun t =>
          s.sameOutside n t
            ∧ t.station n = { s.station n with
              link := .up ⟨s.now, s.settings.timing.linkTimeout⟩, tx := some (.linkUp s.nodeAddress), queue := [.heat] }
            ∧ (s.upTx.isSome = true → t.upTx = s.upTx
                ∧ t.upQueue = if s.upQueue.length ≤ 27 then s.upQueue ++ [.cabinetData f] else s.upQueue)
            ∧ (s.upTx = none → s.upQueue = [] → t.upTx = some (.cabinetData f) ∧ t.upQueue = []))

/-- TELEMETRY: the record takes the frame's contents and the arrival time, the liveness deadline starts anew, the contactor
watch starts, keeps or cancels the mismatch deadline of each zone that is neither DISABLED nor in FAULT, and the frame takes
the place of the station's queued telemetry upstream, or the tail while at most 27 entries are occupied, or is dropped; no
other entry upstream and no other station's record changes. The first frame of a cabinet whose link is DOWN brings it UP: LINK_UP
departs and a HEAT marker waits (R4, R5, R15, R33, R40, R45, R165). -/
def Obligations.TelemetryTaken : Prop :=
  ∀ (n : StationId) (f : TelemetryFrame) (s : State),
    completes (exec (.telemetry n f) s) fun t =>
      s.sameOutside n t
        ∧ (t.station n).link = .up ⟨s.now, s.settings.timing.linkTimeout⟩
        ∧ (t.station n).lastTelemetry = some {
            az := f.az.toInt
            el := f.el.toInt
            energised := f.flags.getLsbD 0
            driveFault := f.flags.getLsbD 1
            pinEngaged := f.flags.getLsbD 2
            contactors := f.mask.setWidth 4
            time := s.now }
        ∧ s.linkReturns t n []
        ∧ ((s.station n).link.isUp = true ∨ s.away n → (s.station n).clearing = none ∨ driveCount (s.station n) = 0 →
            { s.station n with
              link := (t.station n).link, lastTelemetry := (t.station n).lastTelemetry
              faultLatch := (t.station n).faultLatch }.sameButMotion (t.station n))
        ∧ ((s.station n).link.isUp = true ∨ s.away n → (s.station n).tx.isSome = true ∨ (s.station n).queue = [] →
            ∀ z : ZoneNum,
              ((s.zone n z).state = .disabled ∨ (s.zone n z).state = .fault → t.zone n z = s.zone n z)
              ∧ ((s.zone n z).state ≠ .disabled → (s.zone n z).state ≠ .fault →
                  t.zone n z = { s.zone n z with
                    mismatch :=
                      if f.mask.getLsbD z.val = (s.station n).commandedMask.getLsbD z.val then none
                      else match (s.zone n z).mismatch with
                        | some deadline => some deadline
                        | none => some ⟨s.now, s.settings.timing.contactorMismatch⟩ }))
        ∧ (∀ pre f' post, s.upQueue = pre ++ .telemetry n f' :: post → (∀ e ∈ pre ++ post, e.isTelemetryOf n = false) →
            s.sendsUp t (pre ++ .telemetry n f :: post))
        ∧ ((∀ e ∈ s.upQueue, e.isTelemetryOf n = false) →
            s.sendsUp t (if s.upQueue.length ≤ 27 then s.upQueue ++ [.telemetry n f] else s.upQueue))

/-- The overrun and drive-fault checks on a telemetry: beyond a soft limit widened by the margin latches OVERRUN, recorded
with the axis (AZ first) and the position, else a set drive_fault flag latches DRIVE_FAULT, recorded with detail 0, else no
latch is set; a latched station that was permitting is STOPPED, without demand, grant or moving setpoint, and in STOW-WARNING
its warn-expiry time is cancelled and HORN off offered; a latch already set stands, an uninstalled station is not checked, and
where no authority turns and no stow test is made the motion fields stand (R20, R80, R81, R82, R140, R147). -/
def Obligations.TelemetryLatches : Prop :=
  ∀ (n : StationId) (f : TelemetryFrame) (s : State),
    completes (exec (.telemetry n f) s) fun t =>
      let e := s.envelope n
      let beyondAz := f.az.toInt < e.azMin - e.overrunMargin ∨ e.azMax + e.overrunMargin < f.az.toInt
      let beyondEl := f.el.toInt < e.elMin - e.overrunMargin ∨ e.elMax + e.overrunMargin < f.el.toInt
      ((s.station n).installed = true → (s.station n).faultLatch = .none → beyondAz ∨ beyondEl →
        (t.station n).faultLatch = .overrun
          ∧ s.recorded t (.station n) .overrun
            (if beyondAz then f.az &&& 0x00FFFFFF else 0x01000000 ||| (f.el &&& 0x00FFFFFF)))
      ∧ ((s.station n).installed = true → (s.station n).faultLatch = .none → ¬(beyondAz ∨ beyondEl) →
          ((t.station n).faultLatch = if f.flags.getLsbD 1 then .driveFault else .none)
            ∧ (f.flags.getLsbD 1 = true → s.recorded t (.station n) .driveFault 0))
      ∧ ((s.station n).installed = false ∨ (s.station n).faultLatch ≠ .none →
          (t.station n).faultLatch = (s.station n).faultLatch)
      ∧ ((s.authority n).permitting = true → (t.station n).faultLatch ≠ .none →
          t.authority n = .stopped ∧ (t.station n).demand = noDemand ∧ (t.station n).grant = noGrant
            ∧ ∀ sp ∈ queuedSetpoints (t.station n).queue, sp.moving = false)
      ∧ (s.authority n = .stowWarning → (t.station n).faultLatch ≠ .none →
          (t.station n).progress = .warning ∧ (t.station n).warnTimer = none
            ∧ s.offered t n (.horn false) ∧ (s.idling n → (t.station n).tx = some (.horn false)))
      ∧ ((s.station n).link.isUp = true → (s.station n).clearing = none ∨ driveCount (s.station n) = 0 →
          t.authority n = .stopped ∨ (s.authority n ≠ .stowMoving ∧ s.authority n ≠ .stowStowed) →
          State.motionFollows (s.updStation n fun st => { st with lastTelemetry := (t.station n).lastTelemetry }) t n)

/-- The stow test on a telemetry that latches nothing: a STOW-MOVING station within stow_tol of its stow targets, with its pin
engaged where one is fitted, is STOWED and its timeout is cancelled, and otherwise stays MOVING, with PIN in offered where
only the pin is missing; a STOW-STOWED station that fails the test returns to MOVING with a new stow timeout; the rest of the
record stands, but for the telemetry and the contactor watch (that the stow-start time of a STOWED station stands is log entry
18; R143, R144, R145; the azimuth KEEP takes is log entry 15). -/
def Obligations.StowTest : Prop :=
  ∀ (n : StationId) (f : TelemetryFrame) (s : State),
    completes (exec (.telemetry n f) s) fun t =>
      let e := s.envelope n
      let goal := stowGoal e { s.station n with lastTelemetry := (t.station n).lastTelemetry }
      let inPlace := (f.az.toInt - goal.1).natAbs ≤ e.stowTol ∧ (f.el.toInt - goal.2).natAbs ≤ e.stowTol
      let placed := inPlace ∧ (isYes e.pinFitted = true → f.flags.getLsbD 2 = true)
      (t.station n).faultLatch = .none →
        (s.authority n = .stowMoving ∨ s.authority n = .stowStowed →
          { s.station n with
            link := (t.station n).link, lastTelemetry := (t.station n).lastTelemetry, progress := (t.station n).progress
            warnTimer := (t.station n).warnTimer, stowStart := (t.station n).stowStart
            stowTimeout := (t.station n).stowTimeout, zones := (t.station n).zones }.sameButPort (t.station n)
          ∧ (s.authority n = .stowMoving ∨ placed → (t.station n).warnTimer = (s.station n).warnTimer
              ∧ (t.station n).stowStart = (s.station n).stowStart)
          ∧ (s.authority n = .stowStowed → placed → (t.station n).stowTimeout = (s.station n).stowTimeout))
        ∧ (s.authority n = .stowMoving → placed →
          (t.station n).progress = .stowed ∧ (t.station n).stowTimeout = none)
        ∧ (s.authority n = .stowMoving → ¬placed →
            (t.station n).progress = .moving ∧ (t.station n).stowTimeout = (s.station n).stowTimeout
              ∧ (inPlace → s.offered t n (.pin true) ∧ (s.idling n → (t.station n).tx = some (.pin true)))
              ∧ (¬inPlace → s.queueing n → (t.station n).queue = (s.station n).queue))
        ∧ (s.authority n = .stowStowed → placed → (t.station n).progress = .stowed)
        ∧ (s.authority n = .stowStowed → ¬placed →
            (t.station n).progress = .moving ∧ (t.station n).stowStart = some s.now
              ∧ (t.station n).stowTimeout = some ⟨s.now, s.settings.timing.stowTimeout⟩)

/-- LOCK: BAD, MERGED, TAKEN and FULL as tabled, with the list each leaves and the LOCK_REPLY it is answered with; a DRIVE
claim taken on a permitting station makes it LOCKED, without demand, grant or moving setpoint, and one in STOW-WARNING has
its warn-expiry time cancelled and HORN off offered, and where no authority turns so the motion fields stand; on a CLEARING
station it cancels the clearing with HORN off; a HEAT claim that begins the heat block inhibits the zones; every change of the
list or of clearing raises LOCK_CHANGE, a HEAT claim and a merge that adds a claim among them, and a frame that changes
neither raises none; a claim on a full list is recorded as LOCK_FULL with its badge. A frame of a cabinet whose link is DOWN
brings it UP: LINK_UP departs, and the HEAT marker and the reply wait (R5, R20, R33, R86, R87, R88, R90, R98, R101, R140, R163;
the standing scope of a BAD reply is log entry 29). -/
def Obligations.LockFrame : Prop :=
  ∀ (n : StationId) (badge : Badge) (scope : Scope) (s : State),
    completes (exec (.lock n badge scope) s) fun t =>
      let hs := (s.station n).holders
      let bad := badge = 0 ∨ badge = 0xFFFF ∨ emptyScope scope = true
      let held := ∃ h ∈ hs, h.badge = badge
      let replied := fun (outcome : LockOutcome) (standing : Scope) =>
        let reply : LockReply := { badge := badge, outcome := outcome, standing := standing }
        (s.queueing n → (s.station n).queue.length ≤ 5 → .lockReply reply ∈ (t.station n).queue)
          ∧ (s.idling n → (t.station n).tx = some (.lockReply reply))
          ∧ s.linkReturns t n [.lockReply reply]
      s.sameOutside n t
      ∧ { s.station n with
          link := .up ⟨s.now, s.settings.timing.linkTimeout⟩, holders := (t.station n).holders
          clearing := (t.station n).clearing, zones := (t.station n).zones }.sameButMotion (t.station n)
      ∧ (bad → (t.station n).holders = hs ∧ replied .bad (standingScope hs badge))
      ∧ (¬bad → held →
          (t.station n).holders =
              hs.map (fun h => if h.badge = badge then { h with scope := unionScope h.scope scope } else h)
            ∧ replied .merged (unionScope (standingScope hs badge) scope))
      ∧ (¬bad → ¬held → hs.length < 6 →
          (t.station n).holders = hs ++ [{ badge := badge, scope := scope }] ∧ replied .taken scope)
      ∧ (¬bad → ¬held → 6 ≤ hs.length → (t.station n).holders = hs ∧ replied .full noScope
          ∧ s.recorded t (.station n) .lockFull (BitVec.ofNat 32 badge.toNat))
      ∧ (¬bad → hs.length < 6 → scope.drive = true → (s.authority n).permitting = true →
          t.authority n = .locked ∧ (t.station n).demand = noDemand ∧ (t.station n).grant = noGrant
            ∧ (∀ sp ∈ queuedSetpoints (t.station n).queue, sp.moving = false) ∧ s.raises t .lockChange
            ∧ (s.authority n = .stowWarning →
                (t.station n).progress = .warning ∧ (t.station n).warnTimer = none ∧ s.offered t n (.horn false)))
      ∧ s.clearingFollows t n ∧ s.blockFollows t n ∧ s.motionFollows t n ∧ s.lockNews t n

/-- UNLOCK: BAD, RELEASED and NOT_HOLDER as tabled, with the list each leaves; the release of the last DRIVE claim of an
installed station whose link is UP and report seen starts clearing with the full clear delay and HORN on; a release that
ends the heat block sends the INHIBITED zones to OFF and evaluates their want; no release turns an authority, so the motion
fields stand; every change of the list or of clearing raises LOCK_CHANGE, a release without clearing among them, and a frame
that changes neither raises none; a release by a badge that holds nothing is recorded as NOT_HOLDER with its badge. A frame of
a cabinet whose link is DOWN brings it UP: LINK_UP departs, and the HEAT marker and the reply wait (R5, R20, R33, R86, R87,
R89, R90, R97, R98, R101, R163; the standing scope of a BAD reply is log entry 29). -/
def Obligations.UnlockFrame : Prop :=
  ∀ (n : StationId) (badge : Badge) (scope : Scope) (s : State),
    completes (exec (.unlock n badge scope) s) fun t =>
      let hs := (s.station n).holders
      let bad := badge = 0 ∨ badge = 0xFFFF ∨ emptyScope scope = true
      let held := ∃ h ∈ hs, h.badge = badge
      let left := (hs.map fun h => if h.badge = badge then { h with scope := minusScope h.scope scope } else h).filter
        fun h => !emptyScope h.scope
      let replied := fun (outcome : LockOutcome) (standing : Scope) =>
        let reply : LockReply := { badge := badge, outcome := outcome, standing := standing }
        (s.queueing n → (s.station n).queue.length ≤ 5 → .lockReply reply ∈ (t.station n).queue)
          ∧ (s.idling n → (t.station n).tx = some (.lockReply reply))
          ∧ s.linkReturns t n [.lockReply reply]
      s.sameOutside n t
      ∧ { s.station n with
          link := .up ⟨s.now, s.settings.timing.linkTimeout⟩, holders := (t.station n).holders
          clearing := (t.station n).clearing, zones := (t.station n).zones }.sameButMotion (t.station n)
      ∧ (bad → (t.station n).holders = hs ∧ replied .bad (standingScope hs badge))
      ∧ (¬bad → held →
          (t.station n).holders = left ∧ (s.holderLaw → replied .released (minusScope (standingScope hs badge) scope)))
      ∧ (¬bad → ¬held → (t.station n).holders = hs ∧ replied .notHolder noScope
          ∧ s.recorded t (.station n) .notHolder (BitVec.ofNat 32 badge.toNat))
      ∧ (¬bad → held → (s.station n).installed = true → (s.station n).link.isUp = true →
          (s.station n).lockReportSeen = true → driveCount (s.station n) ≠ 0 → left.all (fun h => !h.scope.drive) = true →
          (t.station n).clearing = some ⟨s.now, s.settings.timing.clearDelay⟩ ∧ t.authority n = .clearing
            ∧ s.raises t .lockChange ∧ s.offered t n (.horn true))
      ∧ s.clearingFollows t n ∧ s.blockFollows t n ∧ s.motionFollows t n ∧ s.lockNews t n

/-- LOCK_REPORT: a malformed one leaves the list and the seen flag as they stand, is recorded as BAD_FRAME with its entry
count and raises no LOCK_CHANGE; a well-formed one, whose entries of badge 0 are set aside and whose repeated badges are
united at their first place, replaces the crew records, keeps a control-room record at its index, folds the scope of a sixth
crew badge into it and records LOCK_FULL with that badge, is seen and raises LOCK_CHANGE; a list with a control-room record is
answered STANDING with its scope, another list not at all; an installed station with no DRIVE holder that was HELD starts
clearing, a DRIVE claim cancels a clearing and takes the motion of a permitting station, with its warning suspended, and the
heat block ends or begins with the HEAT count. A report of a cabinet whose link is DOWN brings it UP: LINK_UP departs, and
behind the HEAT marker wait the reply and HORN on, where there are such (R5, R20, R33, R87, R91 to R94, R97, R98, R101, R140,
R163; the steps of R92 against its order clause are log entry 38). -/
def Obligations.LockReport : Prop :=
  ∀ (n : StationId) (es : List ReportEntry) (s : State),
    completes (exec (.lockReport n es) s) fun t =>
      let crew := crewOf es
      let bad := 6 < es.length ∨ ∃ e ∈ es, e.badge = 0xFFFF ∨ emptyScope e.scope = true
      let plain := (es.map (·.badge)).Nodup ∧ ∀ e ∈ es, e.badge ≠ 0
      let horn : List StationEntry :=
        if (s.station n).installed = true ∧ driveCount (t.station n) = 0 then [.horn true] else []
      s.sameOutside n t
      ∧ { s.station n with
          link := .up ⟨s.now, s.settings.timing.linkTimeout⟩, lockReportSeen := (t.station n).lockReportSeen
          holders := (t.station n).holders, clearing := (t.station n).clearing
          zones := (t.station n).zones }.sameButMotion (t.station n)
      ∧ (bad → (t.station n).holders = (s.station n).holders
          ∧ (t.station n).lockReportSeen = (s.station n).lockReportSeen
          ∧ s.recorded t (.station n) .badFrame (BitVec.ofNat 32 es.length)
          ∧ (s.clearingLaw → s.silent t .lockChange))
      ∧ (¬bad → (t.station n).lockReportSeen = true ∧ s.raises t .lockChange)
      ∧ (plain → crew = es.map fun e => { badge := e.badge, scope := e.scope })
      ∧ (¬bad → (∀ h ∈ (s.station n).holders, h.badge ≠ 0) → (t.station n).holders = crew)
      ∧ (¬bad → crew.length ≤ 5 → ∀ pre room post, (s.station n).holders = pre ++ room :: post → room.badge = 0 →
          (∀ h ∈ pre, h.badge ≠ 0) →
          (t.station n).holders = crew.take pre.length ++ room :: crew.drop pre.length)
      ∧ (¬bad → ∀ sixth, crew.drop 5 = [sixth] →
          ∀ pre room post, (s.station n).holders = pre ++ room :: post → room.badge = 0 → (∀ h ∈ pre, h.badge ≠ 0) →
          (t.station n).holders =
            (crew.take 5).take pre.length
              ++ { room with scope := unionScope room.scope sixth.scope } :: (crew.take 5).drop pre.length
            ∧ s.recorded t (.station n) .lockFull (BitVec.ofNat 32 sixth.badge.toNat))
      ∧ (¬bad → (s.station n).installed = true → (s.station n).lockReportSeen = false →
          driveCount (t.station n) = 0 → (t.station n).clearing = some ⟨s.now, s.settings.timing.clearDelay⟩
            ∧ s.offered t n (.horn true))
      ∧ s.clearingFollows t n ∧ s.motionFollows t n ∧ (¬bad ∨ s.clearingLaw → s.blockFollows t n)
      ∧ (¬bad → ∀ room ∈ (t.station n).holders, room.badge = 0 → ((t.station n).holders.map (·.badge)).Nodup →
          let reply : LockReply := { badge := 0, outcome := .standing, standing := room.scope }
          (s.queueing n → (s.station n).queue.length ≤ 5 → .lockReply reply ∈ (t.station n).queue)
            ∧ (s.idling n → (t.station n).tx = some (.lockReply reply))
            ∧ s.linkReturns t n (.lockReply reply :: horn))
      ∧ (bad ∨ (∀ h ∈ (t.station n).holders, h.badge ≠ 0) →
          (s.queueing n → (s.station n).queue.length ≤ 5 →
            ∀ r, .lockReply r ∈ (t.station n).queue → .lockReply r ∈ (s.station n).queue)
          ∧ s.linkReturns t n (if bad then [] else horn))

/-- The end of a frame: toward a cabinet the head of the queue leaves and its frame is composed as it then stands, a
SETPOINT writing last_sent and a HEAT frame the commanded mask of the zones that are ON; upstream the head leaves
unchanged (R16, R33, R34, R39, R165; an end of frame with no frame in transmission is log entry 25). -/
def Obligations.FrameEnds : Prop :=
  (∀ (n : StationId) (e : StationEntry) (rest : List StationEntry) (s : State),
    (s.station n).link.isUp = true → (s.station n).queue = e :: rest →
    completes (exec (.stationFrameEnd n) s) fun t =>
      t = { s with stations := t.stations } ∧ (∀ m, m ≠ n → t.station m = s.station m)
        ∧ (t.station n).queue = rest ∧ (s.station n).sameButPort (t.station n)
        ∧ (∀ sp, e = .setpoint sp →
            (t.station n).tx = some (.setpoint sp) ∧ (t.station n).lastSent = some (sp.azTarget, sp.elTarget))
        ∧ (e = .heat → ∃ mask, (t.station n).tx = some (.heat mask) ∧ (t.station n).commandedMask = mask
            ∧ ∀ z : ZoneNum, (mask.getLsbD z.val = true ↔ (s.zone n z).state = .on)
              ∧ (mask.getLsbD z.val ≠ (s.station n).commandedMask.getLsbD z.val → (t.zone n z).mismatch = none))
        ∧ (∀ on, e = .horn on → (t.station n).tx = some (.horn on))
        ∧ (∀ inward, e = .pin inward → (t.station n).tx = some (.pin inward))
        ∧ (e = .linkUp → (t.station n).tx = some (.linkUp s.nodeAddress))
        ∧ (∀ r, e = .lockReply r → (t.station n).tx = some (.lockReply r))
        ∧ (∀ f, e = .cabinetData f → (t.station n).tx = some (.cabinetData f)))
  ∧ (∀ (n : StationId) (s : State), (s.station n).queue = [] →
      exec (.stationFrameEnd n) s = .next (s.updStation n fun st => { st with tx := none }))
  ∧ (∀ (e : UpEntry) (rest : List UpEntry) (s : State), s.upQueue = e :: rest →
      exec .upstreamFrameEnd s = .next { s with upTx := some e, upQueue := rest })
  ∧ ∀ s : State, s.upQueue = [] → exec .upstreamFrameEnd s = .next { s with upTx := none }

/-! ### The sensor line and dropped frames -/

/-- A READING that answers awaited slots, one or two: for each the raw value is kept; a plausible calibrated value makes the
slot ACTIVE with miss count 0 and is its latest value, entering the ring of an anemometer and moving the side of an
air-temperature slot; an implausible one is a miss, and the third miss puts the slot OUT_OF_SERVICE and is recorded as
SENSOR_LOST with the address and cause 1; a SUBSTITUTED slot, where the pass stands beyond it, keeps all but the raw value. A
slot that leaves service is handed to the consumer of its kind: the last anemometer starts the blind timer and cancels the
hold-down (R113, R117 to R120, R124, R125, R126, R134; that precipitation is recent until the hold's expiry is taken is log
entry 31). -/
def Obligations.ReadingTaken : Prop :=
  ∀ (address : Byte) (raw : BitVec 16) (tr : Transaction) (i : SlotId) (s : State),
    s.scanner.transaction = some tr → (answeredBy tr address).Nodup → i ∈ answeredBy tr address →
    completes (exec (.reading address raw) s) fun t =>
      let r := s.slotRecord i
      let v := max (-32768) (min 32767 (Int.floor ((raw.toInt * (r.calM : Int) : ℚ) / 16384) + r.calB))
      let good := r.plausLow ≤ v ∧ v ≤ r.plausHigh
      (t.slot i).latestRaw = some raw.toInt
      ∧ { s with scanner := t.scanner, slots := t.slots, wind := t.wind, melt := t.melt }.sameButStations t
      ∧ (∀ j, j ∉ answeredBy tr address → (s.slot j).state ≠ .substituted → t.slot j = s.slot j)
      ∧ ((s.slot i).state ≠ .substituted → good →
          (t.slot i).state = .active ∧ (t.slot i).miss = 0 ∧ (t.slot i).latestValue = some (v, s.now)
            ∧ (slotKindOf r.kind = some .windSpeed → (s.slot i).ring.length ≤ 32 →
                (t.slot i).ring = ((s.slot i).ring ++ [v]).drop ((s.slot i).ring.length - 31))
            ∧ (slotKindOf r.kind = some .airTemp →
                (t.slot i).side =
                  if v < r.crossLevel - r.deadband then .cold
                  else if r.crossLevel + r.deadband < v then .warm
                  else (s.slot i).side))
      ∧ ((s.slot i).state = .idle ∨ (s.slot i).state = .active → ¬good →
          (t.slot i).latestValue = (s.slot i).latestValue
            ∧ ((s.slot i).miss < 2 → (t.slot i).state = (s.slot i).state ∧ (t.slot i).miss = (s.slot i).miss + 1)
            ∧ (2 ≤ (s.slot i).miss → (t.slot i).state = .outOfService ∧ (t.slot i).miss = 3 ∧ (t.slot i).ring = []
                ∧ (t.slot i).side = .unknown
                ∧ s.recorded t (.slot i) .sensorLost (BitVec.ofNat 32 (r.address.toNat + 256))
                ∧ ((s.slot i).state = .active → answeredBy tr address = [i] → (∀ j, (s.slot j).state ≠ .substituted) →
                    s.leavesService t i)))
      ∧ ((s.slot i).state = .outOfService → ¬good → t.slot i = { s.slot i with latestRaw := some raw.toInt })
      ∧ ((s.slot i).state = .substituted →
          (s.scanner.state = .polling → s.scanner.order = .sequential → i.val < s.scanner.position) →
          (s.scanner.state = .polling → s.scanner.order = .paired → i.val % 8 < s.scanner.position) →
          t.slot i = { s.slot i with latestRaw := some raw.toInt })

/-- A READING of an anemometer that is taken: with G the greatest of the recent values and S the greatest of the means over
the anemometers in service, the level rises at once to the target level and WIND_LEVEL is raised, or stands, and then the
hold-down starts or runs on while the release condition holds and is cancelled while it does not; the first anemometer to
enter service cancels the blind timer and takes BLIND out of the set; and a set that became empty or ceased to be so releases
or activates the stow of every station, while one that loses BLIND and gains WIND in this event leaves the stow as it stands
(R125, R130, R131, R133 to R135, R138, R148, R149; that the set before and after the whole event decides is log entry 17, that
a stow-start time stands until the next entry to MOVING log entry 18). -/
def Obligations.WindReading : Prop :=
  ∀ (address : Byte) (raw : BitVec 16) (tr : Transaction) (i : SlotId) (s : State),
    s.scanner.transaction = some tr → answeredBy tr address = [i] → (s.slotRecord i).kind = 0 →
    (∀ j, (s.slot j).state ≠ .substituted) →
    let r := s.slotRecord i
    let v := max (-32768) (min 32767 (Int.floor ((raw.toInt * (r.calM : Int) : ℚ) / 16384) + r.calB))
    r.plausLow ≤ v → v ≤ r.plausHigh →
    completes (exec (.reading address raw) s) fun t =>
      let serving := fun (u : State) (j : SlotId) => (u.slotRecord j).kind = 0 ∧ (u.slot j).state = .active
      let recent := fun j : SlotId => (t.slot j).ring.drop ((t.slot j).ring.length - 8)
      let mean := fun j : SlotId => (t.slot j).ring.sum / ((t.slot j).ring.length : Int)
      t.worstGust.isSome = true ∧ t.worstSustained.isSome = true
        ∧ (∀ g ∈ t.worstGust, ∀ u ∈ t.worstSustained,
          (∀ j, serving t j → ∀ x ∈ recent j, x ≤ g) ∧ (∃ j, serving t j ∧ g ∈ recent j)
          ∧ (∀ j, serving t j → (t.slot j).ring ≠ [] → mean j ≤ u)
          ∧ ∃ j, serving t j ∧ (t.slot j).ring ≠ [] ∧ mean j = u)
        ∧ s.levelFollows t
        ∧ ((∀ j, ¬serving s j) → t.wind.blindTimer = none ∧ t.wind.causes.blind = false)
        ∧ ((∃ j, serving s j) → t.wind.blindTimer = s.wind.blindTimer ∧ t.wind.causes.blind = s.wind.causes.blind)
        ∧ t.wind.causes.stormLine = s.wind.causes.stormLine ∧ t.wind.causes.manual = s.wind.causes.manual
        ∧ (s.stowActive = t.stowActive → t.stations = s.stations ∧ t.wind.refresh = s.wind.refresh)
        ∧ s.stowFollows t

/-- When a zone wants heat: the melt condition is on, its surface slot is in service with a latest value, and that value lies
below the setpoint, or below the setpoint and the hysteresis together while the zone is ON. A READING of a surface slot that
is taken: each ON zone it serves whose overtemperature threshold the value reaches goes to FAULT, recorded as OVERTEMP with
the value and the zone, and the want of every other zone it serves is evaluated with what follows from it; no other zone
changes; a HEAT marker is offered where the ON zones of a station changed (R156, R159, R160, R162, R164, R168; that the last
report of a station is that of its highest such zone is log entry 21, the check before the want where this reading takes the
slot into service log entry 13). -/
def Obligations.SnowMelting : Prop :=
  (∀ (n : StationId) (z : ZoneNum) (s : State),
    s.wants n z = true ↔
      s.melt.condition = true ∧ ∃ i, s.isSurfaceSlot n z i
        ∧ ((s.slot i).state = .active ∨ (s.slot i).state = .substituted)
        ∧ ∃ p ∈ (s.slot i).latestValue,
          p.1 < (s.zoneRecord n z).setpoint
            + if (s.zone n z).state = .on then (s.zoneRecord n z).hysteresis else 0)
  ∧ ∀ (address : Byte) (raw : BitVec 16) (tr : Transaction) (i : SlotId) (s : State),
    s.scanner.transaction = some tr → answeredBy tr address = [i] → (s.slotRecord i).kind = 2 →
    (∀ j, (s.slot j).state ≠ .substituted) →
    let r := s.slotRecord i
    let v := max (-32768) (min 32767 (Int.floor ((raw.toInt * (r.calM : Int) : ℚ) / 16384) + r.calB))
    r.plausLow ≤ v → v ≤ r.plausHigh →
    completes (exec (.reading address raw) s) fun t => s.surfaceFollows t i v

/-- A READING of an air-temperature or a precipitation slot that is taken: a crossing that cross_dir selects raises
FREEZE_CROSS, a positive precipitation value stamps the time and starts the precipitation hold anew, and the melt condition
is evaluated: where it changes, MELT_CHANGE is raised and the want of every zone of every station is evaluated with what
follows from it, with a HEAT marker where the ON zones of a station changed; where no crossing is selected and the condition
stands, no cause is raised and no station changes (R126, R127, R158, R159, R160, R168; that precipitation is recent until the
hold's expiry is taken is log entry 31). -/
def Obligations.AirAndPrecipitation : Prop :=
  ∀ (address : Byte) (raw : BitVec 16) (tr : Transaction) (i : SlotId) (s : State),
    s.scanner.transaction = some tr → answeredBy tr address = [i] →
    (s.slotRecord i).kind = 1 ∨ (s.slotRecord i).kind = 3 → (∀ j, (s.slot j).state ≠ .substituted) →
    let r := s.slotRecord i
    let v := max (-32768) (min 32767 (Int.floor ((raw.toInt * (r.calM : Int) : ℚ) / 16384) + r.calB))
    r.plausLow ≤ v → v ≤ r.plausHigh →
    completes (exec (.reading address raw) s) fun t => s.valueFollows t i v

/-- A transaction and the pass it belongs to. A READING answers every awaited slot that its address names, and while another
slot is awaited the transaction stays in flight with those marked; when all are answered, and at the deadline, the
transaction completes: STOPPING ends in IDLE, and while POLLING the pass goes on in the same event from the position held.
PASS_GAP_EXPIRY and SCAN_START in IDLE begin a pass at position 0. A pass delivers the value of every substituted slot it
meets, with the level, the melt condition, the overtemperature check and the wants evaluated as for an accepted value, and
issues the transaction of the first position with a slot to be polled, or ends; PAIRED passes go over the pairs (R110 to R114,
R122, R125 to R127, R131, R156, R158, R159, R164; that the poll frame is sent when the transaction is issued is log entry 27,
what several values delivered in one event leave together log entry 21, that precipitation is recent until the hold's expiry
is taken log entry 31). -/
def Obligations.PassesGoOn : Prop :=
  ∀ (address : Byte) (raw : BitVec 16) (tag mode order : Byte) (s : State),
    let ready := { s.scanner with transaction := none }
    (∀ tr, s.scanner.transaction = some tr →
      let others := ∃ a ∈ tr.awaited, a.answered = false ∧ a.address ≠ address
      ((∃ a ∈ tr.awaited, a.answered = false ∧ a.address = address) →
        completes (exec (.reading address raw) s) fun t =>
          (∀ a ∈ tr.awaited, a.answered = false → a.address = address → (t.slot a.slot).latestRaw = some raw.toInt)
          ∧ (others →
              t.scanner = { s.scanner with transaction := some { tr with
                awaited := tr.awaited.map fun a => { a with answered := a.answered || a.address == address } } })
          ∧ (¬others → s.scanner.state = .stopping → t.scanner = { ready with state := .idle })
          ∧ (¬others → s.scanner.state = .polling → s.passGoesOn t ready))
      ∧ (tr.deadline.due s.now = true →
          completes (exec .transactionDeadlineExpiry s) fun t =>
            (s.scanner.state = .stopping → t.scanner = { ready with state := .idle })
            ∧ (s.scanner.state = .polling → s.passGoesOn t ready)))
    ∧ (timerDue s.scanner.gapTimer s.now = true →
        completes (exec .passGapExpiry s) fun t =>
          s.passGoesOn t { s.scanner with state := .polling, position := 0, issued := false, gapTimer := none })
    ∧ (s.upstreamShort = false → mode.toNat ≤ 1 → order.toNat ≤ 1 → s.scanner.state = .idle →
        completes (exec (.scanStart tag [mode, order]) s) fun t =>
          s.passGoesOn t { s.scanner with
            state := .polling
            mode := if mode = 1 then .continuous else .once
            order := if order = 1 then .paired else .sequential
            position := 0
            issued := false
            gapTimer := none })

/-- Frames dropped at reception, each with BAD_FRAME from its link and the detail its rule gives, and nothing else but the
link's liveness on a good station frame, which brings a DOWN link UP with LINK_UP departing and a HEAT marker waiting; a good
upstream frame for another node is dropped without a fault (R4, R5, R22, R33, R46, R113, R197, R198; the place of a stray
frame's case in its detail is log entry 10). -/
def Obligations.DroppedFrames : Prop :=
  ∀ (n : StationId) (f : Frame) (bytes : List Byte) (err : Bool) (address : Byte) (raw : BitVec 16) (s : State),
    exec (.receivedFrameFailingChecks .upstream bytes err) s =
        .next (examine (recordFault .upstream .badFrame
          (match bytes with | _ :: _ :: kind :: _ => kind.setWidth 32 | _ => 0x100) s))
    ∧ exec (.receivedFrameFailingChecks (.station n) bytes err) s =
        .next (examine (recordFault (.station n) .badFrame 0 s))
    ∧ exec (.receivedFrameFailingChecks .sensorLine bytes err) s =
        .next (examine (recordFault .sensorLine .badFrame 0 s))
    ∧ ((f.dest = s.nodeAddress ∨ f.dest = 0xFF ∨ ∃ m, f.dest = stationAddress m) →
        exec (.goodFrameOfUnhandledKind .upstream f) s =
          .next (examine (recordFault .upstream .badFrame (f.kind.setWidth 32) s)))
    ∧ (s.restLaw → ¬(f.dest = s.nodeAddress ∨ f.dest = 0xFF ∨ ∃ m, f.dest = stationAddress m) →
        exec (.goodFrameOfUnhandledKind .upstream f) s = .next s)
    ∧ ((s.station n).link.isUp = true →
        exec (.goodFrameOfUnhandledKind (.station n) f) s =
          .next (examine (recordFault (.station n) .badFrame (f.kind.setWidth 32)
            (s.updStation n fun st => { st with link := .up ⟨s.now, s.settings.timing.linkTimeout⟩ }))))
    ∧ ((s.station n).link = .down → (s.station n).queue = [] → (s.station n).tx = none →
        exec (.goodFrameOfUnhandledKind (.station n) f) s =
          .next (examine (recordFault (.station n) .badFrame (f.kind.setWidth 32)
            (s.updStation n fun st => { st with
              link := .up ⟨s.now, s.settings.timing.linkTimeout⟩
              tx := some (.linkUp s.nodeAddress)
              queue := [.heat] }))))
    ∧ exec (.goodFrameOfUnhandledKind .sensorLine f) s =
        .next (examine (recordFault .sensorLine .badFrame (BitVec.ofNat 32 (0x02000000 + f.kind.toNat)) s))
    ∧ ((∀ tr, s.scanner.transaction = some tr → answeredBy tr address = []) →
        exec (.reading address raw) s =
          .next (examine (recordFault .sensorLine .badFrame (BitVec.ofNat 32 (0x01000000 + address.toNat)) s)))

/-! ### Timers of the stations -/

/-- LIVENESS_DEADLINE_EXPIRY: the link goes DOWN with its queue emptied and its frame abandoned, the report is unseen and
clearing absent, which raises LOCK_CHANGE where one ran and none otherwise, holders, telemetry, last_sent and the latch are
kept, every zone that is neither DISABLED nor in FAULT is INHIBITED, one that this event inhibits with its off-start set to
the event's time and its on-start absent, and no zone has a mismatch deadline, LINK_LOST carries the reading of the last good
frame, the authority is HELD, and a station that was permitting has no demand, freshness or grant left and, in STOW-WARNING,
no warn-expiry time (R6, R20, R38, R87, R101, R140, R163, R165). -/
def Obligations.LinkLost : Prop :=
  ∀ (n : StationId) (deadline : Timer) (s : State), (s.station n).link = .up deadline → deadline.due s.now = true →
    completes (exec (.livenessDeadlineExpiry n) s) fun t =>
      let a := s.station n
      let b := t.station n
      s.sameOutside n t
      ∧ t.faults = (recordFault (.station n) .linkLost deadline.start s).faults
      ∧ b.link = .down ∧ b.queue = [] ∧ b.tx = none ∧ b.lockReportSeen = false ∧ b.clearing = none
      ∧ b.holders = a.holders ∧ b.lastTelemetry = a.lastTelemetry ∧ b.lastSent = a.lastSent
      ∧ b.faultLatch = a.faultLatch ∧ b.progress = a.progress ∧ b.commandedMask = a.commandedMask
      ∧ b.installed = a.installed ∧ b.stowStart = a.stowStart ∧ b.stowTimeout = a.stowTimeout
      ∧ b.clipStatus = a.clipStatus ∧ b.clipLog = a.clipLog
      ∧ (a.installed = true → t.authority n = .held)
      ∧ ((s.authority n).permitting = true → b.demand = noDemand ∧ b.grant = noGrant ∧ b.freshness = none)
      ∧ s.motionFollows t n
      ∧ (a.clearing.isSome = true → s.raises t .lockChange)
      ∧ (a.clearing = none → s.silent t .lockChange)
      ∧ ∀ z,
          let zn := a.zones.get z
          let cold := { zn with mismatch := none }
          let exempt := zn.state = .disabled ∨ zn.state = .fault ∨ zn.state = .inhibited
          (heatBlock a = true ∨ exempt → b.zones.get z = cold)
          ∧ (heatBlock a = false → ¬exempt →
              b.zones.get z = { cold with
                state := .inhibited, onStart := none, minOnReached := false, offStart := some s.now })
          ∧ (s.heatSafe → zn.state ≠ .disabled → zn.state ≠ .fault → (b.zones.get z).state = .inhibited)

/-- CLEARING_EXPIRY: clearing is absent, LOCK_CHANGE is raised, and the authority falls to STOPPED, to STOW with its progress,
or to IDLE. A PENDING station under active stow, and one whose warning was suspended, enters STOW-WARNING with a STOP
setpoint, HORN on and a full warning: that HORN on takes the place of HORN off, and on an idle transmitter it is the frame
that leaves; with a stow warn time of 0 the station passes to MOVING with its stow-start time and stow timeout, after HORN off
and the STOP. In every other case HORN off is offered and progress, stow-start, timers, demand and grants stand (R99, R139 to
R141, R147; R33 against R99 is log entry 39). -/
def Obligations.ClearingExpiry : Prop :=
  ∀ (n : StationId) (s : State), timerDue (s.station n).clearing s.now = true →
    completes (exec (.clearingExpiry n) s) fun t =>
      let a := s.station n
      let b := t.station n
      let stop := StationEntry.setpoint (s.stopSetpoint n)
      let freed := s.authority n = .clearing ∧ a.faultLatch = .none
      let begins := freed ∧ s.stowActive = true ∧ (a.progress = .pending ∨ a.progress = .warning)
      let hornOff := s.offered t n (.horn false) ∧ (s.idling n → b.tx = some (.horn false) ∧ b.queue = [])
      s.sameOutside n t ∧ b.clearing = none ∧ s.raises t .lockChange
      ∧ s.stowTakesUp t n { a with clearing := none } freed
      ∧ (¬begins → hornOff)
      ∧ (begins → s.settings.timing.stowWarn ≠ 0 → s.idling n → b.tx = some (.horn true) ∧ b.queue = [stop])
      ∧ (begins → s.settings.timing.stowWarn = 0 →
          s.offered t n (.horn false) ∧ (s.idling n → b.tx = some (.horn false) ∧ b.queue = [stop]))
      ∧ (a.installed = false → t.authority n = .absent)
      ∧ (s.authority n = .clearing → a.faultLatch ≠ .none → t.authority n = .stopped)
      ∧ (freed → s.stowActive = false → a.stale = false → a.demand.cls ≠ .track → t.authority n = .idle)

/-- FRESHNESS_EXPIRY: stale, no deadline, no motion watts, no grant, the cause STALE, and a STOP setpoint waits, or leaves an
idle transmitter at once; the class, targets and speeds stand and no allocation runs (R31, R33). WARN_EXPIRY: HORN off,
MOVING, the stow-start time and the stow timeout. STOW_TIMEOUT_EXPIRY: the fault, with detail 1 where the last telemetry is in
tolerance of the stow targets and a pin is fitted, and no second timeout (R141, R143, R146; the azimuth KEEP takes is log
entry 15). -/
def Obligations.FreshnessWarnAndStowTimeoutExpiry : Prop :=
  ∀ (n : StationId) (s : State),
    (timerDue (s.station n).freshness s.now = true →
      completes (exec (.freshnessExpiry n) s) fun t =>
        s.sameOutside n t
        ∧ { s.station n with
            stale := true
            freshness := none
            demand := { (s.station n).demand with watts := 0 }
            grant := noGrant
            clipStatus := { noClip with stale := true }
            clipLog := (s.station n).clipLog.union { noClip with stale := true } }.sameButPort (t.station n)
        ∧ (s.authority n = .tracking → t.authority n = .coasting)
        ∧ s.offered t n (.setpoint (s.stopSetpoint n))
        ∧ (s.idling n → (t.station n).tx = some (.setpoint (s.stopSetpoint n)) ∧ (t.station n).queue = []))
    ∧ (timerDue (s.station n).warnTimer s.now = true →
      completes (exec (.warnExpiry n) s) fun t =>
        s.sameOutside n t
        ∧ { s.station n with
            progress := .moving
            warnTimer := none
            stowStart := some s.now
            stowTimeout := some ⟨s.now, s.settings.timing.stowTimeout⟩ }.sameButPort (t.station n)
        ∧ s.offered t n (.horn false) ∧ (s.idling n → (t.station n).tx = some (.horn false)))
    ∧ (timerDue (s.station n).stowTimeout s.now = true →
        completes (exec (.stowTimeoutExpiry n) s) fun t =>
          let goal := stowGoal (s.envelope n) (s.station n)
          s.sameOutside n t
          ∧ t.station n = { s.station n with stowTimeout := none }
          ∧ t.faults = (recordFault (.station n) .stowTimeout
              (match (s.station n).lastTelemetry with
                | none => 0
                | some p =>
                  if (p.az - goal.1).natAbs ≤ (s.envelope n).stowTol ∧ (p.el - goal.2).natAbs ≤ (s.envelope n).stowTol
                      ∧ isYes (s.envelope n).pinFitted = true then 1 else 0) s).faults)

/-- STOW_REFRESH_EXPIRY: the timer restarts; every STOW-MOVING station has a stow demand at its stow rates toward its stow
targets, its clip_status is BUDGET where the allocation fell short with TARGET_CLAMP where the clamp changed a target, and
its stow setpoint is offered and leaves an idle transmitter at once, or behind the HEAT frame of an allocation that changed the
station's ON zones; every other station is granted nothing (R142, R143, R33, R52, R59, R60, R168; the target KEEP takes is log
entry 15). -/
def Obligations.StowRefresh : Prop :=
  ∀ s : State, timerDue s.wind.refresh s.now = true →
    completes (exec .stowRefreshExpiry s) fun t =>
      { s with
          wind := { s.wind with refresh := some ⟨s.now, s.settings.timing.stowRefresh⟩ }
          alloc := t.alloc }.sameButStations t
      ∧ t.alloc.kind = .stow ∧ t.alloc.time = s.now
      ∧ ∀ n,
        let e := s.envelope n
        let az := min e.stowAzRate e.azRateMax
        let el := min e.stowElRate e.elRateMax
        let goal := stowGoal e (s.station n)
        let sent : Setpoint := {
          azTarget := goal.1
          azSpeed := (t.station n).grant.azSpeed
          elTarget := goal.2
          elSpeed := (t.station n).grant.elSpeed }
        (s.authority n = .stowMoving →
          (t.station n).demand = {
              cls := .stow
              azSpeed := az
              elSpeed := el
              azTarget := goal.1
              elTarget := goal.2
              watts := (az * e.kAz * s.windFactor + 4095) / 4096 + (el * e.kEl * s.windFactor + 4095) / 4096 }
            ∧ (t.station n).clipStatus = { noClip with
                targetClamp := decide (goal ≠ stowAim e (s.station n))
                budget := decide ((t.station n).demand.watts ≠ 0 ∧ t.alloc.scale < 1024) }
            ∧ (t.station n).clipLog = (s.station n).clipLog.union (t.station n).clipStatus
            ∧ s.offered t n (.setpoint sent)
            ∧ (s.idling n → s.sameOn t n → (t.station n).tx = some (.setpoint sent) ∧ (t.station n).queue = [])
            ∧ (s.idling n → ¬s.sameOn t n →
                (t.station n).tx = some (.heat (t.onMask n)) ∧ (t.station n).queue = [.setpoint sent]))
        ∧ (s.authority n ≠ .stowMoving →
            (t.station n).grant = noGrant ∧ (t.station n).demand = (s.station n).demand
              ∧ (t.station n).clipStatus = (s.station n).clipStatus)
        ∧ { s.station n with
            demand := (t.station n).demand, grant := (t.station n).grant, clipStatus := (t.station n).clipStatus
            clipLog := (t.station n).clipLog, zones := (t.station n).zones }.sameButPort (t.station n)

/-! ### Timers of the cluster -/

/-- HOLD_DOWN_EXPIRY: the level falls one step and is evaluated there, rising to the target level of the figures G and S where
that is higher, with the hold-down of the new level where its release condition holds; WIND_LEVEL is raised, and where the
set empties the stow is released. BLIND_TIMER_EXPIRY: BLIND joins the set, the fault counts the enabled anemometers, and a set
that was empty activates the stow of every station (R131 to R135, R138, R148; that a stow-start time stands until the next
entry to MOVING is log entry 18). -/
def Obligations.WindTimerExpiries : Prop :=
  ∀ s : State,
    (timerDue s.wind.holdDown s.now = true →
      completes (exec .holdDownExpiry s) fun t =>
        let below : WindLevel := match s.wind.level with
          | .stow => .gusty
          | .gusty => .breezy
          | .breezy | .calm => .calm
        { s with wind := t.wind }.sameButStations t ∧ t.wind.blindTimer = s.wind.blindTimer
        ∧ (∀ g ∈ s.worstGust, ∀ u ∈ s.worstSustained, ∀ l, isTargetLevel s.settings.wind g u l →
            t.wind.level = if levelIndex below < levelIndex l then l else below)
        ∧ (s.worstGust = none → t.wind.level = below ∧ t.wind.holdDown = none)
        ∧ State.levelFollows { s with wind := { s.wind with
              level := below, holdDown := none
              causes := { s.wind.causes with wind := s.wind.level == .calm && s.wind.causes.wind } } } t
        ∧ (s.wind.level ≠ .calm → s.raises t .windLevel)
        ∧ s.stowFollows t
        ∧ (s.stowActive = t.stowActive → t.stations = s.stations ∧ t.wind.refresh = s.wind.refresh ∧ t.faults = s.faults))
    ∧ (timerDue s.wind.blindTimer s.now = true →
        completes (exec .blindTimerExpiry s) fun t =>
          { s with
              wind := { s.wind with
                causes := { s.wind.causes with blind := true }
                blindTimer := none
                refresh := t.wind.refresh } }.sameButStations t
          ∧ (s.stowActive = true → t.stations = s.stations ∧ t.faults =
              (recordFault .cluster .blind (BitVec.ofNat 32 (slotIds.countP fun i =>
                isYes (s.slotRecord i).enabled && (s.slotRecord i).kind == 0)) s).faults)
          ∧ t.stowActive = true ∧ s.stowFollows t
          ∧ (s.stowActive = false → s.raises t .stowChange
              ∧ s.recorded t .cluster .blind (BitVec.ofNat 32 (slotIds.countP fun i =>
                  isYes (s.slotRecord i).enabled && (s.slotRecord i).kind == 0))
              ∧ t.wind.refresh = some ⟨s.now, s.settings.timing.stowRefresh⟩))

/-- TRANSACTION_DEADLINE_EXPIRY: every awaited slot without an answer takes a miss, the third of which puts it OUT_OF_SERVICE
and is recorded as SENSOR_LOST with the address and cause 0. PASS_GAP_EXPIRY: the next sequential pass polls slot 0 where it
is enabled and not substituted, and ends at once where it is disabled. SUBSTITUTE_LIFE_EXPIRY: the slot is OUT_OF_SERVICE
without a substitute, and SENSOR_LOST is recorded with cause 2. A slot that leaves service is handed to the consumer of its
kind: the last anemometer starts the blind timer and cancels the hold-down (R111, R113, R114, R119, R120, R122, R134; that
precipitation is recent until the hold's expiry is taken is log entry 31). -/
def Obligations.ScannerTimerExpiries : Prop :=
  ∀ (i : SlotId) (s : State),
    (∀ tr, s.scanner.transaction = some tr → tr.deadline.due s.now = true → ∀ a ∈ tr.awaited, a.slot = i →
      a.answered = false → (tr.awaited.map (·.slot)).Nodup →
      completes (exec .transactionDeadlineExpiry s) fun t =>
        { s with scanner := t.scanner, slots := t.slots, wind := t.wind, melt := t.melt }.sameButStations t
        ∧ (∀ j, (∀ b ∈ tr.awaited, b.answered = false → b.slot ≠ j) → (s.slot j).state ≠ .substituted →
            t.slot j = s.slot j)
        ∧ ((s.slot i).state = .idle ∨ (s.slot i).state = .active →
          ((s.slot i).miss < 2 → (t.slot i) = { s.slot i with miss := (s.slot i).miss + 1 })
          ∧ (2 ≤ (s.slot i).miss → (t.slot i).state = .outOfService ∧ (t.slot i).miss = 3 ∧ (t.slot i).ring = []
              ∧ (t.slot i).side = .unknown ∧ (t.slot i).latestValue = (s.slot i).latestValue
              ∧ s.recorded t (.slot i) .sensorLost (BitVec.ofNat 32 (s.slotRecord i).address.toNat)
              ∧ ((s.slot i).state = .active → (∀ b ∈ tr.awaited, b.answered = false → b.slot = i) →
                  (∀ j, (s.slot j).state ≠ .substituted) → s.leavesService t i)))
        ∧ ((s.slot i).state = .outOfService → t.slot i = s.slot i)
        ∧ (s.scanner.state = .stopping → t.scanner.state = .idle ∧ t.scanner.transaction = none))
    ∧ (timerDue s.scanner.gapTimer s.now = true → s.scanner.order = .sequential →
        completes (exec .passGapExpiry s) fun t =>
          { s with scanner := t.scanner, slots := t.slots, wind := t.wind, melt := t.melt }.sameButStations t
          ∧ (∀ j, (s.slot j).state ≠ .substituted → t.slot j = s.slot j)
          ∧ (isYes (s.slotRecord 0).enabled = true → (s.slot 0).state ≠ .substituted →
            t.scanner = { s.scanner with
              state := .polling, position := 1, issued := true, gapTimer := none
              transaction := some {
                frame := .poll (s.slotRecord 0).address
                awaited := [{ slot := 0, address := (s.slotRecord 0).address, answered := false }]
                deadline := ⟨s.now, s.settings.timing.pollTimeout⟩ } })
          ∧ (isYes (s.slotRecord 0).enabled = false → s.scanner.mode = .continuous →
              t.scanner.state = .gap ∧ t.scanner.transaction = s.scanner.transaction
                ∧ t.scanner.gapTimer = some ⟨s.now, if s.settings.timing.passGap = 0 then 1
                    else s.settings.timing.passGap⟩))
    ∧ (∀ p, (s.slot i).substitute = some p → p.2.due s.now = true →
        completes (exec (.substituteLifeExpiry i) s) fun t =>
          { s with slots := t.slots, wind := t.wind, melt := t.melt }.sameButStations t
          ∧ (∀ j, j ≠ i → t.slot j = s.slot j)
          ∧ t.slot i = { s.slot i with
            state := .outOfService, miss := 3, substitute := none, ring := [], side := .unknown }
          ∧ s.recorded t (.slot i) .sensorLost (BitVec.ofNat 32 ((s.slotRecord i).address.toNat + 512))
          ∧ ((s.slot i).state = .substituted → s.leavesService t i))

/-- PRECIP_HOLD_EXPIRY: precipitation is no longer recent, so only FORCE_ON keeps the condition, and where it changes the want
of every zone is evaluated. MIN_ON_EXPIRY: a zone that does not want heat goes OFF, with a HEAT marker offered.
MIN_OFF_EXPIRY: off-start is absent, whatever the state; a zone OFF or SHED that wants heat waits, one in WAIT or SHED that
does not goes to OFF, and one INHIBITED, in FAULT or DISABLED keeps its state. MISMATCH_DEADLINE_EXPIRY: the zone is in FAULT
with reason CONTACTOR, recorded with the zone, the commanded mask and the reported one, whatever its state. The last three
change no other zone (R155, R158, R160, R162, R166, R168; that precipitation is recent until the expiry is taken is log entry
31). -/
def Obligations.MeltTimerExpiries : Prop :=
  ∀ (n : StationId) (z : ZoneNum) (s : State),
    let zn := s.zone n z
    let others := fun t : State => ∀ y, y ≠ z → t.becomes n y (s.zone n y)
    (timerDue s.melt.hold s.now = true →
      completes (exec .precipHoldExpiry s) fun t =>
        { s with melt := { s.melt with hold := none, condition := s.melt.mode == MeltMode.forceOn } }.sameButStations t
        ∧ (∀ m, { s.station m with zones := (t.station m).zones }.sameButPort (t.station m))
        ∧ (s.melt.condition ≠ (s.melt.mode == .forceOn) → s.raises t .meltChange)
        ∧ s.meltFollows t)
    ∧ (∀ start, zn.onStart = some start → zn.state = .on → zn.minOnReached = false →
        (s.zoneRecord n z).minOn ≤ (s.now - start).toNat →
        completes (exec (.minOnExpiry n z) s) fun t =>
          s.sameOutside n t
          ∧ { s.station n with zones := (t.station n).zones }.sameButPort (t.station n)
          ∧ (s.wants n z = true → t.zone n z = { zn with minOnReached := true })
          ∧ (s.wants n z = false → t.becomes n z { zn with
              state := .off, offStart := some s.now, onStart := none, minOnReached := false })
          ∧ s.marked t n ∧ others t
          ∧ (s.wants n z = false → s.idling n → (t.station n).tx = some (.heat (t.onMask n))))
    ∧ (∀ start, zn.offStart = some start → (s.zoneRecord n z).minOff ≤ (s.now - start).toNat →
        completes (exec (.minOffExpiry n z) s) fun t =>
          s.sameOutside n t
          ∧ { s.station n with zones := (t.station n).zones }.sameButPort (t.station n)
          ∧ (zn.state = .off ∨ zn.state = .shed →
              (s.wants n z = true → t.zone n z = { zn with offStart := none, state := .wait })
              ∧ (s.wants n z = false → t.zone n z = { zn with offStart := none, state := .off }))
          ∧ State.follows (s.updZone n z fun x => { x with offStart := none }) t n z (s.wants n z = true)
          ∧ (zn.state ≠ .on → (t.zone n z).offStart = none ∧ (t.zone n z).mismatch = zn.mismatch)
          ∧ s.marked t n ∧ others t)
    ∧ (timerDue zn.mismatch s.now = true → zn.state ≠ .disabled → zn.state ≠ .fault →
        completes (exec (.mismatchDeadlineExpiry n z) s) fun t =>
          s.sameOutside n t
          ∧ { s.station n with zones := (t.station n).zones }.sameButPort (t.station n)
          ∧ t.zone n z = { zn with
              state := .fault, faultReason := some .contactor, offStart := some s.now, onStart := none
              minOnReached := false, mismatch := none }
          ∧ s.marked t n ∧ others t
          ∧ s.recorded t (.station n) .contactor
              (BitVec.ofNat 32 (z.val + 256 * (s.station n).commandedMask.toNat
                + 65536 * ((s.station n).lastTelemetry.elim 0 fun p => p.contactors.toNat)))
          ∧ (zn.state ≠ .on → t.faults = (recordFault (.station n) .contactor
              (BitVec.ofNat 32 (z.val + 256 * (s.station n).commandedMask.toNat
                + 65536 * ((s.station n).lastTelemetry.elim 0 fun p => p.contactors.toNat))) s).faults))

/-! ### Requests -/

/-- SETTINGS_SAVE takes a snapshot and is ACCEPTED, or is refused LOCKED_DOWN or BUSY with no change; SAVE_COMPLETION makes
the store VALID and raises STORE_DONE (R191, R192). -/
def Obligations.SaveAndCompletion : Prop :=
  (∀ (tag : Byte) (s : State), s.upstreamShort = false →
    completes (exec (.settingsSave tag []) s) fun t =>
      (s.lockdown = true →
        s.sameButPort t ∧ s.answered t (.mgmtResp tag 0x09 .lockedDown []))
      ∧ (s.lockdown = false → s.store.state = .saving →
          s.sameButPort t ∧ s.answered t (.mgmtResp tag 0x09 .busy []))
      ∧ (s.lockdown = false → s.store.state ≠ .saving →
          { s with store := { s.store with copy := some s.settings, state := .saving } }.sameButPort t
            ∧ s.answered t (.mgmtResp tag 0x09 .accepted [])))
  ∧ ∀ s : State, s.store.state = .saving →
      completes (exec .saveCompletion s) fun t =>
        t.store = { s.store with state := .valid, interrupted := false } ∧ s.raises t .storeDone
          ∧ t.settings = s.settings ∧ t.stations = s.stations ∧ t.faults = s.faults

/-- A management request that finds fewer than two entries of the upstream queue free is discarded: UPSTREAM_FULL carries its
tag and request code, and nothing it names changes (R43). A request of the wrong shape is refused BAD_REQUEST and changes
nothing: parameters where there should be none, the wrong number of them, a code or a number outside its list, a slot above 15
among them, or a request code that names no request (R121, R182, R200; the seven bytes of SLOT_SUBSTITUTE rest on log entry 40,
the two of FAULT_CLEAR on log entry 41). -/
def Obligations.RequestsTurnedAway : Prop :=
  ∀ (c : Instr) (tag code : Byte) (params : List Byte) (s : State), requestParts c = some (tag, code, params) →
    (31 ≤ s.upQueue.length →
      exec c s =
        .next (examine (recordFault .upstream .upstreamFull (BitVec.ofNat 32 (tag.toNat + 256 * code.toNat)) s)))
    ∧ (s.upQueue.length ≤ 30 →
      ((code.toNat ∈ [0x01, 0x03, 0x07, 0x08, 0x09, 0x0A, 0x0B, 0x10, 0x13, 0x19] ∧ params ≠ [])
        ∨ (code.toNat ∈ [0x02, 0x0E, 0x12, 0x15, 0x16, 0x17, 0x18] ∧ params.length ≠ 1)
        ∨ (code.toNat ∈ [0x06, 0x0C, 0x0D, 0x0F, 0x14] ∧ params.length ≠ 2)
        ∨ (code = 0x04 ∧ params.length ≠ 3) ∨ (code = 0x11 ∧ params.length ≠ 7)
        ∨ (code = 0x0F ∧ ∃ b ∈ params, 1 < b.toNat)
        ∨ (∃ b, code = 0x18 ∧ params = [b] ∧ 2 < b.toNat)
        ∨ (∃ b, code = 0x15 ∧ params = [b] ∧ 6 < b.toNat)
        ∨ (∃ b, (code = 0x02 ∨ code = 0x0E) ∧ params = [b] ∧ 7 < b.toNat)
        ∨ (∃ b, code = 0x12 ∧ params = [b] ∧ 15 < b.toNat)
        ∨ (∃ b rest, code = 0x11 ∧ params = b :: rest ∧ 15 < b.toNat)
        ∨ (∃ b, code = 0x17 ∧ params = [b] ∧ 31 < b.toNat)
        ∨ (∃ n b, (code = 0x0C ∨ code = 0x0D) ∧ params = [n, b] ∧ 7 < n.toNat)
        ∨ (∃ n b, (code = 0x0C ∨ code = 0x0D) ∧ params = [n, b] ∧ (b = 0 ∨ 3 < b.toNat))
        ∨ ∃ ps, c = .unknownRequestCode tag code ps) →
      completes (exec c s) fun t => s.sameButPort t ∧ s.answered t (.mgmtResp tag code .badRequest []))

/-- IDENTIFY is answered DONE with the part and revision codes, the node address, the last reset, the warm reset count, the
count and the store state; STATION_READ of a station above 7 is refused BAD_REQUEST (R189, R190, R199; the codes of the store
state and of the last reset are log entry 26). TABLE_READ: refused BAD_REQUEST for a table code above 6, a first record that
is no index, and a count of 0 or one above the table's record count; otherwise DONE with the records in order, wrapping from
the last to record 0, in every state, each record with its fields in the order of its table and in the sizes of R199; nothing
changes (R49, R67, R105, R128, R152, R184, R187; the count byte of the list is log entry 11). -/
def Obligations.ReadRequests : Prop :=
  ∀ (tag : Byte) (s : State), s.upstreamShort = false →
    (completes (exec (.identify tag []) s) fun t =>
      s.sameButPort t ∧ s.answered t (.mgmtResp tag 0x03 .done
        (([0x72, 0x16, 0x00, 0x01, s.nodeAddress, (if s.lastReset = .por then 0 else 1)] : List Byte)
          ++ [BitVec.ofNat 8 (s.warmCount / 256), BitVec.ofNat 8 s.warmCount]
          ++ [s.now.extractLsb' 24 8, s.now.extractLsb' 16 8, s.now.extractLsb' 8 8, s.now.extractLsb' 0 8]
          ++ [match s.store.state with | .valid => (0 : Byte) | .invalid => 1 | .saving => 2])))
    ∧ (∀ b : Byte, 7 < b.toNat →
        completes (exec (.stationRead tag [b]) s) fun t =>
          s.sameButPort t ∧ s.answered t (.mgmtResp tag 0x02 .badRequest []))
    ∧ ∀ table first count : Byte,
        let records := [8, 8, 1, 4, 1, 17, 32].getD table.toNat 0
        let record := fun k : Nat => (match table.toNat with
          | 0 => (s.shadow.cells[k]?.map envelopeBytes).getD []
          | 1 => (s.settings.active.cells[k]?.map envelopeBytes).getD []
          | 2 => budgetBytes s.settings.budget
          | 3 => (s.settings.wind.cells[k]?.map windBytes).getD []
          | 4 => timingBytes s.settings.timing
          | 5 => if k = 16 then headerBytes s.settings.poll.header else (s.settings.poll.slots.cells[k]?.map slotBytes).getD []
          | _ => (s.settings.zones.cells[k]?.map zoneBytes).getD [])
        completes (exec (.tableRead tag [table, first, count]) s) fun t =>
          s.sameButPort t
          ∧ (6 < table.toNat ∨ records ≤ first.toNat ∨ count = 0 ∨ records < count.toNat →
              s.answered t (.mgmtResp tag 0x04 .badRequest []))
          ∧ (table.toNat ≤ 6 → first.toNat < records → count ≠ 0 → count.toNat ≤ records →
              s.answered t (.mgmtResp tag 0x04 .done
                (count :: (List.range count.toNat).flatMap fun k => record ((first.toNat + k) % records))))

/-- STATUS_READ and STATION_READ are answered DONE with every field of their groups, in the order in which the rules list
them, and change nothing (R18, R48, R103, R108, R151, R155, R181, R188, R189, R199, R201). What R199 and R201 leave open of
these bytes is the model's choice: the counts, the scale and the watts of STATUS_READ (log entry 8), the places and forms of
some fields of STATION_READ (log entries 9, 34, 35, 36; the yes-or-no byte of each zone's commanded bit is log entry 9), the
codes that no table gives (log entry 26), the calibrated value (log entry 40), and that no count byte stands before the
stations, the slots and the zones (log entry 42). -/
def Obligations.StatusAndStationReads : Prop :=
  ∀ (tag b : Byte) (n : StationId) (s : State), s.upstreamShort = false →
    let time := fun t : Time => be 4 t.toNat
    let pair := fun p : Int × Int => be 4 p.1 ++ be 4 p.2
    let scope := fun x : Scope => be 1 (setValue [x.drive, x.heat])
    let authority := fun m : StationId =>
      positionOf [Authority.absent, .held, .locked, .clearing, .stopped, .stowPending, .stowWarning, .stowMoving, .stowStowed,
          .coasting, .tracking, .idle] (s.authority m)
        ++ yesByte ((s.station m).progress == .pending
          && [Authority.absent, .held, .locked, .clearing, .stopped].contains (s.authority m))
        ++ positionOf [StowProgress.none, .pending, .warning, .moving, .stowed] (s.station m).progress
    let inService := fun i : SlotId => (s.slot i).state == .active || (s.slot i).state == .substituted
    let gust := fun ring : List Int => (ring.drop (ring.length - 8)).max?
    let sustained := fun ring : List Int => if ring = [] then none else some (ring.sum / (ring.length : Int))
    let anemometers := slotIds.filter fun i => (s.slotRecord i).kind == 0 && inService i
    let alloc := positionOf [AllocKind.none, .batch, .stow] s.alloc.kind ++ time s.alloc.time ++ be 1 s.alloc.members
      ++ be 4 s.alloc.demandW ++ be 4 s.alloc.holdW ++ be 4 s.alloc.heatW ++ be 4 s.alloc.roomW ++ be 2 s.alloc.scale
      ++ be 1 s.alloc.shedCount ++ be 4 s.alloc.shedW ++ be 4 s.alloc.headroomW
    let wind := positionOf [WindLevel.calm, .breezy, .gusty, .stow] s.wind.level
      ++ optionalField ((anemometers.filterMap fun i => gust (s.slot i).ring).max?.map (be 2))
      ++ optionalField ((anemometers.filterMap fun i => sustained (s.slot i).ring).max?.map (be 2))
      ++ expiryField s.wind.holdDown ++ expiryField s.wind.blindTimer
      ++ be 1 (setValue [s.wind.causes.wind, s.wind.causes.stormLine, s.wind.causes.blind, s.wind.causes.manual])
    let melt := be 4 (((allZones.filter fun p => (s.zone p.1 p.2).state == .on).map fun p =>
        (s.zoneRecord p.1 p.2).powerW).sum)
      ++ positionOf [MeltMode.auto, .forceOn, .forceOff] s.melt.mode ++ yesByte s.melt.condition
      ++ optionalField (s.melt.stamp.map time)
    let slot := fun i : SlotId =>
      let t := s.slot i
      positionOf [SlotState.idle, .active, .outOfService, .substituted] t.state ++ be 1 t.miss
        ++ optionalField (t.latestRaw.map (be 2))
        ++ optionalField (t.latestValue.map fun p => be 2 p.1 ++ time p.2)
        ++ expiryField (t.substitute.map (·.2))
        ++ (if (s.slotRecord i).kind = 0 then
            optionalField ((gust t.ring).map (be 2)) ++ optionalField ((sustained t.ring).map (be 2))
          else if (s.slotRecord i).kind = 1 then positionOf [Side.unknown, .cold, .warm] t.side
          else [])
    let causes := s.attention.raised
    let order := [Cause.stowChange, .lockChange, .faultNew, .windLevel, .freezeCross, .meltChange, .storeDone]
    let attention := be 1 (setValue (order.map causes.has)) ++ optionalField (s.attention.latched.map (positionOf order))
      ++ be 1 (faultIds.countP fun k => (s.faults.entries.get k).isSome)
      ++ yesByte s.faults.overflow ++ yesByte s.faults.overflowSeen
    let clip := fun c : ClipSet => be 2 (setValue [c.targetClamp, c.rateCap, c.windCap, c.budget, c.heatHeld, c.stale,
      c.lockout, c.stowOverride, c.stopped])
    let st := s.station n
    let zone := fun z : ZoneNum =>
      let zn := s.zone n z
      positionOf [ZoneState.disabled, .off, .wait, .on, .shed, .inhibited, .fault] zn.state
        ++ optionalField ((if zn.state = .on then zn.onStart else zn.offStart).map time)
        ++ optionalField (zn.faultReason.map (positionOf [ZoneFaultReason.overtemp, .contactor]))
        ++ optionalField ((slotIds.find? fun i =>
            (s.slotRecord i).enabled == 1 && (s.slotRecord i).kind == 2 && (s.slotRecord i).station.toNat == n.val
              && (s.slotRecord i).zoneMask.getLsbD z.val).map fun i => be 1 i.val)
        ++ yesByte (st.commandedMask.getLsbD z.val)
    (completes (exec (.statusRead tag []) s) fun t =>
      s.sameButPort t ∧ s.answered t (.mgmtResp tag 0x01 .done
        ([s.nodeAddress] ++ time s.now ++ stationIds.flatMap authority ++ alloc ++ wind ++ melt
          ++ positionOf [ScanState.idle, .polling, .gap, .stopping] s.scanner.state
          ++ positionOf [ScanMode.once, .continuous] s.scanner.mode
          ++ positionOf [PassOrder.sequential, .paired] s.scanner.order ++ slotIds.flatMap slot
          ++ positionOf [StoreState.valid, .invalid, .saving] s.store.state ++ yesByte s.lockdown ++ attention)))
    ∧ (b.toNat = n.val →
        completes (exec (.stationRead tag [b]) s) fun t =>
          s.sameButPort t ∧ s.answered t (.mgmtResp tag 0x02 .done
            (authority n ++ yesByte st.installed ++ be 1 (if st.link.isUp then 0 else 1)
              ++ be 1 st.holders.length ++ st.holders.flatMap (fun h => be 2 h.badge.toNat ++ scope h.scope)
              ++ yesByte st.lockReportSeen ++ expiryField st.clearing
              ++ be 1 (st.holders.countP (·.scope.drive)) ++ be 1 (st.holders.countP (·.scope.heat))
              ++ positionOf [FaultLatch.none, .overrun, .driveFault] st.faultLatch
              ++ expiryField st.warnTimer ++ optionalField (st.stowStart.map time) ++ expiryField st.stowTimeout
              ++ optionalField (if st.demand.cls = .stow then some (pair (st.demand.azTarget, st.demand.elTarget)) else none)
              ++ expiryField st.freshness ++ yesByte st.stale
              ++ positionOf [DemandClass.none, .track, .stow] st.demand.cls ++ be 2 st.demand.azSpeed ++ be 2 st.demand.elSpeed
              ++ pair (st.demand.azTarget, st.demand.elTarget) ++ be 4 st.demand.watts
              ++ be 2 st.grant.azSpeed ++ be 2 st.grant.elSpeed ++ be 4 st.grant.watts
              ++ optionalField (st.lastTelemetry.map fun p => be 4 p.az ++ be 4 p.el ++ yesByte p.energised
                ++ yesByte p.driveFault ++ yesByte p.pinEngaged ++ be 1 p.contactors.toNat ++ time p.time)
              ++ optionalField (st.lastSent.map pair) ++ clip st.clipStatus ++ clip st.clipLog ++ zoneNums.flatMap zone)))

/-- TABLE_WRITE: refused BAD_REQUEST for a wrong shape (no table, ENVELOPE_ACTIVE, a first record that is no index, a count
of 0 or above 32, records of another length than the count's), LOCKED_DOWN for ENVELOPE_SHADOW and WIND under lockdown, BUSY
while SAVING and for POLL_LIST while the scanner is not IDLE, INVALID with the index and check of a failing TIMING or BUDGET
record, each with no change. Accepted records replace those at their indices in order, wrapping to index 0, so that the last
one placed at an index stands, and a BUDGET write sheds until H + R is within C (R169, R185, R186, R187, R70; the count byte
of the list is log entry 11). The bytes that TABLE_READ gives for an envelope entry, a BUDGET or a TIMING record whose fields
fit their sizes are read back as that record (R199). -/
def Obligations.TableWrites : Prop :=
  (∀ e : Envelope, envelopeFits e → envelopeOfBytes (envelopeBytes e) = e)
  ∧ (∀ r : Budget, fits 4 r.capacity → fits 4 r.reserve → budgetOfBytes (budgetBytes r) = r)
  ∧ (∀ r : Timing, (∀ ms ∈ timingTimes r, fits 4 ms) → timingOfBytes (timingBytes r) = r)
  ∧ ∀ (tag table first count : Byte) (bs : List Byte) (s : State), s.upstreamShort = false →
    let busy := fun (table : Byte) (code : RespCode) =>
      completes (exec (.tableWrite tag (table :: first :: count :: bs)) s) fun t =>
        s.sameButPort t ∧ s.answered t (.mgmtResp tag 0x05 code [])
    let shaped := fun (records size : Nat) =>
      first.toNat < records ∧ 1 ≤ count.toNat ∧ count.toNat ≤ 32 ∧ bs.length = count.toNat * size
    (shaped 8 44 → s.lockdown = true → busy 0 .lockedDown)
    ∧ (shaped 4 16 → s.lockdown = true → busy 3 .lockedDown)
    ∧ (shaped 8 44 → s.lockdown = false → s.store.state = .saving → busy 0 .busy)
    ∧ (shaped 4 16 → s.lockdown = false → s.store.state = .saving → busy 3 .busy)
    ∧ (shaped 1 9 → s.store.state = .saving → busy 2 .busy)
    ∧ (shaped 1 48 → s.store.state = .saving → busy 4 .busy)
    ∧ (shaped 17 18 → s.store.state = .saving ∨ s.scanner.state ≠ .idle → busy 5 .busy)
    ∧ (shaped 32 18 → s.store.state = .saving → busy 6 .busy)
    ∧ (6 < table.toNat ∨ table = 1 ∨ [8, 8, 1, 4, 1, 17, 32].getD table.toNat 0 ≤ first.toNat ∨ count = 0
        ∨ 32 < count.toNat ∨ bs.length ≠ count.toNat * [44, 44, 9, 16, 48, 18, 18].getD table.toNat 0 →
        busy table .badRequest)
    ∧ (bs.length < 3 →
        completes (exec (.tableWrite tag bs) s) fun t =>
          s.sameButPort t ∧ s.answered t (.mgmtResp tag 0x05 .badRequest []))
    ∧ (shaped 8 44 → s.lockdown = false → s.store.state ≠ .saving →
        completes (exec (.tableWrite tag (0 :: first :: count :: bs)) s) fun t =>
          (∀ n : StationId, ∀ k < count.toNat, lastPlaced first.toNat count.toNat 8 n.val k →
            t.shadow.get n = envelopeOfBytes ((bs.drop (44 * k)).take 44))
          ∧ (∀ n : StationId, notPlaced first.toNat count.toNat 8 n.val → t.shadow.get n = s.shadow.get n)
          ∧ { s with shadow := t.shadow }.sameButPort t ∧ s.answered t (.mgmtResp tag 0x05 .done []))
    ∧ (shaped 1 48 → s.store.state ≠ .saving →
        let bs' := bs.drop (48 * (count.toNat - 1))
        completes (exec (.tableWrite tag (4 :: first :: count :: bs)) s) fun t =>
          (∀ k, timingFailing (timingOfBytes bs') = some k →
            s.sameButPort t ∧ s.answered t (.mgmtResp tag 0x05 .invalid [0, BitVec.ofNat 8 k]))
          ∧ (timingFailing (timingOfBytes bs') = none →
              { s with settings := { s.settings with timing := timingOfBytes bs' } }.sameButPort t
                ∧ s.answered t (.mgmtResp tag 0x05 .done [])))
    ∧ (shaped 1 9 → s.store.state ≠ .saving →
        let bs' := bs.drop (9 * (count.toNat - 1))
        completes (exec (.tableWrite tag (2 :: first :: count :: bs)) s) fun t =>
          (∀ k, budgetFailing (budgetOfBytes bs') = some k →
            s.sameButPort t ∧ s.answered t (.mgmtResp tag 0x05 .invalid [0, BitVec.ofNat 8 k]))
          ∧ (budgetFailing (budgetOfBytes bs') = none →
              t.settings = { s.settings with budget := budgetOfBytes bs' } ∧ t.alloc = s.alloc
                ∧ t.heatLoad + t.settings.budget.reserve ≤ t.settings.budget.capacity
                ∧ s.answered t (.mgmtResp tag 0x05 .done [])))

/-- TABLE_WRITE of WIND, POLL_LIST and ZONES. Several records: each is placed in order, wrapping to index 0, the last one at
an index stands, the lowest standing index that fails is answered INVALID with its check, and accepted they replace what stood
there; record 16 of POLL_LIST is the header, examined last. One record: INVALID with its index and failing check, or BUSY
where it changes the power of a zone that is ON; accepted, it replaces the record. The bytes that TABLE_READ gives for a
record whose fields fit are read back as that record. WIND: the level is evaluated with the new table while an anemometer is
in service: it rises at once or stands, the hold-down stands, is cancelled or starts by the new release condition; a change
raises WIND_LEVEL, one into STOW adds WIND and may activate the stow; nothing else changes. POLL_LIST: a written slot is IDLE
without miss count, substitute, ring or side; where an anemometer in service was written, the level is evaluated over those
left, or, where none is, the blind timer starts and the hold-down is cancelled; the melt condition is evaluated, and the want
of every zone whose surface slot changed or left service, or of all where the condition changed. ZONES: a disabled zone is
DISABLED, one newly enabled INHIBITED under a heat block and otherwise OFF with its off-time satisfied, or WAIT where it wants
heat, and one that stays enabled keeps its state, FAULT included, has expiries that the new times put in the past handled, and
its want evaluated. No other zone changes (R106, R107, R120, R129, R131, R133 to R135, R138, R153, R154, R156, R159, R185,
R186, R199; the count byte is log entry 11, check 6 of WIND log entry 12, the whole write handed over once log entry 14, that a
stow-start time stands log entry 18, that precipitation is recent until the hold's expiry is taken log entry 31, what a written
slot keeps log entry 32). -/
def Obligations.TableWriteConsumers : Prop :=
  (∀ (j : Fin 4) (w : WindRecord), windFits w → windOfBytes j.val (windBytes w) = windAt j w)
  ∧ (∀ r : SlotRecord, slotFits r → slotOfBytes (slotBytes r) = r)
  ∧ (∀ (h : PollHeader) (rest : List Byte),
      headerOfBytes (headerBytes h) = h ∧ headerOfBytes (h.autostart :: h.order :: rest) = h)
  ∧ (∀ r : ZoneRecord, zoneFits r → zoneOfBytes (zoneBytes r) = r)
  ∧ ∀ (tag first count : Byte) (bs : List Byte) (s : State), s.upQueue.length ≤ 30 → s.store.state ≠ .saving →
    let invalid := fun (t : State) (check : Nat) =>
      s.sameButPort t ∧ s.answered t (.mgmtResp tag 0x05 .invalid [first, BitVec.ofNat 8 check])
    let fails := fun (t : State) (index check : Nat) =>
      s.sameButPort t ∧ s.answered t (.mgmtResp tag 0x05 .invalid [BitVec.ofNat 8 index, BitVec.ofNat 8 check])
    let shaped := fun (records size : Nat) =>
      first.toNat < records ∧ 1 ≤ count.toNat ∧ count.toNat ≤ 32 ∧ bs.length = count.toNat * size
    let stands := fun (records j k : Nat) => lastPlaced first.toNat count.toNat records j k
    let absent := fun (records j : Nat) => notPlaced first.toNat count.toNat records j
    let record := fun (size k : Nat) => (bs.drop (size * k)).take size
    let serving := fun (u : State) (kind : Byte) (j : SlotId) =>
      (u.slotRecord j).kind = kind ∧ ((u.slot j).state = .active ∨ (u.slot j).state = .substituted)
    let lost := fun (kind : Byte) (j : SlotId) => serving s kind j ∧ ¬absent 17 j.val
    let levelled := fun (w : Tab 4 WindRecord) (t : State) =>
      { s with settings := { s.settings with wind := w }, responder := none, wind := t.wind }.sameButStations t
      ∧ t.wind = { s.wind with
          level := t.wind.level, holdDown := t.wind.holdDown, refresh := t.wind.refresh
          causes := { s.wind.causes with wind := t.wind.causes.wind } }
      ∧ (s.worstGust = none → t.wind = s.wind)
      ∧ State.levelFollows { s with settings := { s.settings with wind := w } } t
      ∧ (t.wind.level = s.wind.level → s.silent t .windLevel)
      ∧ s.stowFollows t
      ∧ (s.stowActive = t.stowActive →
          t.stations = s.stations ∧ t.faults = s.faults ∧ t.wind.refresh = s.wind.refresh)
    (∀ w : Tab 4 WindRecord, shaped 4 16 → s.lockdown = false →
      (∀ j : Fin 4, ∀ k < count.toNat, stands 4 j.val k → w.get j = windOfBytes j.val (record 16 k)) →
      (∀ j : Fin 4, absent 4 j.val → w.get j = s.settings.wind.get j) →
      completes (exec (.tableWrite tag (3 :: first :: count :: bs)) s) fun t =>
        (∀ j : Fin 4, ¬absent 4 j.val → (∀ i < j, ¬absent 4 i.val → windFailing w i = none) →
          ∀ check ∈ windFailing w j, fails t j.val check)
        ∧ ((∀ j : Fin 4, ¬absent 4 j.val → windFailing w j = none) →
            t.settings = { s.settings with wind := w } ∧ s.answered t (.mgmtResp tag 0x05 .done []) ∧ levelled w t))
    ∧ (∀ p : PollList, shaped 17 18 → s.scanner.state = .idle →
        (∀ j : SlotId, ∀ k < count.toNat, stands 17 j.val k → p.slots.get j = slotOfBytes (record 18 k)) →
        (∀ j : SlotId, absent 17 j.val → p.slots.get j = s.settings.poll.slots.get j) →
        (∀ k < count.toNat, stands 17 16 k → p.header = headerOfBytes (record 18 k)) →
        (absent 17 16 → p.header = s.settings.poll.header) →
        completes (exec (.tableWrite tag (5 :: first :: count :: bs)) s) fun t =>
          (∀ j : SlotId, ¬absent 17 j.val →
            (∀ i < j, ¬absent 17 i.val → slotFailing (p.slots.get i) = none) →
            ∀ check ∈ slotFailing (p.slots.get j), fails t j.val check)
          ∧ ((∀ j : SlotId, ¬absent 17 j.val → slotFailing (p.slots.get j) = none) → ¬absent 17 16 →
              ∀ check ∈ headerFailing p.header, fails t 16 check)
          ∧ ((∀ j : SlotId, ¬absent 17 j.val → slotFailing (p.slots.get j) = none) →
              (¬absent 17 16 → headerFailing p.header = none) →
              t.settings = { s.settings with poll := p } ∧ s.answered t (.mgmtResp tag 0x05 .done [])
                ∧ { s with
                    settings := t.settings, responder := none, slots := t.slots, wind := t.wind
                    melt := { s.melt with condition := t.melt.condition } }.sameButStations t
                ∧ (∀ j : SlotId, (absent 17 j.val → t.slot j = s.slot j)
                  ∧ (¬absent 17 j.val → t.slot j = { s.slot j with
                      state := .idle, miss := 0, substitute := none, ring := [], side := .unknown }))
                ∧ ((¬∃ j, lost 0 j) → t.wind = s.wind)
                ∧ ((∃ j, lost 0 j) → (∀ j, ¬serving t 0 j) →
                    t.wind = { s.wind with
                      blindTimer := some ⟨s.now, s.settings.timing.blindTimeout⟩, holdDown := none })
                ∧ ((∃ j, lost 0 j) → (∃ j, serving t 0 j) →
                    s.levelFollows t ∧ t.wind.blindTimer = s.wind.blindTimer ∧ s.stowFollows t)
                ∧ t.conditionHolds ∧ (t.melt.condition ≠ s.melt.condition → s.raises t .meltChange)
                ∧ ∀ n, s.marked t n ∧ ∀ z, 0 ≤ (s.zoneRecord n z).hysteresis →
                    let evaluated := t.melt.condition ≠ s.melt.condition ∨ (∃ j, lost 2 j ∧ s.isSurfaceSlot n z j)
                      ∨ ∃ j, ¬(s.isSurfaceSlot n z j ↔ t.isSurfaceSlot n z j)
                    let after := { s with settings := t.settings, slots := t.slots, melt := t.melt }
                    (evaluated → s.follows t n z (after.wants n z = true))
                    ∧ (¬evaluated → t.becomes n z (s.zone n z))))
    ∧ (∀ w : Tab 32 ZoneRecord, shaped 32 18 →
        (∀ j : Fin 32, ∀ k < count.toNat, stands 32 j.val k → w.get j = zoneOfBytes (record 18 k)) →
        (∀ j : Fin 32, absent 32 j.val → w.get j = s.settings.zones.get j) →
        completes (exec (.tableWrite tag (6 :: first :: count :: bs)) s) fun t =>
          let held := ∃ n z, (s.zone n z).state = .on ∧ (w.get (zoneIndex n z)).powerW ≠ (s.zoneRecord n z).powerW
          (∀ j : Fin 32, ¬absent 32 j.val → (∀ i < j, ¬absent 32 i.val → zoneFailing (w.get i) = none) →
            ∀ check ∈ zoneFailing (w.get j), fails t j.val check)
          ∧ ((∀ j : Fin 32, ¬absent 32 j.val → zoneFailing (w.get j) = none) → held →
              s.sameButPort t ∧ s.answered t (.mgmtResp tag 0x05 .busy []))
          ∧ ((∀ j : Fin 32, ¬absent 32 j.val → zoneFailing (w.get j) = none) → ¬held →
              t.settings = { s.settings with zones := w } ∧ s.answered t (.mgmtResp tag 0x05 .done [])
              ∧ { s with settings := t.settings, responder := none }.sameButStations t
              ∧ ∀ n, { s.station n with zones := (t.station n).zones }.sameButPort (t.station n) ∧ s.marked t n
                ∧ ∀ z,
                  let zn := s.zone n z
                  let zr := w.get (zoneIndex n z)
                  let after := { s with settings := { s.settings with zones := w } }
                  let wants := after.wants n z = true
                  let off := { zn with state := .off, onStart := none, minOnReached := false, offStart := none }
                  let elapsed := fun start : Time => (s.now - start).toNat
                  let handled := { zn with
                    minOnReached := zn.state == .on
                      && (zn.minOnReached || zn.onStart.any fun start => decide (zr.minOn ≤ elapsed start))
                    offStart := zn.offStart.filter fun start => decide (elapsed start < zr.minOff) }
                  (absent 32 (zoneIndex n z).val → t.becomes n z zn)
                  ∧ (¬absent 32 (zoneIndex n z).val →
                      (isYes zr.enabled = false → t.zone n z = {
                          state := .disabled, onStart := none, minOnReached := false
                          offStart := if zn.state = .on then some s.now else zn.offStart
                          faultReason := none, mismatch := none })
                      ∧ (isYes zr.enabled = true → isYes (s.zoneRecord n z).enabled = false →
                          (heatBlock (s.station n) = true → t.becomes n z { off with state := .inhibited })
                          ∧ (heatBlock (s.station n) = false → zn.state = .disabled →
                              (wants → t.becomes n z { off with state := .wait })
                              ∧ (¬wants → t.becomes n z off)))
                      ∧ (isYes zr.enabled = true → isYes (s.zoneRecord n z).enabled = true →
                          (after.updZone n z fun _ => handled).follows t n z wants))))
    ∧ (∀ k : Fin 4, first.toNat = k.val → bs.length = 16 → s.lockdown = false →
      let w := s.settings.wind.set k (windOfBytes k.val bs)
      completes (exec (.tableWrite tag (3 :: first :: 1 :: bs)) s) fun t =>
        (∀ check, windFailing w k = some check → invalid t check)
        ∧ (windFailing w k = none →
            { s with settings := { s.settings with wind := w }, responder := none, wind := t.wind }.sameButStations t
              ∧ s.answered t (.mgmtResp tag 0x05 .done [])
              ∧ (s.worstGust = none → t.wind = s.wind)
              ∧ levelled w t
              ∧ ∀ g, s.worstGust = some g → ∀ u, s.worstSustained = some u →
                t.wind.level = if levelIndex s.wind.level < levelIndex (targetLevel w g u) then targetLevel w g u
                  else s.wind.level))
    ∧ (∀ i : SlotId, first.toNat = i.val → bs.length = 18 → s.scanner.state = .idle →
        completes (exec (.tableWrite tag (5 :: first :: 1 :: bs)) s) fun t =>
          (∀ check, slotFailing (slotOfBytes bs) = some check → invalid t check)
          ∧ (slotFailing (slotOfBytes bs) = none →
              { s with
                settings := { s.settings with
                  poll := { s.settings.poll with slots := s.settings.poll.slots.set i (slotOfBytes bs) } }
                responder := none
                slots := t.slots
                wind := t.wind
                melt := t.melt }.sameButStations t
                ∧ s.answered t (.mgmtResp tag 0x05 .done [])
                ∧ (t.slot i).state = .idle ∧ (t.slot i).miss = 0 ∧ (t.slot i).substitute = none ∧ (t.slot i).ring = []
                ∧ (t.slot i).side = .unknown
                ∧ (∀ j, j ≠ i → t.slot j = s.slot j)
                ∧ ((s.slotRecord i).kind = 0 → (s.slot i).state = .active ∨ (s.slot i).state = .substituted →
                    (∀ j, ¬((t.slotRecord j).kind = 0
                      ∧ ((t.slot j).state = .active ∨ (t.slot j).state = .substituted))) →
                    t.wind = { s.wind with
                      blindTimer := some ⟨s.now, s.settings.timing.blindTimeout⟩, holdDown := none })))
    ∧ ∀ (n : StationId) (z : ZoneNum), first.toNat = 4 * n.val + z.val → bs.length = 18 →
        completes (exec (.tableWrite tag (6 :: first :: 1 :: bs)) s) fun t =>
          let r := zoneOfBytes bs
          let held := (s.zone n z).state = .on ∧ r.powerW ≠ (s.zoneRecord n z).powerW
          (∀ check, zoneFailing r = some check → invalid t check)
          ∧ (zoneFailing r = none → held →
              s.sameButPort t ∧ s.answered t (.mgmtResp tag 0x05 .busy []))
          ∧ (zoneFailing r = none → ¬held →
              t.settings = { s.settings with zones := s.settings.zones.set (zoneIndex n z) r }
                ∧ s.answered t (.mgmtResp tag 0x05 .done [])
                ∧ (isYes r.enabled = false → (t.zone n z).state = .disabled ∧ (t.zone n z).faultReason = none)
                ∧ (isYes r.enabled = true → isYes (s.zoneRecord n z).enabled = false →
                    heatBlock (s.station n) = true → (t.zone n z).state = .inhibited)
                ∧ s.sameOutside n { t with settings := s.settings, responder := s.responder }
                ∧ ∀ y, y ≠ z → t.zone n y = { s.zone n y with mismatch := (t.zone n y).mismatch })

/-- ENVELOPE_APPLY: refused BAD_SCOPE, LOCKED_DOWN or BUSY as a whole, with no change; executed, it copies the shadow entry of
each APPLIED station of its scope and of no other. Each queued SETPOINT of that station is clamped and capped in its place,
its granted speeds are capped at the new rates, and where installed is unchanged nothing else of its record changes. A station
that it installs starts clearing where its link is UP and its lock report seen, and under active stow is treated as at
activation: PENDING, without demand or grant, its queued setpoints a STOP; one that it uninstalls loses its progress, and,
where it was permitting, its demand, freshness, grants and moving setpoints; of both, holders, latch, telemetry, clip causes
and zones stand. No fault is recorded but for an evicted LOCK_REPLY, and where no station is installed no cause is raised. The
response carries every outcome of the scope with its failing check, and the performed scope (R3, R20, R71 to R75, R97, R138,
R201; the cause that a clearing raises is log entry 37). -/
def Obligations.EnvelopeApply : Prop :=
  ∀ (tag first m : Byte) (s : State), s.upstreamShort = false →
    let misaligned := 3 < m.toNat ∨ 7 < first.toNat ∨ first.toNat % 2 ^ m.toNat ≠ 0
    let inScope := fun n : StationId => first.toNat ≤ n.val ∧ n.val < first.toNat + 2 ^ m.toNat
    let guarded := fun n : StationId => s.authority n = .held ∨ (s.station n).holders ≠ []
    let moving := fun n : StationId => (s.station n).progress = .warning ∨ (s.station n).progress = .moving
    let applied := fun n : StationId => ¬guarded n ∧ ¬moving n ∧ envelopeFailing (s.shadow.get n) = none
    let outcome := fun n : StationId => (
      if guarded n then [0, 0]
      else if moving n then [1, 0]
      else
        match envelopeFailing (s.shadow.get n) with
        | some check => [2, BitVec.ofNat 8 check]
        | none => [3, 0] : List Byte)
    let performed : Byte :=
      if ∀ n, inScope n → applied n then 0 else if ∃ n, inScope n ∧ applied n then 2 else 1
    completes (exec (.envelopeApply tag [first, m]) s) fun t =>
      (misaligned → s.sameButPort t ∧ s.answered t (.mgmtResp tag 0x06 .badScope []))
      ∧ (¬misaligned → s.lockdown = true → s.sameButPort t ∧ s.answered t (.mgmtResp tag 0x06 .lockedDown []))
      ∧ (¬misaligned → s.lockdown = false → s.store.state = .saving →
          s.sameButPort t ∧ s.answered t (.mgmtResp tag 0x06 .busy []))
      ∧ (¬misaligned → s.lockdown = false → s.store.state ≠ .saving →
          { s with settings := { s.settings with active := t.settings.active }, responder := none }.sameButStations t
          ∧ (∀ n, inScope n → applied n →
              let was := s.station n
              (was.installed = isYes (s.shadow.get n).installed → t.station n = recordWithin (s.shadow.get n) was)
                ∧ (was.installed = true → isYes (s.shadow.get n).installed = false → s.uninstalls t n)
                ∧ (was.installed = false → isYes (s.shadow.get n).installed = true → s.installs t n)
                ∧ t.envelope n = s.shadow.get n
                ∧ (t.station n).installed = isYes (s.shadow.get n).installed
                ∧ (t.station n).grant.azSpeed ≤ (s.shadow.get n).azRateMax
                ∧ (t.station n).grant.elSpeed ≤ (s.shadow.get n).elRateMax
                ∧ (∀ sp ∈ queuedSetpoints (t.station n).queue,
                    withinSoft (s.shadow.get n) sp.azTarget sp.elTarget = true
                      ∧ sp.azSpeed ≤ (s.shadow.get n).azRateMax ∧ sp.elSpeed ≤ (s.shadow.get n).elRateMax)
                ∧ (was.installed = false → (t.station n).installed = true →
                    (was.link.isUp = true → was.lockReportSeen = true →
                      (t.station n).clearing = some ⟨s.now, s.settings.timing.clearDelay⟩ ∧ t.authority n = .clearing
                        ∧ s.raises t .lockChange ∧ s.offered t n (.horn true))
                    ∧ (was.link.isUp = false ∨ was.lockReportSeen = false → t.authority n = .held)
                    ∧ (s.stowActive = true → (t.station n).progress = .pending
                        ∧ (t.station n).demand = noDemand ∧ (t.station n).grant = noGrant
                        ∧ (t.station n).freshness = none ∧ (t.station n).stale = false
                        ∧ (was.tx.isSome = true →
                            ∀ sp ∈ queuedSetpoints (t.station n).queue, sp = t.stopSetpoint n)))
                ∧ (was.installed = true → (t.station n).installed = false →
                    t.authority n = .absent ∧ (t.station n).progress = .none ∧ (t.station n).stowTimeout = none
                      ∧ ((s.authority n).permitting = true →
                          (t.station n).demand = noDemand ∧ (t.station n).grant = noGrant
                            ∧ (t.station n).freshness = none ∧ (t.station n).stale = false
                            ∧ ∀ sp ∈ queuedSetpoints (t.station n).queue, sp.moving = false))
                ∧ (was.installed = (t.station n).installed → (t.station n).progress = was.progress
                    ∧ (t.station n).clearing = was.clearing ∧ t.authority n = s.authority n))
          ∧ (∀ n, ¬(inScope n ∧ applied n) → t.envelope n = s.envelope n ∧ t.station n = s.station n)
          ∧ ((∀ n, (s.station n).queue.length ≤ 7) → t.faults = s.faults)
          ∧ ((∀ n, inScope n → applied n → (s.station n).installed = true ∨ isYes (s.shadow.get n).installed = false) →
              t.faults = s.faults ∧ (s.restLaw → t.attention = s.attention))
          ∧ s.answered t (.mgmtResp tag 0x06 .done
            ([first, m] ++ (stationIds.filter fun n => decide (inScope n)).flatMap outcome ++ [performed])))

/-- ENVELOPE_CLEAR_ALL: refused LOCKED_DOWN, BUSY, or PROTECTED while some station is held, has a holder or is in stow motion,
with no change; otherwise both tables are the defaults and no station is installed: each queued SETPOINT and each granted
speed of every station is brought within the default entry, an installed station loses its progress, one that was permitting
also its demand, freshness, grants and moving setpoints, every other field of every record stands, and no cause is raised.
LOCKDOWN_SET: refused BUSY while SAVING, otherwise the flag is set (R3, R20, R74, R77, R78). -/
def Obligations.ClearAllAndLockdown : Prop :=
  ∀ (tag : Byte) (s : State), s.upstreamShort = false →
    let barred := ∃ n, s.authority n = .held ∨ (s.station n).holders ≠ [] ∨ (s.station n).progress = .warning
      ∨ (s.station n).progress = .moving
    (completes (exec (.envelopeClearAll tag []) s) fun t =>
      (s.lockdown = true → s.sameButPort t ∧ s.answered t (.mgmtResp tag 0x07 .lockedDown []))
      ∧ (s.lockdown = false → s.store.state = .saving →
          s.sameButPort t ∧ s.answered t (.mgmtResp tag 0x07 .busy []))
      ∧ (s.lockdown = false → s.store.state ≠ .saving → barred →
          s.sameButPort t ∧ s.answered t (.mgmtResp tag 0x07 .protectedStation
            (stationIds.map fun n =>
              if s.authority n = .held ∨ (s.station n).holders ≠ [] then 1
              else if (s.station n).progress = .warning ∨ (s.station n).progress = .moving then 2 else 0)))
      ∧ (s.lockdown = false → s.store.state ≠ .saving → ¬barred →
          s.answered t (.mgmtResp tag 0x07 .done [])
            ∧ { s with
                settings := { s.settings with active := t.settings.active }
                shadow := t.shadow
                responder := none }.sameButStations t
            ∧ t.faults = s.faults ∧ (s.restLaw → t.attention = s.attention)
            ∧ ∀ n, t.envelope n = defaultEnvelope ∧ t.shadow.get n = defaultEnvelope
              ∧ (t.station n).installed = false ∧ t.authority n = .absent
              ∧ ((s.station n).installed = true → s.uninstalls t n)
              ∧ ((s.station n).installed = false → t.station n = recordWithin defaultEnvelope (s.station n))
              ∧ ((s.station n).installed = true → (t.station n).progress = .none)
              ∧ (t.station n).holders = (s.station n).holders ∧ (t.station n).clearing = (s.station n).clearing
              ∧ (t.station n).faultLatch = (s.station n).faultLatch
              ∧ (t.station n).lastTelemetry = (s.station n).lastTelemetry))
    ∧ completes (exec (.lockdownSet tag []) s) fun t =>
        (s.store.state = .saving → s.sameButPort t ∧ s.answered t (.mgmtResp tag 0x08 .busy []))
        ∧ (s.store.state ≠ .saving →
            { s with lockdown := true }.sameButPort t ∧ s.answered t (.mgmtResp tag 0x08 .done []))

/-- STOW_REQUEST adds MANUAL and STOW_RELEASE removes it, each answered DONE with the set as it then stands, in every state;
where MANUAL stands already, or is absent already, nothing changes, and a release empties the set only where MANUAL was its
last cause; a request that makes the set non-empty activates the stow of every station, and one that empties it releases every
station (R137, R138, R148; that a stow-start time stands until the next entry to MOVING is log entry 18). -/
def Obligations.StowRequests : Prop :=
  ∀ (tag : Byte) (s : State), s.upstreamShort = false →
    (completes (exec (.stowRequest tag []) s) fun t =>
      { s with
          responder := none
          wind := { s.wind with
            causes := { s.wind.causes with manual := true }, refresh := t.wind.refresh } }.sameButStations t
        ∧ t.wind.causes = { s.wind.causes with manual := true } ∧ t.stowActive = true
        ∧ s.answered t (.mgmtResp tag 0x0A .done (encStowCauses { s.wind.causes with manual := true }))
        ∧ (s.wind.causes.manual = true → s.sameButPort t)
        ∧ (s.stowActive = true → t.stations = s.stations)
        ∧ (s.stowActive = false → s.raises t .stowChange)
        ∧ s.stowFollows t)
    ∧ completes (exec (.stowRelease tag []) s) fun t =>
        { s with
            responder := none
            wind := { s.wind with
              causes := { s.wind.causes with manual := false }, refresh := t.wind.refresh } }.sameButStations t
          ∧ t.wind.causes = { s.wind.causes with manual := false }
          ∧ s.answered t (.mgmtResp tag 0x0B .done (encStowCauses { s.wind.causes with manual := false }))
          ∧ (s.wind.causes.manual = false → s.sameButPort t)
          ∧ (t.stowActive = true ↔ (s.wind.causes.wind || s.wind.causes.stormLine || s.wind.causes.blind) = true)
          ∧ (s.wind.causes = { noCauses with manual := true } → s.raises t .stowChange
              ∧ ∀ n, (t.station n).progress = .none)
          ∧ s.stowFollows t
          ∧ (s.stowActive = t.stowActive → t.stations = s.stations ∧ t.faults = s.faults)

/-- REMOTE_LOCK: MERGED, TAKEN or NO_ROOM under badge 0, with the list each leaves and the standing scope in the response.
REMOTE_UNLOCK: RELEASED or NOT_HOLDER. Each DONE also offers the cabinet a LOCK_REPLY for badge 0 with the same outcome and
standing scope; a clearing is cancelled or starts, and the heat block begins or ends, as with a crew badge; a DRIVE claim takes
the motion of a permitting station, with its warning suspended, and where no authority turns so the motion fields stand; every
change of the list or of clearing raises LOCK_CHANGE, whatever the station's authority, and a request that changes neither
raises none (R20, R87, R95 to R98, R101, R140, R163; the outcome codes are log entry 26). -/
def Obligations.RemoteLocks : Prop :=
  ∀ (tag b c : Byte) (n : StationId) (s : State), s.upstreamShort = false → b.toNat = n.val → 1 ≤ c.toNat → c.toNat ≤ 3 →
    let scope : Scope := { drive := c.getLsbD 0, heat := c.getLsbD 1 }
    let hs := (s.station n).holders
    let held := ∃ h ∈ hs, h.badge = 0
    let replied := fun (t : State) (outcome : LockOutcome) (standing : Scope) =>
      s.queueing n → (s.station n).queue.length ≤ 5 →
        .lockReply { badge := 0, outcome := outcome, standing := standing } ∈ (t.station n).queue
    (completes (exec (.remoteLock tag [b, c]) s) fun t =>
      (held → (t.station n).holders =
            hs.map (fun h => if h.badge = 0 then { h with scope := unionScope h.scope scope } else h)
          ∧ s.answered t (.mgmtResp tag 0x0C .done ((1 : Byte) :: encScope (unionScope (standingScope hs 0) scope)))
          ∧ replied t .merged (unionScope (standingScope hs 0) scope))
      ∧ (¬held → hs.length < 6 →
          (t.station n).holders = hs ++ [{ badge := 0, scope := scope }]
            ∧ s.answered t (.mgmtResp tag 0x0C .done [0, c]) ∧ replied t .taken scope)
      ∧ (¬held → 6 ≤ hs.length → s.sameButPort t ∧ s.answered t (.mgmtResp tag 0x0C .noRoom []))
      ∧ (scope.drive = true → hs.length < 6 → (s.authority n).permitting = true → t.authority n = .locked)
      ∧ { s with responder := none }.sameOutside n t
      ∧ { s.station n with
          holders := (t.station n).holders, clearing := (t.station n).clearing
          zones := (t.station n).zones }.sameButMotion (t.station n)
      ∧ s.clearingFollows t n ∧ s.blockFollows t n ∧ s.motionFollows t n ∧ s.lockNews t n)
    ∧ completes (exec (.remoteUnlock tag [b, c]) s) fun t =>
        (held → (t.station n).holders =
            (hs.map fun h => if h.badge = 0 then { h with scope := minusScope h.scope scope } else h).filter
              fun h => !emptyScope h.scope)
        ∧ (held → s.holderLaw →
            s.answered t (.mgmtResp tag 0x0D .done ((2 : Byte) :: encScope (minusScope (standingScope hs 0) scope)))
              ∧ replied t .released (minusScope (standingScope hs 0) scope))
        ∧ (¬held → s.sameButPort t ∧ s.answered t (.mgmtResp tag 0x0D .notHolder []))
        ∧ { s with responder := none }.sameOutside n t
        ∧ { s.station n with
            holders := (t.station n).holders, clearing := (t.station n).clearing
            zones := (t.station n).zones }.sameButMotion (t.station n)
        ∧ s.clearingFollows t n ∧ s.blockFollows t n ∧ s.motionFollows t n ∧ s.lockNews t n

/-- STATION_RESUME: refused WRONG_STATE with NOT_LATCHED, OUTSIDE_LIMITS or DRIVE_FAULT, in that order, with no change;
otherwise the latch is NONE, and under active stow a PENDING station it frees, and one whose warning was suspended, enters
STOW-WARNING with a full warning, while a MOVING or STOWED one takes up its progress; the rest of the record stands.
ZONE_FAULT_CLEAR: refused NOT_FAULT, OVERTEMP while the surface value is at or above overtemp, or CONTACTOR while the
contactor is reported closed; otherwise the zone leaves FAULT, with its off-start as the fault left it, to OFF, or to WAIT
where it wants heat and may have it, or, its off-start set to the event, to INHIBITED under a heat block; no other zone of the
station changes. MELT_MODE_SET: the mode and the condition it gives, and where that changes the want of every zone (R83, R139
to R141, R147, R157 to R159, R163, R167; the off-start under a heat block is log entry 16, the reason bytes 0, 1 and 2 log
entry 26, the condition in the response, as it stands after the evaluation, log entry 21, and that precipitation is recent
until the hold's expiry is taken log entry 31). -/
def Obligations.ResumeAndMeltRequests : Prop :=
  ∀ (tag b : Byte) (n : StationId) (z : ZoneNum) (s : State), s.upstreamShort = false →
    (b.toNat = n.val →
      completes (exec (.stationResume tag [b]) s) fun t =>
        ((s.station n).faultLatch = .none →
          s.sameButPort t ∧ s.answered t (.mgmtResp tag 0x0E .wrongState [0]))
        ∧ ((s.station n).faultLatch ≠ .none → ∀ p, (s.station n).lastTelemetry = some p →
            (withinSoft (s.envelope n) p.az p.el = false →
              s.sameButPort t ∧ s.answered t (.mgmtResp tag 0x0E .wrongState [1]))
            ∧ (withinSoft (s.envelope n) p.az p.el = true → p.driveFault = true →
                s.sameButPort t ∧ s.answered t (.mgmtResp tag 0x0E .wrongState [2])))
        ∧ ((s.station n).faultLatch ≠ .none →
            (∀ p ∈ (s.station n).lastTelemetry, withinSoft (s.envelope n) p.az p.el = true ∧ p.driveFault = false) →
            { s with responder := none }.sameOutside n t
              ∧ ((s.station n).clearing = none ∨ driveCount (s.station n) = 0 →
                  s.stowTakesUp t n { s.station n with faultLatch := .none } (s.authority n = .stopped))
              ∧ s.answered t (.mgmtResp tag 0x0E .done [])
              ∧ (s.authority n = .stopped → s.stowActive = false → (s.station n).demand.cls = .none →
                  (s.station n).stale = false → t.authority n = .idle)))
    ∧ (b.toNat = 4 * n.val + z.val →
        completes (exec (.zoneFaultClear tag [b]) s) fun t =>
          ((s.zone n z).state ≠ .fault →
            s.sameButPort t ∧ s.answered t (.mgmtResp tag 0x17 .wrongState [0]))
          ∧ ((s.zone n z).state = .fault → ∀ i, s.isSurfaceSlot n z i → ∀ p ∈ (s.slot i).latestValue,
              (s.slot i).state = .active ∨ (s.slot i).state = .substituted → (s.zoneRecord n z).overtemp ≤ p.1 →
              s.sameButPort t ∧ s.answered t (.mgmtResp tag 0x17 .wrongState [1]))
          ∧ ((s.zone n z).state = .fault → (∀ v, s.surfaceValue n z = some v → v < (s.zoneRecord n z).overtemp) →
              ∀ p, (s.station n).lastTelemetry = some p → p.contactors.getLsbD z.val = true →
              s.sameButPort t ∧ s.answered t (.mgmtResp tag 0x17 .wrongState [2]))
          ∧ ((s.zone n z).state = .fault → (∀ v, s.surfaceValue n z = some v → v < (s.zoneRecord n z).overtemp) →
              (∀ p, (s.station n).lastTelemetry = some p → p.contactors.getLsbD z.val = false) →
              s.answered t (.mgmtResp tag 0x17 .done []) ∧ (t.zone n z).faultReason = none
                ∧ { s with responder := none }.sameOutside n t
                ∧ t.station n = { s.station n with zones := (t.station n).zones } ∧ t.faults = s.faults
                ∧ (∀ y, y ≠ z → t.zone n y = s.zone n y)
                ∧ (heatBlock (s.station n) = true → t.zone n z = { s.zone n z with
                    state := .inhibited, faultReason := none, offStart := some s.now, onStart := none
                    minOnReached := false })
                ∧ (heatBlock (s.station n) = false →
                    t.zone n z = { s.zone n z with state := (t.zone n z).state, faultReason := none })
                ∧ (heatBlock (s.station n) = false → (t.zone n z).state = .off ∨ (t.zone n z).state = .wait)
                ∧ (heatBlock (s.station n) = false →
                    ((t.zone n z).state = .wait ↔ s.wants n z = true
                      ∧ ∀ start ∈ (s.zone n z).offStart, (s.zoneRecord n z).minOff ≤ (s.now - start).toNat))))
    ∧ ∀ mode : MeltMode, b.toNat = meltModeCode mode →
        completes (exec (.meltModeSet tag [b]) s) fun t =>
          { s with responder := none, melt := { s.melt with mode := mode, condition := t.melt.condition } }.sameButStations t
            ∧ (∀ m, { s.station m with zones := (t.station m).zones }.sameButPort (t.station m))
            ∧ t.melt.condition = (match mode with
                | .forceOn => true
                | .forceOff => false
                | .auto => s.melt.hold.isSome && slotIds.any fun i => s.serves .airTemp i && (s.slot i).side == .cold)
            ∧ s.answered t (.mgmtResp tag 0x18 .done [b, if t.melt.condition then 1 else 0])
            ∧ (t.melt.condition ≠ s.melt.condition → s.raises t .meltChange)
            ∧ s.meltFollows t

/-- SCAN_START in IDLE sets the mode and order and polls slot 0, and is BUSY otherwise; SCAN_STOP leaves GAP for IDLE and
POLLING for STOPPING; SLOT_SUBSTITUTE is refused WRONG_STATE or INVALID, or puts the value in service for its life, enters it
into the ring or moves the side of its kind, and hands it to the consumer of its kind as an accepted value: the level, the melt
condition, or for a surface slot the overtemperature check and the want of every zone it serves; SLOT_RESTORE returns the slot
to IDLE, where it was substituted it leaves service as after a loss, and it is WRONG_STATE for an ACTIVE one (R110, R111, R115,
R120, R121, R123, R125, R126, R127, R131, R156, R158, R164; that precipitation is recent until the hold's expiry is taken is
log entry 31, that the last OVERTEMP report of a station is that of its highest hot zone log entry 21; INVALID without contents
is log entry 33, the two signed bytes of the value log entry 40, the check before the want where the value takes the slot into
service log entry 13). -/
def Obligations.ScanAndSlotRequests : Prop :=
  ∀ (tag mode order b : Byte) (i : SlotId) (s : State), s.upstreamShort = false → b.toNat = i.val →
    (mode.toNat ≤ 1 → order.toNat ≤ 1 →
      completes (exec (.scanStart tag [mode, order]) s) fun t =>
        (s.scanner.state ≠ .idle → s.sameButPort t ∧ s.answered t (.mgmtResp tag 0x0F .busy []))
        ∧ { s with
            responder := none, scanner := t.scanner, slots := t.slots, wind := t.wind, melt := t.melt }.sameButStations t
        ∧ (∀ j, (s.slot j).state ≠ .substituted → t.slot j = s.slot j)
        ∧ (s.scanner.state = .idle → s.answered t (.mgmtResp tag 0x0F .done [])
            ∧ t.scanner.mode = (if mode = 1 then .continuous else .once)
            ∧ t.scanner.order = (if order = 1 then .paired else .sequential)
            ∧ (order = 0 → isYes (s.slotRecord 0).enabled = true → (s.slot 0).state ≠ .substituted →
                t.scanner.state = .polling ∧ t.scanner.transaction = some {
                  frame := .poll (s.slotRecord 0).address
                  awaited := [{ slot := 0, address := (s.slotRecord 0).address, answered := false }]
                  deadline := ⟨s.now, s.settings.timing.pollTimeout⟩ })))
    ∧ (completes (exec (.scanStop tag []) s) fun t =>
        s.answered t (.mgmtResp tag 0x10 .done [])
          ∧ { s with scanner := t.scanner }.sameButPort t
          ∧ t.scanner = (match s.scanner.state with
              | .idle | .stopping => s.scanner
              | .gap => { s.scanner with state := .idle, gapTimer := none }
              | .polling => { s.scanner with state := .stopping }))
    ∧ (∀ (v : BitVec 16) (life : BitVec 32),
        let span := if life = 0 then s.settings.timing.substituteLife else life.toNat
        let r := s.slotRecord i
        let badLife := life ≠ 0 ∧ (life.toNat < 1000 ∨ 600000 < life.toNat)
        let closed := isYes r.enabled = false ∨ (s.slot i).state = .active
        completes (exec (.slotSubstitute tag (b :: word16 v ++ word32 life)) s) fun t =>
          (badLife → s.sameButPort t ∧ s.answered t (.mgmtResp tag 0x11 .invalid []))
          ∧ (¬badLife → closed → s.sameButPort t ∧ s.answered t (.mgmtResp tag 0x11 .wrongState []))
          ∧ (¬badLife → ¬closed → ¬(r.plausLow ≤ v.toInt ∧ v.toInt ≤ r.plausHigh) →
              s.sameButPort t ∧ s.answered t (.mgmtResp tag 0x11 .invalid []))
          ∧ (¬badLife → ¬closed → r.plausLow ≤ v.toInt → v.toInt ≤ r.plausHigh →
              { s with responder := none, slots := t.slots, wind := t.wind, melt := t.melt }.sameButStations t
                ∧ (∀ j, j ≠ i → t.slot j = s.slot j)
                ∧ s.answered t (.mgmtResp tag 0x11 .done (word32 (s.now + BitVec.ofNat 32 span)))
                ∧ (t.slot i).state = .substituted ∧ (t.slot i).miss = 0
                ∧ (t.slot i).substitute = some (v.toInt, ⟨s.now, span⟩)
                ∧ (t.slot i).latestValue = some (v.toInt, s.now)
                ∧ s.valueFollows t i v.toInt))
    ∧ completes (exec (.slotRestore tag [b]) s) fun t =>
        ((s.slot i).state = .active → s.sameButPort t ∧ s.answered t (.mgmtResp tag 0x12 .wrongState []))
        ∧ ((s.slot i).state = .idle → s.sameButPort t ∧ s.answered t (.mgmtResp tag 0x12 .done []))
        ∧ ((s.slot i).state = .outOfService ∨ (s.slot i).state = .substituted →
            s.answered t (.mgmtResp tag 0x12 .done [])
              ∧ { s with responder := none, slots := t.slots, wind := t.wind, melt := t.melt }.sameButStations t
              ∧ (∀ j, j ≠ i → t.slot j = s.slot j)
              ∧ t.slot i = { s.slot i with state := .idle, miss := 0, substitute := none, ring := [], side := .unknown }
              ∧ ((s.slot i).state = .substituted → s.leavesService t i))

/-- FAULT_CLEAR of an entry: BAD_REQUEST for a free entry or another reason, NOT_SEEN for an unseen one, else DONE and the
entry is free (R175). Of index 8: BAD_REQUEST for a clear flag, NOT_SEEN for an unseen one, else both flags are clear,
whichever reason is named (R176). Another index, or a reason code above 13, is BAD_REQUEST; that the index takes one byte is
log entry 41. Nothing else changes, and no cause is raised. CLIP_LOG_CLEAR empties the clip_log of the station it names, or of
all eight for ALL, and writes nothing else, in every state; any other scope is refused BAD_REQUEST with no change (R65,
R201). -/
def Obligations.FaultAndClipLogClears : Prop :=
  ∀ (tag b c : Byte) (i : Fin 8) (s : State), s.upstreamShort = false →
    let refused := fun (t : State) (code : RespCode) => s.sameButPort t ∧ s.answered t (.mgmtResp tag 0x14 code [])
    (completes (exec (.clipLogClear tag [b]) s) fun t =>
      (8 ≤ b.toNat → b ≠ 0xFF → s.sameButPort t ∧ s.answered t (.mgmtResp tag 0x16 .badRequest []))
      ∧ (b.toNat < 8 ∨ b = 0xFF →
          { s with stations := t.stations }.sameButPort t ∧ s.answered t (.mgmtResp tag 0x16 .done [])
            ∧ ∀ n, t.station n =
              if b = 0xFF ∨ b.toNat = n.val then { s.station n with clipLog := noClip } else s.station n))
    ∧ completes (exec (.faultClear tag [b, c]) s) fun t =>
      (8 < b.toNat ∨ 13 < c.toNat → refused t .badRequest)
      ∧ (b.toNat = i.val → c.toNat ≤ 13 →
          (s.faults.entries.get i = none → refused t .badRequest)
          ∧ ∀ e, s.faults.entries.get i = some e →
            (reasonCode e.reason ≠ c.toNat → refused t .badRequest)
            ∧ (reasonCode e.reason = c.toNat → e.seen = false → refused t .notSeen)
            ∧ (reasonCode e.reason = c.toNat → e.seen = true →
                { s with faults := { s.faults with entries := s.faults.entries.set i none } }.sameButPort t
                  ∧ s.answered t (.mgmtResp tag 0x14 .done [])))
      ∧ (b = 8 → c.toNat ≤ 13 →
          (s.faults.overflow = false → refused t .badRequest)
          ∧ (s.faults.overflow = true → s.faults.overflowSeen = false → refused t .notSeen)
          ∧ (s.faults.overflow = true → s.faults.overflowSeen = true →
              { s with faults := { s.faults with overflow := false, overflowSeen := false } }.sameButPort t
                ∧ s.answered t (.mgmtResp tag 0x14 .done [])))

/-- FAULT_READ: the response carries the eight entries in index order, 17 bytes each: a valid one as valid, with its seen
flag, source, reason, first_time, last_time, repeat and detail, a free one as not valid; then the overflow flag and its seen
flag; every seen flag as it stood before the request. Then every valid entry is seen, and a set overflow flag with them.
ALERT_ACK: refused BAD_REQUEST unless it names the latched cause; else DONE, and the highest pending cause, if any, is latched
and its ALERT is offered after the response: it takes the place of an ALERT still queued, or else the tail behind the response
(R174, R179, R180, R199, R201; the unread bytes of a free entry are log entry 6). -/
def Obligations.FaultReadAndAlertAck : Prop :=
  ∀ (tag : Byte) (s : State), s.upstreamShort = false →
    let reasons := [FaultReason.sensorLost, .stowTimeout, .overrun, .driveFault, .contactor, .overtemp, .linkLost, .notHolder,
      .lockFull, .storeInvalid, .queueFull, .upstreamFull, .badFrame, .blind]
    let source := fun f : FaultSource => (match f with
      | .station n => BitVec.ofNat 8 n.val
      | .slot i => BitVec.ofNat 8 (0x10 + i.val)
      | .upstream => 0x20
      | .sensorLine => 0x21
      | .cluster => 0x22 : Byte)
    let entry := fun e : FaultEntry =>
      yesByte true ++ yesByte e.seen ++ [source e.source] ++ positionOf reasons e.reason ++ be 4 e.firstTime.toNat
        ++ be 4 e.lastTime.toNat ++ be 1 e.repeats ++ be 4 e.detail.toNat
    (completes (exec (.faultRead tag []) s) fun t =>
      (∃ contents : List Byte, s.answered t (.mgmtResp tag 0x13 .done contents)
        ∧ contents.length = 138
        ∧ (∀ (i : Fin 8) (e : FaultEntry), s.faults.entries.get i = some e →
            (contents.drop (17 * i.val)).take 17 = entry e)
        ∧ (∀ i : Fin 8, s.faults.entries.get i = none → (contents.drop (17 * i.val)).take 1 = yesByte false)
        ∧ contents.drop 136 = yesByte s.faults.overflow ++ yesByte s.faults.overflowSeen)
        ∧ { s with faults := t.faults, freeCount := t.freeCount }.sameButPort t
        ∧ (∀ (i : Fin 8) (e : FaultEntry), s.faults.entries.get i = some e →
            t.faults.entries.get i = some { e with seen := true })
        ∧ (∀ i : Fin 8, s.faults.entries.get i = none → t.faults.entries.get i = none)
        ∧ t.faults.overflow = s.faults.overflow
        ∧ t.faults.overflowSeen = (s.faults.overflow || s.faults.overflowSeen))
    ∧ ∀ k : Cause,
        completes (exec (.alertAck tag (encU8 (causeCode k))) s) fun t =>
          (s.attention.latched ≠ some k →
            s.sameButPort t ∧ s.answered t (.mgmtResp tag 0x15 .badRequest []))
          ∧ (s.attention.latched = some k →
              t = { s with responder := none, upQueue := t.upQueue, upTx := t.upTx, attention := t.attention }
                ∧ { s with attention := { s.attention with latched := none } }.answered t (.mgmtResp tag 0x15 .done [])
                ∧ t.attention.latched = s.attention.raised.highest
                ∧ ∀ next, s.attention.raised.highest = some next →
                    t.attention.raised = s.attention.raised.erase next ∧ t.upstreamHolds (t.alertOf next))
end

