-- ==== Sys2Proof/Laws/Table.lean ====
section
/-! SUPPORT. Reading a table after building or writing it, and tables that agree at every index. -/

namespace Sys2Proof.Machine

theorem Tab.get_set_self {n : Nat} {α : Type} (t : Tab n α) (i : Fin n) (a : α) : (t.set i a).get i = a :=
  List.getElem_set_self _

theorem Tab.get_set_ne {n : Nat} {α : Type} (t : Tab n α) {i j : Fin n} (a : α) (h : j ≠ i) :
    (t.set i a).get j = t.get j := by
  have hv : i.val ≠ j.val := fun e => h (Fin.ext e.symm)
  exact List.getElem_set_ne hv _

@[simp] theorem Tab.get_set {n : Nat} {α : Type} (t : Tab n α) (i j : Fin n) (a : α) :
    (t.set i a).get j = if j = i then a else t.get j := by
  split
  · next h => subst h; exact t.get_set_self j a
  · next h => exact t.get_set_ne a h

@[simp] theorem Tab.get_ofFn {n : Nat} {α : Type} (f : Fin n → α) (i : Fin n) : (Tab.ofFn f).get i = f i :=
  List.getElem_ofFn _

@[simp] theorem Tab.get_fill {n : Nat} {α : Type} (a : α) (i : Fin n) : (Tab.fill n a).get i = a :=
  List.getElem_replicate _

/-- Two tables that agree at every index are equal. -/
theorem Tab.ext_get {n : Nat} {α : Type} {t u : Tab n α} (h : ∀ i, t.get i = u.get i) : t = u := by
  cases t with
  | mk a ha =>
    cases u with
    | mk b hb =>
      have : a = b := by
        apply List.ext_getElem (by rw [ha, hb])
        intro i hi _
        have := h ⟨i, ha ▸ hi⟩
        simpa [Tab.get] using this
      subst this
      rfl

@[simp] theorem Tab.set_get {n : Nat} {α : Type} (t : Tab n α) (i : Fin n) : t.set i (t.get i) = t := by
  apply Tab.ext_get
  intro j
  rw [Tab.get_set]
  split
  · next h => rw [h]
  · rfl

@[simp] theorem mem_stationIds (n : StationId) : n ∈ stationIds := by revert n; decide

@[simp] theorem mem_zoneNums (z : ZoneNum) : z ∈ zoneNums := by revert z; decide

@[simp] theorem mem_slotIds (i : SlotId) : i ∈ slotIds := by revert i; decide

@[simp] theorem mem_faultIds (i : Fin 8) : i ∈ faultIds := by revert i; decide

@[simp] theorem mem_allZones (p : StationId × ZoneNum) : p ∈ allZones := by
  simp [allZones]

theorem nodup_stationIds : stationIds.Nodup := by decide

theorem nodup_allZones : allZones.Nodup := by decide

theorem zoneIndex_injective {n m : StationId} {z y : ZoneNum} (h : zoneIndex n z = zoneIndex m y) : n = m ∧ z = y := by
  simp only [zoneIndex, Fin.mk.injEq] at h
  constructor <;> apply Fin.ext <;> omega

end Sys2Proof.Machine
end

