-- ==== Sys2Proof/Laws/State.lean ====
section
/-! SUPPORT. What each update of the state leaves and gives, field by field: one lemma per field per update, true by
unfolding, so that no proof unfolds a record update. -/

namespace Sys2Proof.Machine

/-! ### updStation -/

@[simp] theorem State.updStation_now (s : State) (n : StationId) (f : Station → Station) : (s.updStation n f).now = s.now := rfl
@[simp] theorem State.updStation_nodeAddress (s : State) (n : StationId) (f : Station → Station) : (s.updStation n f).nodeAddress = s.nodeAddress := rfl
@[simp] theorem State.updStation_lastReset (s : State) (n : StationId) (f : Station → Station) : (s.updStation n f).lastReset = s.lastReset := rfl
@[simp] theorem State.updStation_warmCount (s : State) (n : StationId) (f : Station → Station) : (s.updStation n f).warmCount = s.warmCount := rfl
@[simp] theorem State.updStation_responder (s : State) (n : StationId) (f : Station → Station) : (s.updStation n f).responder = s.responder := rfl
@[simp] theorem State.updStation_settings (s : State) (n : StationId) (f : Station → Station) : (s.updStation n f).settings = s.settings := rfl
@[simp] theorem State.updStation_shadow (s : State) (n : StationId) (f : Station → Station) : (s.updStation n f).shadow = s.shadow := rfl
@[simp] theorem State.updStation_lockdown (s : State) (n : StationId) (f : Station → Station) : (s.updStation n f).lockdown = s.lockdown := rfl
@[simp] theorem State.updStation_store (s : State) (n : StationId) (f : Station → Station) : (s.updStation n f).store = s.store := rfl
@[simp] theorem State.updStation_alloc (s : State) (n : StationId) (f : Station → Station) : (s.updStation n f).alloc = s.alloc := rfl
@[simp] theorem State.updStation_slots (s : State) (n : StationId) (f : Station → Station) : (s.updStation n f).slots = s.slots := rfl
@[simp] theorem State.updStation_scanner (s : State) (n : StationId) (f : Station → Station) : (s.updStation n f).scanner = s.scanner := rfl
@[simp] theorem State.updStation_wind (s : State) (n : StationId) (f : Station → Station) : (s.updStation n f).wind = s.wind := rfl
@[simp] theorem State.updStation_stormInput (s : State) (n : StationId) (f : Station → Station) : (s.updStation n f).stormInput = s.stormInput := rfl
@[simp] theorem State.updStation_melt (s : State) (n : StationId) (f : Station → Station) : (s.updStation n f).melt = s.melt := rfl
@[simp] theorem State.updStation_faults (s : State) (n : StationId) (f : Station → Station) : (s.updStation n f).faults = s.faults := rfl
@[simp] theorem State.updStation_attention (s : State) (n : StationId) (f : Station → Station) : (s.updStation n f).attention = s.attention := rfl
@[simp] theorem State.updStation_upQueue (s : State) (n : StationId) (f : Station → Station) : (s.updStation n f).upQueue = s.upQueue := rfl
@[simp] theorem State.updStation_upTx (s : State) (n : StationId) (f : Station → Station) : (s.updStation n f).upTx = s.upTx := rfl
@[simp] theorem State.updStation_freeCount (s : State) (n : StationId) (f : Station → Station) : (s.updStation n f).freeCount = s.freeCount := rfl
@[simp] theorem State.updStation_pending (s : State) (n : StationId) (f : Station → Station) : (s.updStation n f).pending = s.pending := rfl

/-! ### mapStations -/

@[simp] theorem State.mapStations_now (s : State) (f : StationId → Station → Station) : (s.mapStations f).now = s.now := rfl
@[simp] theorem State.mapStations_nodeAddress (s : State) (f : StationId → Station → Station) : (s.mapStations f).nodeAddress = s.nodeAddress := rfl
@[simp] theorem State.mapStations_lastReset (s : State) (f : StationId → Station → Station) : (s.mapStations f).lastReset = s.lastReset := rfl
@[simp] theorem State.mapStations_warmCount (s : State) (f : StationId → Station → Station) : (s.mapStations f).warmCount = s.warmCount := rfl
@[simp] theorem State.mapStations_responder (s : State) (f : StationId → Station → Station) : (s.mapStations f).responder = s.responder := rfl
@[simp] theorem State.mapStations_settings (s : State) (f : StationId → Station → Station) : (s.mapStations f).settings = s.settings := rfl
@[simp] theorem State.mapStations_shadow (s : State) (f : StationId → Station → Station) : (s.mapStations f).shadow = s.shadow := rfl
@[simp] theorem State.mapStations_lockdown (s : State) (f : StationId → Station → Station) : (s.mapStations f).lockdown = s.lockdown := rfl
@[simp] theorem State.mapStations_store (s : State) (f : StationId → Station → Station) : (s.mapStations f).store = s.store := rfl
@[simp] theorem State.mapStations_alloc (s : State) (f : StationId → Station → Station) : (s.mapStations f).alloc = s.alloc := rfl
@[simp] theorem State.mapStations_slots (s : State) (f : StationId → Station → Station) : (s.mapStations f).slots = s.slots := rfl
@[simp] theorem State.mapStations_scanner (s : State) (f : StationId → Station → Station) : (s.mapStations f).scanner = s.scanner := rfl
@[simp] theorem State.mapStations_wind (s : State) (f : StationId → Station → Station) : (s.mapStations f).wind = s.wind := rfl
@[simp] theorem State.mapStations_stormInput (s : State) (f : StationId → Station → Station) : (s.mapStations f).stormInput = s.stormInput := rfl
@[simp] theorem State.mapStations_melt (s : State) (f : StationId → Station → Station) : (s.mapStations f).melt = s.melt := rfl
@[simp] theorem State.mapStations_faults (s : State) (f : StationId → Station → Station) : (s.mapStations f).faults = s.faults := rfl
@[simp] theorem State.mapStations_attention (s : State) (f : StationId → Station → Station) : (s.mapStations f).attention = s.attention := rfl
@[simp] theorem State.mapStations_upQueue (s : State) (f : StationId → Station → Station) : (s.mapStations f).upQueue = s.upQueue := rfl
@[simp] theorem State.mapStations_upTx (s : State) (f : StationId → Station → Station) : (s.mapStations f).upTx = s.upTx := rfl
@[simp] theorem State.mapStations_freeCount (s : State) (f : StationId → Station → Station) : (s.mapStations f).freeCount = s.freeCount := rfl
@[simp] theorem State.mapStations_pending (s : State) (f : StationId → Station → Station) : (s.mapStations f).pending = s.pending := rfl

/-! ### updZone -/

@[simp] theorem State.updZone_now (s : State) (n : StationId) (z : ZoneNum) (f : Zone → Zone) : (s.updZone n z f).now = s.now := rfl
@[simp] theorem State.updZone_nodeAddress (s : State) (n : StationId) (z : ZoneNum) (f : Zone → Zone) : (s.updZone n z f).nodeAddress = s.nodeAddress := rfl
@[simp] theorem State.updZone_lastReset (s : State) (n : StationId) (z : ZoneNum) (f : Zone → Zone) : (s.updZone n z f).lastReset = s.lastReset := rfl
@[simp] theorem State.updZone_warmCount (s : State) (n : StationId) (z : ZoneNum) (f : Zone → Zone) : (s.updZone n z f).warmCount = s.warmCount := rfl
@[simp] theorem State.updZone_responder (s : State) (n : StationId) (z : ZoneNum) (f : Zone → Zone) : (s.updZone n z f).responder = s.responder := rfl
@[simp] theorem State.updZone_settings (s : State) (n : StationId) (z : ZoneNum) (f : Zone → Zone) : (s.updZone n z f).settings = s.settings := rfl
@[simp] theorem State.updZone_shadow (s : State) (n : StationId) (z : ZoneNum) (f : Zone → Zone) : (s.updZone n z f).shadow = s.shadow := rfl
@[simp] theorem State.updZone_lockdown (s : State) (n : StationId) (z : ZoneNum) (f : Zone → Zone) : (s.updZone n z f).lockdown = s.lockdown := rfl
@[simp] theorem State.updZone_store (s : State) (n : StationId) (z : ZoneNum) (f : Zone → Zone) : (s.updZone n z f).store = s.store := rfl
@[simp] theorem State.updZone_alloc (s : State) (n : StationId) (z : ZoneNum) (f : Zone → Zone) : (s.updZone n z f).alloc = s.alloc := rfl
@[simp] theorem State.updZone_slots (s : State) (n : StationId) (z : ZoneNum) (f : Zone → Zone) : (s.updZone n z f).slots = s.slots := rfl
@[simp] theorem State.updZone_scanner (s : State) (n : StationId) (z : ZoneNum) (f : Zone → Zone) : (s.updZone n z f).scanner = s.scanner := rfl
@[simp] theorem State.updZone_wind (s : State) (n : StationId) (z : ZoneNum) (f : Zone → Zone) : (s.updZone n z f).wind = s.wind := rfl
@[simp] theorem State.updZone_stormInput (s : State) (n : StationId) (z : ZoneNum) (f : Zone → Zone) : (s.updZone n z f).stormInput = s.stormInput := rfl
@[simp] theorem State.updZone_melt (s : State) (n : StationId) (z : ZoneNum) (f : Zone → Zone) : (s.updZone n z f).melt = s.melt := rfl
@[simp] theorem State.updZone_faults (s : State) (n : StationId) (z : ZoneNum) (f : Zone → Zone) : (s.updZone n z f).faults = s.faults := rfl
@[simp] theorem State.updZone_attention (s : State) (n : StationId) (z : ZoneNum) (f : Zone → Zone) : (s.updZone n z f).attention = s.attention := rfl
@[simp] theorem State.updZone_upQueue (s : State) (n : StationId) (z : ZoneNum) (f : Zone → Zone) : (s.updZone n z f).upQueue = s.upQueue := rfl
@[simp] theorem State.updZone_upTx (s : State) (n : StationId) (z : ZoneNum) (f : Zone → Zone) : (s.updZone n z f).upTx = s.upTx := rfl
@[simp] theorem State.updZone_freeCount (s : State) (n : StationId) (z : ZoneNum) (f : Zone → Zone) : (s.updZone n z f).freeCount = s.freeCount := rfl
@[simp] theorem State.updZone_pending (s : State) (n : StationId) (z : ZoneNum) (f : Zone → Zone) : (s.updZone n z f).pending = s.pending := rfl

/-! ### updSlot -/

@[simp] theorem State.updSlot_now (s : State) (i : SlotId) (f : Slot → Slot) : (s.updSlot i f).now = s.now := rfl
@[simp] theorem State.updSlot_nodeAddress (s : State) (i : SlotId) (f : Slot → Slot) : (s.updSlot i f).nodeAddress = s.nodeAddress := rfl
@[simp] theorem State.updSlot_lastReset (s : State) (i : SlotId) (f : Slot → Slot) : (s.updSlot i f).lastReset = s.lastReset := rfl
@[simp] theorem State.updSlot_warmCount (s : State) (i : SlotId) (f : Slot → Slot) : (s.updSlot i f).warmCount = s.warmCount := rfl
@[simp] theorem State.updSlot_responder (s : State) (i : SlotId) (f : Slot → Slot) : (s.updSlot i f).responder = s.responder := rfl
@[simp] theorem State.updSlot_settings (s : State) (i : SlotId) (f : Slot → Slot) : (s.updSlot i f).settings = s.settings := rfl
@[simp] theorem State.updSlot_shadow (s : State) (i : SlotId) (f : Slot → Slot) : (s.updSlot i f).shadow = s.shadow := rfl
@[simp] theorem State.updSlot_lockdown (s : State) (i : SlotId) (f : Slot → Slot) : (s.updSlot i f).lockdown = s.lockdown := rfl
@[simp] theorem State.updSlot_store (s : State) (i : SlotId) (f : Slot → Slot) : (s.updSlot i f).store = s.store := rfl
@[simp] theorem State.updSlot_stations (s : State) (i : SlotId) (f : Slot → Slot) : (s.updSlot i f).stations = s.stations := rfl
@[simp] theorem State.updSlot_alloc (s : State) (i : SlotId) (f : Slot → Slot) : (s.updSlot i f).alloc = s.alloc := rfl
@[simp] theorem State.updSlot_scanner (s : State) (i : SlotId) (f : Slot → Slot) : (s.updSlot i f).scanner = s.scanner := rfl
@[simp] theorem State.updSlot_wind (s : State) (i : SlotId) (f : Slot → Slot) : (s.updSlot i f).wind = s.wind := rfl
@[simp] theorem State.updSlot_stormInput (s : State) (i : SlotId) (f : Slot → Slot) : (s.updSlot i f).stormInput = s.stormInput := rfl
@[simp] theorem State.updSlot_melt (s : State) (i : SlotId) (f : Slot → Slot) : (s.updSlot i f).melt = s.melt := rfl
@[simp] theorem State.updSlot_faults (s : State) (i : SlotId) (f : Slot → Slot) : (s.updSlot i f).faults = s.faults := rfl
@[simp] theorem State.updSlot_attention (s : State) (i : SlotId) (f : Slot → Slot) : (s.updSlot i f).attention = s.attention := rfl
@[simp] theorem State.updSlot_upQueue (s : State) (i : SlotId) (f : Slot → Slot) : (s.updSlot i f).upQueue = s.upQueue := rfl
@[simp] theorem State.updSlot_upTx (s : State) (i : SlotId) (f : Slot → Slot) : (s.updSlot i f).upTx = s.upTx := rfl
@[simp] theorem State.updSlot_freeCount (s : State) (i : SlotId) (f : Slot → Slot) : (s.updSlot i f).freeCount = s.freeCount := rfl
@[simp] theorem State.updSlot_pending (s : State) (i : SlotId) (f : Slot → Slot) : (s.updSlot i f).pending = s.pending := rfl

/-! ### updScanner -/

@[simp] theorem State.updScanner_now (s : State) (f : Scanner → Scanner) : (s.updScanner f).now = s.now := rfl
@[simp] theorem State.updScanner_nodeAddress (s : State) (f : Scanner → Scanner) : (s.updScanner f).nodeAddress = s.nodeAddress := rfl
@[simp] theorem State.updScanner_lastReset (s : State) (f : Scanner → Scanner) : (s.updScanner f).lastReset = s.lastReset := rfl
@[simp] theorem State.updScanner_warmCount (s : State) (f : Scanner → Scanner) : (s.updScanner f).warmCount = s.warmCount := rfl
@[simp] theorem State.updScanner_responder (s : State) (f : Scanner → Scanner) : (s.updScanner f).responder = s.responder := rfl
@[simp] theorem State.updScanner_settings (s : State) (f : Scanner → Scanner) : (s.updScanner f).settings = s.settings := rfl
@[simp] theorem State.updScanner_shadow (s : State) (f : Scanner → Scanner) : (s.updScanner f).shadow = s.shadow := rfl
@[simp] theorem State.updScanner_lockdown (s : State) (f : Scanner → Scanner) : (s.updScanner f).lockdown = s.lockdown := rfl
@[simp] theorem State.updScanner_store (s : State) (f : Scanner → Scanner) : (s.updScanner f).store = s.store := rfl
@[simp] theorem State.updScanner_stations (s : State) (f : Scanner → Scanner) : (s.updScanner f).stations = s.stations := rfl
@[simp] theorem State.updScanner_alloc (s : State) (f : Scanner → Scanner) : (s.updScanner f).alloc = s.alloc := rfl
@[simp] theorem State.updScanner_slots (s : State) (f : Scanner → Scanner) : (s.updScanner f).slots = s.slots := rfl
@[simp] theorem State.updScanner_wind (s : State) (f : Scanner → Scanner) : (s.updScanner f).wind = s.wind := rfl
@[simp] theorem State.updScanner_stormInput (s : State) (f : Scanner → Scanner) : (s.updScanner f).stormInput = s.stormInput := rfl
@[simp] theorem State.updScanner_melt (s : State) (f : Scanner → Scanner) : (s.updScanner f).melt = s.melt := rfl
@[simp] theorem State.updScanner_faults (s : State) (f : Scanner → Scanner) : (s.updScanner f).faults = s.faults := rfl
@[simp] theorem State.updScanner_attention (s : State) (f : Scanner → Scanner) : (s.updScanner f).attention = s.attention := rfl
@[simp] theorem State.updScanner_upQueue (s : State) (f : Scanner → Scanner) : (s.updScanner f).upQueue = s.upQueue := rfl
@[simp] theorem State.updScanner_upTx (s : State) (f : Scanner → Scanner) : (s.updScanner f).upTx = s.upTx := rfl
@[simp] theorem State.updScanner_freeCount (s : State) (f : Scanner → Scanner) : (s.updScanner f).freeCount = s.freeCount := rfl
@[simp] theorem State.updScanner_pending (s : State) (f : Scanner → Scanner) : (s.updScanner f).pending = s.pending := rfl

/-! ### raise -/

@[simp] theorem raise_now (s : State) (c : Cause) : (raise c s).now = s.now := rfl
@[simp] theorem raise_nodeAddress (s : State) (c : Cause) : (raise c s).nodeAddress = s.nodeAddress := rfl
@[simp] theorem raise_lastReset (s : State) (c : Cause) : (raise c s).lastReset = s.lastReset := rfl
@[simp] theorem raise_warmCount (s : State) (c : Cause) : (raise c s).warmCount = s.warmCount := rfl
@[simp] theorem raise_responder (s : State) (c : Cause) : (raise c s).responder = s.responder := rfl
@[simp] theorem raise_settings (s : State) (c : Cause) : (raise c s).settings = s.settings := rfl
@[simp] theorem raise_shadow (s : State) (c : Cause) : (raise c s).shadow = s.shadow := rfl
@[simp] theorem raise_lockdown (s : State) (c : Cause) : (raise c s).lockdown = s.lockdown := rfl
@[simp] theorem raise_store (s : State) (c : Cause) : (raise c s).store = s.store := rfl
@[simp] theorem raise_stations (s : State) (c : Cause) : (raise c s).stations = s.stations := rfl
@[simp] theorem raise_alloc (s : State) (c : Cause) : (raise c s).alloc = s.alloc := rfl
@[simp] theorem raise_slots (s : State) (c : Cause) : (raise c s).slots = s.slots := rfl
@[simp] theorem raise_scanner (s : State) (c : Cause) : (raise c s).scanner = s.scanner := rfl
@[simp] theorem raise_wind (s : State) (c : Cause) : (raise c s).wind = s.wind := rfl
@[simp] theorem raise_stormInput (s : State) (c : Cause) : (raise c s).stormInput = s.stormInput := rfl
@[simp] theorem raise_melt (s : State) (c : Cause) : (raise c s).melt = s.melt := rfl
@[simp] theorem raise_faults (s : State) (c : Cause) : (raise c s).faults = s.faults := rfl
@[simp] theorem raise_upQueue (s : State) (c : Cause) : (raise c s).upQueue = s.upQueue := rfl
@[simp] theorem raise_upTx (s : State) (c : Cause) : (raise c s).upTx = s.upTx := rfl
@[simp] theorem raise_freeCount (s : State) (c : Cause) : (raise c s).freeCount = s.freeCount := rfl
@[simp] theorem raise_pending (s : State) (c : Cause) : (raise c s).pending = s.pending := rfl

/-! ### setQueue -/

@[simp] theorem setQueue_now (s : State) (n : StationId) (q : List StationEntry) : (setQueue n q s).now = s.now := rfl
@[simp] theorem setQueue_nodeAddress (s : State) (n : StationId) (q : List StationEntry) : (setQueue n q s).nodeAddress = s.nodeAddress := rfl
@[simp] theorem setQueue_lastReset (s : State) (n : StationId) (q : List StationEntry) : (setQueue n q s).lastReset = s.lastReset := rfl
@[simp] theorem setQueue_warmCount (s : State) (n : StationId) (q : List StationEntry) : (setQueue n q s).warmCount = s.warmCount := rfl
@[simp] theorem setQueue_responder (s : State) (n : StationId) (q : List StationEntry) : (setQueue n q s).responder = s.responder := rfl
@[simp] theorem setQueue_settings (s : State) (n : StationId) (q : List StationEntry) : (setQueue n q s).settings = s.settings := rfl
@[simp] theorem setQueue_shadow (s : State) (n : StationId) (q : List StationEntry) : (setQueue n q s).shadow = s.shadow := rfl
@[simp] theorem setQueue_lockdown (s : State) (n : StationId) (q : List StationEntry) : (setQueue n q s).lockdown = s.lockdown := rfl
@[simp] theorem setQueue_store (s : State) (n : StationId) (q : List StationEntry) : (setQueue n q s).store = s.store := rfl
@[simp] theorem setQueue_alloc (s : State) (n : StationId) (q : List StationEntry) : (setQueue n q s).alloc = s.alloc := rfl
@[simp] theorem setQueue_slots (s : State) (n : StationId) (q : List StationEntry) : (setQueue n q s).slots = s.slots := rfl
@[simp] theorem setQueue_scanner (s : State) (n : StationId) (q : List StationEntry) : (setQueue n q s).scanner = s.scanner := rfl
@[simp] theorem setQueue_wind (s : State) (n : StationId) (q : List StationEntry) : (setQueue n q s).wind = s.wind := rfl
@[simp] theorem setQueue_stormInput (s : State) (n : StationId) (q : List StationEntry) : (setQueue n q s).stormInput = s.stormInput := rfl
@[simp] theorem setQueue_melt (s : State) (n : StationId) (q : List StationEntry) : (setQueue n q s).melt = s.melt := rfl
@[simp] theorem setQueue_faults (s : State) (n : StationId) (q : List StationEntry) : (setQueue n q s).faults = s.faults := rfl
@[simp] theorem setQueue_attention (s : State) (n : StationId) (q : List StationEntry) : (setQueue n q s).attention = s.attention := rfl
@[simp] theorem setQueue_upQueue (s : State) (n : StationId) (q : List StationEntry) : (setQueue n q s).upQueue = s.upQueue := rfl
@[simp] theorem setQueue_upTx (s : State) (n : StationId) (q : List StationEntry) : (setQueue n q s).upTx = s.upTx := rfl
@[simp] theorem setQueue_freeCount (s : State) (n : StationId) (q : List StationEntry) : (setQueue n q s).freeCount = s.freeCount := rfl
@[simp] theorem setQueue_pending (s : State) (n : StationId) (q : List StationEntry) : (setQueue n q s).pending = s.pending := rfl

/-! ### setClip -/

@[simp] theorem setClip_now (s : State) (n : StationId) (c : ClipSet) : (setClip n c s).now = s.now := rfl
@[simp] theorem setClip_nodeAddress (s : State) (n : StationId) (c : ClipSet) : (setClip n c s).nodeAddress = s.nodeAddress := rfl
@[simp] theorem setClip_lastReset (s : State) (n : StationId) (c : ClipSet) : (setClip n c s).lastReset = s.lastReset := rfl
@[simp] theorem setClip_warmCount (s : State) (n : StationId) (c : ClipSet) : (setClip n c s).warmCount = s.warmCount := rfl
@[simp] theorem setClip_responder (s : State) (n : StationId) (c : ClipSet) : (setClip n c s).responder = s.responder := rfl
@[simp] theorem setClip_settings (s : State) (n : StationId) (c : ClipSet) : (setClip n c s).settings = s.settings := rfl
@[simp] theorem setClip_shadow (s : State) (n : StationId) (c : ClipSet) : (setClip n c s).shadow = s.shadow := rfl
@[simp] theorem setClip_lockdown (s : State) (n : StationId) (c : ClipSet) : (setClip n c s).lockdown = s.lockdown := rfl
@[simp] theorem setClip_store (s : State) (n : StationId) (c : ClipSet) : (setClip n c s).store = s.store := rfl
@[simp] theorem setClip_alloc (s : State) (n : StationId) (c : ClipSet) : (setClip n c s).alloc = s.alloc := rfl
@[simp] theorem setClip_slots (s : State) (n : StationId) (c : ClipSet) : (setClip n c s).slots = s.slots := rfl
@[simp] theorem setClip_scanner (s : State) (n : StationId) (c : ClipSet) : (setClip n c s).scanner = s.scanner := rfl
@[simp] theorem setClip_wind (s : State) (n : StationId) (c : ClipSet) : (setClip n c s).wind = s.wind := rfl
@[simp] theorem setClip_stormInput (s : State) (n : StationId) (c : ClipSet) : (setClip n c s).stormInput = s.stormInput := rfl
@[simp] theorem setClip_melt (s : State) (n : StationId) (c : ClipSet) : (setClip n c s).melt = s.melt := rfl
@[simp] theorem setClip_faults (s : State) (n : StationId) (c : ClipSet) : (setClip n c s).faults = s.faults := rfl
@[simp] theorem setClip_attention (s : State) (n : StationId) (c : ClipSet) : (setClip n c s).attention = s.attention := rfl
@[simp] theorem setClip_upQueue (s : State) (n : StationId) (c : ClipSet) : (setClip n c s).upQueue = s.upQueue := rfl
@[simp] theorem setClip_upTx (s : State) (n : StationId) (c : ClipSet) : (setClip n c s).upTx = s.upTx := rfl
@[simp] theorem setClip_freeCount (s : State) (n : StationId) (c : ClipSet) : (setClip n c s).freeCount = s.freeCount := rfl
@[simp] theorem setClip_pending (s : State) (n : StationId) (c : ClipSet) : (setClip n c s).pending = s.pending := rfl

/-! ### revokeMotion -/

@[simp] theorem revokeMotion_now (s : State) (n : StationId) : (revokeMotion n s).now = s.now := rfl
@[simp] theorem revokeMotion_nodeAddress (s : State) (n : StationId) : (revokeMotion n s).nodeAddress = s.nodeAddress := rfl
@[simp] theorem revokeMotion_lastReset (s : State) (n : StationId) : (revokeMotion n s).lastReset = s.lastReset := rfl
@[simp] theorem revokeMotion_warmCount (s : State) (n : StationId) : (revokeMotion n s).warmCount = s.warmCount := rfl
@[simp] theorem revokeMotion_responder (s : State) (n : StationId) : (revokeMotion n s).responder = s.responder := rfl
@[simp] theorem revokeMotion_settings (s : State) (n : StationId) : (revokeMotion n s).settings = s.settings := rfl
@[simp] theorem revokeMotion_shadow (s : State) (n : StationId) : (revokeMotion n s).shadow = s.shadow := rfl
@[simp] theorem revokeMotion_lockdown (s : State) (n : StationId) : (revokeMotion n s).lockdown = s.lockdown := rfl
@[simp] theorem revokeMotion_store (s : State) (n : StationId) : (revokeMotion n s).store = s.store := rfl
@[simp] theorem revokeMotion_alloc (s : State) (n : StationId) : (revokeMotion n s).alloc = s.alloc := rfl
@[simp] theorem revokeMotion_slots (s : State) (n : StationId) : (revokeMotion n s).slots = s.slots := rfl
@[simp] theorem revokeMotion_scanner (s : State) (n : StationId) : (revokeMotion n s).scanner = s.scanner := rfl
@[simp] theorem revokeMotion_wind (s : State) (n : StationId) : (revokeMotion n s).wind = s.wind := rfl
@[simp] theorem revokeMotion_stormInput (s : State) (n : StationId) : (revokeMotion n s).stormInput = s.stormInput := rfl
@[simp] theorem revokeMotion_melt (s : State) (n : StationId) : (revokeMotion n s).melt = s.melt := rfl
@[simp] theorem revokeMotion_faults (s : State) (n : StationId) : (revokeMotion n s).faults = s.faults := rfl
@[simp] theorem revokeMotion_attention (s : State) (n : StationId) : (revokeMotion n s).attention = s.attention := rfl
@[simp] theorem revokeMotion_upQueue (s : State) (n : StationId) : (revokeMotion n s).upQueue = s.upQueue := rfl
@[simp] theorem revokeMotion_upTx (s : State) (n : StationId) : (revokeMotion n s).upTx = s.upTx := rfl
@[simp] theorem revokeMotion_freeCount (s : State) (n : StationId) : (revokeMotion n s).freeCount = s.freeCount := rfl
@[simp] theorem revokeMotion_pending (s : State) (n : StationId) : (revokeMotion n s).pending = s.pending := rfl

/-! ### enterMoving -/

@[simp] theorem enterMoving_now (s : State) (n : StationId) : (enterMoving n s).now = s.now := rfl
@[simp] theorem enterMoving_nodeAddress (s : State) (n : StationId) : (enterMoving n s).nodeAddress = s.nodeAddress := rfl
@[simp] theorem enterMoving_lastReset (s : State) (n : StationId) : (enterMoving n s).lastReset = s.lastReset := rfl
@[simp] theorem enterMoving_warmCount (s : State) (n : StationId) : (enterMoving n s).warmCount = s.warmCount := rfl
@[simp] theorem enterMoving_responder (s : State) (n : StationId) : (enterMoving n s).responder = s.responder := rfl
@[simp] theorem enterMoving_settings (s : State) (n : StationId) : (enterMoving n s).settings = s.settings := rfl
@[simp] theorem enterMoving_shadow (s : State) (n : StationId) : (enterMoving n s).shadow = s.shadow := rfl
@[simp] theorem enterMoving_lockdown (s : State) (n : StationId) : (enterMoving n s).lockdown = s.lockdown := rfl
@[simp] theorem enterMoving_store (s : State) (n : StationId) : (enterMoving n s).store = s.store := rfl
@[simp] theorem enterMoving_alloc (s : State) (n : StationId) : (enterMoving n s).alloc = s.alloc := rfl
@[simp] theorem enterMoving_slots (s : State) (n : StationId) : (enterMoving n s).slots = s.slots := rfl
@[simp] theorem enterMoving_scanner (s : State) (n : StationId) : (enterMoving n s).scanner = s.scanner := rfl
@[simp] theorem enterMoving_wind (s : State) (n : StationId) : (enterMoving n s).wind = s.wind := rfl
@[simp] theorem enterMoving_stormInput (s : State) (n : StationId) : (enterMoving n s).stormInput = s.stormInput := rfl
@[simp] theorem enterMoving_melt (s : State) (n : StationId) : (enterMoving n s).melt = s.melt := rfl
@[simp] theorem enterMoving_faults (s : State) (n : StationId) : (enterMoving n s).faults = s.faults := rfl
@[simp] theorem enterMoving_attention (s : State) (n : StationId) : (enterMoving n s).attention = s.attention := rfl
@[simp] theorem enterMoving_upQueue (s : State) (n : StationId) : (enterMoving n s).upQueue = s.upQueue := rfl
@[simp] theorem enterMoving_upTx (s : State) (n : StationId) : (enterMoving n s).upTx = s.upTx := rfl
@[simp] theorem enterMoving_freeCount (s : State) (n : StationId) : (enterMoving n s).freeCount = s.freeCount := rfl
@[simp] theorem enterMoving_pending (s : State) (n : StationId) : (enterMoving n s).pending = s.pending := rfl

/-! ### dropLink -/

@[simp] theorem dropLink_now (s : State) (n : StationId) : (dropLink n s).now = s.now := rfl
@[simp] theorem dropLink_nodeAddress (s : State) (n : StationId) : (dropLink n s).nodeAddress = s.nodeAddress := rfl
@[simp] theorem dropLink_lastReset (s : State) (n : StationId) : (dropLink n s).lastReset = s.lastReset := rfl
@[simp] theorem dropLink_warmCount (s : State) (n : StationId) : (dropLink n s).warmCount = s.warmCount := rfl
@[simp] theorem dropLink_responder (s : State) (n : StationId) : (dropLink n s).responder = s.responder := rfl
@[simp] theorem dropLink_settings (s : State) (n : StationId) : (dropLink n s).settings = s.settings := rfl
@[simp] theorem dropLink_shadow (s : State) (n : StationId) : (dropLink n s).shadow = s.shadow := rfl
@[simp] theorem dropLink_lockdown (s : State) (n : StationId) : (dropLink n s).lockdown = s.lockdown := rfl
@[simp] theorem dropLink_store (s : State) (n : StationId) : (dropLink n s).store = s.store := rfl
@[simp] theorem dropLink_alloc (s : State) (n : StationId) : (dropLink n s).alloc = s.alloc := rfl
@[simp] theorem dropLink_slots (s : State) (n : StationId) : (dropLink n s).slots = s.slots := rfl
@[simp] theorem dropLink_scanner (s : State) (n : StationId) : (dropLink n s).scanner = s.scanner := rfl
@[simp] theorem dropLink_wind (s : State) (n : StationId) : (dropLink n s).wind = s.wind := rfl
@[simp] theorem dropLink_stormInput (s : State) (n : StationId) : (dropLink n s).stormInput = s.stormInput := rfl
@[simp] theorem dropLink_melt (s : State) (n : StationId) : (dropLink n s).melt = s.melt := rfl
@[simp] theorem dropLink_faults (s : State) (n : StationId) : (dropLink n s).faults = s.faults := rfl
@[simp] theorem dropLink_attention (s : State) (n : StationId) : (dropLink n s).attention = s.attention := rfl
@[simp] theorem dropLink_upQueue (s : State) (n : StationId) : (dropLink n s).upQueue = s.upQueue := rfl
@[simp] theorem dropLink_upTx (s : State) (n : StationId) : (dropLink n s).upTx = s.upTx := rfl
@[simp] theorem dropLink_freeCount (s : State) (n : StationId) : (dropLink n s).freeCount = s.freeCount := rfl
@[simp] theorem dropLink_pending (s : State) (n : StationId) : (dropLink n s).pending = s.pending := rfl

/-! ### contactorWatch -/

@[simp] theorem contactorWatch_now (s : State) (n : StationId) (m : BitVec 4) : (contactorWatch n m s).now = s.now := rfl
@[simp] theorem contactorWatch_nodeAddress (s : State) (n : StationId) (m : BitVec 4) : (contactorWatch n m s).nodeAddress = s.nodeAddress := rfl
@[simp] theorem contactorWatch_lastReset (s : State) (n : StationId) (m : BitVec 4) : (contactorWatch n m s).lastReset = s.lastReset := rfl
@[simp] theorem contactorWatch_warmCount (s : State) (n : StationId) (m : BitVec 4) : (contactorWatch n m s).warmCount = s.warmCount := rfl
@[simp] theorem contactorWatch_responder (s : State) (n : StationId) (m : BitVec 4) : (contactorWatch n m s).responder = s.responder := rfl
@[simp] theorem contactorWatch_settings (s : State) (n : StationId) (m : BitVec 4) : (contactorWatch n m s).settings = s.settings := rfl
@[simp] theorem contactorWatch_shadow (s : State) (n : StationId) (m : BitVec 4) : (contactorWatch n m s).shadow = s.shadow := rfl
@[simp] theorem contactorWatch_lockdown (s : State) (n : StationId) (m : BitVec 4) : (contactorWatch n m s).lockdown = s.lockdown := rfl
@[simp] theorem contactorWatch_store (s : State) (n : StationId) (m : BitVec 4) : (contactorWatch n m s).store = s.store := rfl
@[simp] theorem contactorWatch_alloc (s : State) (n : StationId) (m : BitVec 4) : (contactorWatch n m s).alloc = s.alloc := rfl
@[simp] theorem contactorWatch_slots (s : State) (n : StationId) (m : BitVec 4) : (contactorWatch n m s).slots = s.slots := rfl
@[simp] theorem contactorWatch_scanner (s : State) (n : StationId) (m : BitVec 4) : (contactorWatch n m s).scanner = s.scanner := rfl
@[simp] theorem contactorWatch_wind (s : State) (n : StationId) (m : BitVec 4) : (contactorWatch n m s).wind = s.wind := rfl
@[simp] theorem contactorWatch_stormInput (s : State) (n : StationId) (m : BitVec 4) : (contactorWatch n m s).stormInput = s.stormInput := rfl
@[simp] theorem contactorWatch_melt (s : State) (n : StationId) (m : BitVec 4) : (contactorWatch n m s).melt = s.melt := rfl
@[simp] theorem contactorWatch_faults (s : State) (n : StationId) (m : BitVec 4) : (contactorWatch n m s).faults = s.faults := rfl
@[simp] theorem contactorWatch_attention (s : State) (n : StationId) (m : BitVec 4) : (contactorWatch n m s).attention = s.attention := rfl
@[simp] theorem contactorWatch_upQueue (s : State) (n : StationId) (m : BitVec 4) : (contactorWatch n m s).upQueue = s.upQueue := rfl
@[simp] theorem contactorWatch_upTx (s : State) (n : StationId) (m : BitVec 4) : (contactorWatch n m s).upTx = s.upTx := rfl
@[simp] theorem contactorWatch_freeCount (s : State) (n : StationId) (m : BitVec 4) : (contactorWatch n m s).freeCount = s.freeCount := rfl
@[simp] theorem contactorWatch_pending (s : State) (n : StationId) (m : BitVec 4) : (contactorWatch n m s).pending = s.pending := rfl

/-! ### beginHeatBlock -/

@[simp] theorem beginHeatBlock_now (s : State) (n : StationId) : (beginHeatBlock n s).now = s.now := rfl
@[simp] theorem beginHeatBlock_nodeAddress (s : State) (n : StationId) : (beginHeatBlock n s).nodeAddress = s.nodeAddress := rfl
@[simp] theorem beginHeatBlock_lastReset (s : State) (n : StationId) : (beginHeatBlock n s).lastReset = s.lastReset := rfl
@[simp] theorem beginHeatBlock_warmCount (s : State) (n : StationId) : (beginHeatBlock n s).warmCount = s.warmCount := rfl
@[simp] theorem beginHeatBlock_responder (s : State) (n : StationId) : (beginHeatBlock n s).responder = s.responder := rfl
@[simp] theorem beginHeatBlock_settings (s : State) (n : StationId) : (beginHeatBlock n s).settings = s.settings := rfl
@[simp] theorem beginHeatBlock_shadow (s : State) (n : StationId) : (beginHeatBlock n s).shadow = s.shadow := rfl
@[simp] theorem beginHeatBlock_lockdown (s : State) (n : StationId) : (beginHeatBlock n s).lockdown = s.lockdown := rfl
@[simp] theorem beginHeatBlock_store (s : State) (n : StationId) : (beginHeatBlock n s).store = s.store := rfl
@[simp] theorem beginHeatBlock_alloc (s : State) (n : StationId) : (beginHeatBlock n s).alloc = s.alloc := rfl
@[simp] theorem beginHeatBlock_slots (s : State) (n : StationId) : (beginHeatBlock n s).slots = s.slots := rfl
@[simp] theorem beginHeatBlock_scanner (s : State) (n : StationId) : (beginHeatBlock n s).scanner = s.scanner := rfl
@[simp] theorem beginHeatBlock_wind (s : State) (n : StationId) : (beginHeatBlock n s).wind = s.wind := rfl
@[simp] theorem beginHeatBlock_stormInput (s : State) (n : StationId) : (beginHeatBlock n s).stormInput = s.stormInput := rfl
@[simp] theorem beginHeatBlock_melt (s : State) (n : StationId) : (beginHeatBlock n s).melt = s.melt := rfl
@[simp] theorem beginHeatBlock_faults (s : State) (n : StationId) : (beginHeatBlock n s).faults = s.faults := rfl
@[simp] theorem beginHeatBlock_attention (s : State) (n : StationId) : (beginHeatBlock n s).attention = s.attention := rfl
@[simp] theorem beginHeatBlock_upQueue (s : State) (n : StationId) : (beginHeatBlock n s).upQueue = s.upQueue := rfl
@[simp] theorem beginHeatBlock_upTx (s : State) (n : StationId) : (beginHeatBlock n s).upTx = s.upTx := rfl
@[simp] theorem beginHeatBlock_freeCount (s : State) (n : StationId) : (beginHeatBlock n s).freeCount = s.freeCount := rfl
@[simp] theorem beginHeatBlock_pending (s : State) (n : StationId) : (beginHeatBlock n s).pending = s.pending := rfl

/-! ### evalWant -/

@[simp] theorem evalWant_now (s : State) (n : StationId) (z : ZoneNum) : (evalWant n z s).now = s.now := rfl
@[simp] theorem evalWant_nodeAddress (s : State) (n : StationId) (z : ZoneNum) : (evalWant n z s).nodeAddress = s.nodeAddress := rfl
@[simp] theorem evalWant_lastReset (s : State) (n : StationId) (z : ZoneNum) : (evalWant n z s).lastReset = s.lastReset := rfl
@[simp] theorem evalWant_warmCount (s : State) (n : StationId) (z : ZoneNum) : (evalWant n z s).warmCount = s.warmCount := rfl
@[simp] theorem evalWant_responder (s : State) (n : StationId) (z : ZoneNum) : (evalWant n z s).responder = s.responder := rfl
@[simp] theorem evalWant_settings (s : State) (n : StationId) (z : ZoneNum) : (evalWant n z s).settings = s.settings := rfl
@[simp] theorem evalWant_shadow (s : State) (n : StationId) (z : ZoneNum) : (evalWant n z s).shadow = s.shadow := rfl
@[simp] theorem evalWant_lockdown (s : State) (n : StationId) (z : ZoneNum) : (evalWant n z s).lockdown = s.lockdown := rfl
@[simp] theorem evalWant_store (s : State) (n : StationId) (z : ZoneNum) : (evalWant n z s).store = s.store := rfl
@[simp] theorem evalWant_alloc (s : State) (n : StationId) (z : ZoneNum) : (evalWant n z s).alloc = s.alloc := rfl
@[simp] theorem evalWant_slots (s : State) (n : StationId) (z : ZoneNum) : (evalWant n z s).slots = s.slots := rfl
@[simp] theorem evalWant_scanner (s : State) (n : StationId) (z : ZoneNum) : (evalWant n z s).scanner = s.scanner := rfl
@[simp] theorem evalWant_wind (s : State) (n : StationId) (z : ZoneNum) : (evalWant n z s).wind = s.wind := rfl
@[simp] theorem evalWant_stormInput (s : State) (n : StationId) (z : ZoneNum) : (evalWant n z s).stormInput = s.stormInput := rfl
@[simp] theorem evalWant_melt (s : State) (n : StationId) (z : ZoneNum) : (evalWant n z s).melt = s.melt := rfl
@[simp] theorem evalWant_faults (s : State) (n : StationId) (z : ZoneNum) : (evalWant n z s).faults = s.faults := rfl
@[simp] theorem evalWant_attention (s : State) (n : StationId) (z : ZoneNum) : (evalWant n z s).attention = s.attention := rfl
@[simp] theorem evalWant_upQueue (s : State) (n : StationId) (z : ZoneNum) : (evalWant n z s).upQueue = s.upQueue := rfl
@[simp] theorem evalWant_upTx (s : State) (n : StationId) (z : ZoneNum) : (evalWant n z s).upTx = s.upTx := rfl
@[simp] theorem evalWant_freeCount (s : State) (n : StationId) (z : ZoneNum) : (evalWant n z s).freeCount = s.freeCount := rfl
@[simp] theorem evalWant_pending (s : State) (n : StationId) (z : ZoneNum) : (evalWant n z s).pending = s.pending := rfl

/-! ### setHoldDown -/

@[simp] theorem setHoldDown_now (s : State) (t : Option Timer) : (setHoldDown t s).now = s.now := rfl
@[simp] theorem setHoldDown_nodeAddress (s : State) (t : Option Timer) : (setHoldDown t s).nodeAddress = s.nodeAddress := rfl
@[simp] theorem setHoldDown_lastReset (s : State) (t : Option Timer) : (setHoldDown t s).lastReset = s.lastReset := rfl
@[simp] theorem setHoldDown_warmCount (s : State) (t : Option Timer) : (setHoldDown t s).warmCount = s.warmCount := rfl
@[simp] theorem setHoldDown_responder (s : State) (t : Option Timer) : (setHoldDown t s).responder = s.responder := rfl
@[simp] theorem setHoldDown_settings (s : State) (t : Option Timer) : (setHoldDown t s).settings = s.settings := rfl
@[simp] theorem setHoldDown_shadow (s : State) (t : Option Timer) : (setHoldDown t s).shadow = s.shadow := rfl
@[simp] theorem setHoldDown_lockdown (s : State) (t : Option Timer) : (setHoldDown t s).lockdown = s.lockdown := rfl
@[simp] theorem setHoldDown_store (s : State) (t : Option Timer) : (setHoldDown t s).store = s.store := rfl
@[simp] theorem setHoldDown_stations (s : State) (t : Option Timer) : (setHoldDown t s).stations = s.stations := rfl
@[simp] theorem setHoldDown_alloc (s : State) (t : Option Timer) : (setHoldDown t s).alloc = s.alloc := rfl
@[simp] theorem setHoldDown_slots (s : State) (t : Option Timer) : (setHoldDown t s).slots = s.slots := rfl
@[simp] theorem setHoldDown_scanner (s : State) (t : Option Timer) : (setHoldDown t s).scanner = s.scanner := rfl
@[simp] theorem setHoldDown_stormInput (s : State) (t : Option Timer) : (setHoldDown t s).stormInput = s.stormInput := rfl
@[simp] theorem setHoldDown_melt (s : State) (t : Option Timer) : (setHoldDown t s).melt = s.melt := rfl
@[simp] theorem setHoldDown_faults (s : State) (t : Option Timer) : (setHoldDown t s).faults = s.faults := rfl
@[simp] theorem setHoldDown_attention (s : State) (t : Option Timer) : (setHoldDown t s).attention = s.attention := rfl
@[simp] theorem setHoldDown_upQueue (s : State) (t : Option Timer) : (setHoldDown t s).upQueue = s.upQueue := rfl
@[simp] theorem setHoldDown_upTx (s : State) (t : Option Timer) : (setHoldDown t s).upTx = s.upTx := rfl
@[simp] theorem setHoldDown_freeCount (s : State) (t : Option Timer) : (setHoldDown t s).freeCount = s.freeCount := rfl
@[simp] theorem setHoldDown_pending (s : State) (t : Option Timer) : (setHoldDown t s).pending = s.pending := rfl

/-! ### stormLevel -/

@[simp] theorem stormLevel_now (s : State) (b : Bool) : (stormLevel b s).now = s.now := rfl
@[simp] theorem stormLevel_nodeAddress (s : State) (b : Bool) : (stormLevel b s).nodeAddress = s.nodeAddress := rfl
@[simp] theorem stormLevel_lastReset (s : State) (b : Bool) : (stormLevel b s).lastReset = s.lastReset := rfl
@[simp] theorem stormLevel_warmCount (s : State) (b : Bool) : (stormLevel b s).warmCount = s.warmCount := rfl
@[simp] theorem stormLevel_responder (s : State) (b : Bool) : (stormLevel b s).responder = s.responder := rfl
@[simp] theorem stormLevel_settings (s : State) (b : Bool) : (stormLevel b s).settings = s.settings := rfl
@[simp] theorem stormLevel_shadow (s : State) (b : Bool) : (stormLevel b s).shadow = s.shadow := rfl
@[simp] theorem stormLevel_lockdown (s : State) (b : Bool) : (stormLevel b s).lockdown = s.lockdown := rfl
@[simp] theorem stormLevel_store (s : State) (b : Bool) : (stormLevel b s).store = s.store := rfl
@[simp] theorem stormLevel_stations (s : State) (b : Bool) : (stormLevel b s).stations = s.stations := rfl
@[simp] theorem stormLevel_alloc (s : State) (b : Bool) : (stormLevel b s).alloc = s.alloc := rfl
@[simp] theorem stormLevel_slots (s : State) (b : Bool) : (stormLevel b s).slots = s.slots := rfl
@[simp] theorem stormLevel_scanner (s : State) (b : Bool) : (stormLevel b s).scanner = s.scanner := rfl
@[simp] theorem stormLevel_melt (s : State) (b : Bool) : (stormLevel b s).melt = s.melt := rfl
@[simp] theorem stormLevel_faults (s : State) (b : Bool) : (stormLevel b s).faults = s.faults := rfl
@[simp] theorem stormLevel_attention (s : State) (b : Bool) : (stormLevel b s).attention = s.attention := rfl
@[simp] theorem stormLevel_upQueue (s : State) (b : Bool) : (stormLevel b s).upQueue = s.upQueue := rfl
@[simp] theorem stormLevel_upTx (s : State) (b : Bool) : (stormLevel b s).upTx = s.upTx := rfl
@[simp] theorem stormLevel_freeCount (s : State) (b : Bool) : (stormLevel b s).freeCount = s.freeCount := rfl
@[simp] theorem stormLevel_pending (s : State) (b : Bool) : (stormLevel b s).pending = s.pending := rfl

/-! ### stampPrecip -/

@[simp] theorem stampPrecip_now (s : State) : (stampPrecip s).now = s.now := rfl
@[simp] theorem stampPrecip_nodeAddress (s : State) : (stampPrecip s).nodeAddress = s.nodeAddress := rfl
@[simp] theorem stampPrecip_lastReset (s : State) : (stampPrecip s).lastReset = s.lastReset := rfl
@[simp] theorem stampPrecip_warmCount (s : State) : (stampPrecip s).warmCount = s.warmCount := rfl
@[simp] theorem stampPrecip_responder (s : State) : (stampPrecip s).responder = s.responder := rfl
@[simp] theorem stampPrecip_settings (s : State) : (stampPrecip s).settings = s.settings := rfl
@[simp] theorem stampPrecip_shadow (s : State) : (stampPrecip s).shadow = s.shadow := rfl
@[simp] theorem stampPrecip_lockdown (s : State) : (stampPrecip s).lockdown = s.lockdown := rfl
@[simp] theorem stampPrecip_store (s : State) : (stampPrecip s).store = s.store := rfl
@[simp] theorem stampPrecip_stations (s : State) : (stampPrecip s).stations = s.stations := rfl
@[simp] theorem stampPrecip_alloc (s : State) : (stampPrecip s).alloc = s.alloc := rfl
@[simp] theorem stampPrecip_slots (s : State) : (stampPrecip s).slots = s.slots := rfl
@[simp] theorem stampPrecip_scanner (s : State) : (stampPrecip s).scanner = s.scanner := rfl
@[simp] theorem stampPrecip_wind (s : State) : (stampPrecip s).wind = s.wind := rfl
@[simp] theorem stampPrecip_stormInput (s : State) : (stampPrecip s).stormInput = s.stormInput := rfl
@[simp] theorem stampPrecip_faults (s : State) : (stampPrecip s).faults = s.faults := rfl
@[simp] theorem stampPrecip_attention (s : State) : (stampPrecip s).attention = s.attention := rfl
@[simp] theorem stampPrecip_upQueue (s : State) : (stampPrecip s).upQueue = s.upQueue := rfl
@[simp] theorem stampPrecip_upTx (s : State) : (stampPrecip s).upTx = s.upTx := rfl
@[simp] theorem stampPrecip_freeCount (s : State) : (stampPrecip s).freeCount = s.freeCount := rfl
@[simp] theorem stampPrecip_pending (s : State) : (stampPrecip s).pending = s.pending := rfl

/-! ### Records after an update -/

@[simp] theorem State.updStation_station (s : State) (n m : StationId) (f : Station → Station) :
    (s.updStation n f).station m = if m = n then f (s.station n) else s.station m := by
  simp [State.station, State.updStation]

@[simp] theorem State.mapStations_station (s : State) (f : StationId → Station → Station) (m : StationId) :
    (s.mapStations f).station m = f m (s.station m) := by
  simp [State.station, State.mapStations]

@[simp] theorem State.updSlot_slot (s : State) (i j : SlotId) (f : Slot → Slot) :
    (s.updSlot i f).slot j = if j = i then f (s.slot i) else s.slot j := by
  simp [State.slot, State.updSlot]

theorem State.updZone_station (s : State) (n m : StationId) (z : ZoneNum) (f : Zone → Zone) :
    (s.updZone n z f).station m =
      if m = n then { s.station n with zones := (s.station n).zones.set z (f (s.zone n z)) } else s.station m := by
  simp [State.updZone, State.zone]

@[simp] theorem State.updZone_zone (s : State) (n m : StationId) (z y : ZoneNum) (f : Zone → Zone) :
    (s.updZone n z f).zone m y = if m = n ∧ y = z then f (s.zone n z) else s.zone m y := by
  by_cases h : m = n
  · subst h
    by_cases hy : y = z
    · subst hy; simp [State.zone, State.updZone]
    · simp [State.zone, State.updZone, hy]
  · simp [State.zone, State.updZone, h]

/-- Two states with the same stations have the same records. -/
theorem State.station_congr {s t : State} (h : t.stations = s.stations) (n : StationId) : t.station n = s.station n := by
  simp [State.station, h]

/-- The stations of a state are equal where every record is. -/
theorem State.stations_ext {s t : State} (h : ∀ n, t.station n = s.station n) : t.stations = s.stations :=
  Tab.ext_get h

@[simp] theorem raise_station (s : State) (c : Cause) (n : StationId) : (raise c s).station n = s.station n := rfl

@[simp] theorem raise_authority (s : State) (c : Cause) (n : StationId) : (raise c s).authority n = s.authority n := rfl

@[simp] theorem raise_latched (s : State) (c : Cause) : (raise c s).attention.latched = s.attention.latched := rfl

@[simp] theorem raise_raised (s : State) (c : Cause) :
    (raise c s).attention.raised = s.attention.raised.insert c := rfl

@[simp] theorem setQueue_station (s : State) (n m : StationId) (q : List StationEntry) :
    (setQueue n q s).station m = if m = n then { s.station n with queue := q } else s.station m := by
  simp [setQueue]

end Sys2Proof.Machine
end

