-- ==== Sys2Proof/Laws/Frame.lean ====
section
/-! SUPPORT. What a change can reach: three relations between a state and what follows it, which every shared operation is
shown to keep within, so that no later proof unfolds an operation to learn that it leaves a field alone. -/

namespace Sys2Proof.Machine

/-- Nothing differs but station records, the Fault Table and the attention unit. -/
structure OnlyStations (s t : State) : Prop where
  now : t.now = s.now
  nodeAddress : t.nodeAddress = s.nodeAddress
  lastReset : t.lastReset = s.lastReset
  warmCount : t.warmCount = s.warmCount
  responder : t.responder = s.responder
  settings : t.settings = s.settings
  shadow : t.shadow = s.shadow
  lockdown : t.lockdown = s.lockdown
  store : t.store = s.store
  alloc : t.alloc = s.alloc
  slots : t.slots = s.slots
  scanner : t.scanner = s.scanner
  wind : t.wind = s.wind
  stormInput : t.stormInput = s.stormInput
  melt : t.melt = s.melt
  upQueue : t.upQueue = s.upQueue
  upTx : t.upTx = s.upTx
  freeCount : t.freeCount = s.freeCount
  pending : t.pending = s.pending

theorem OnlyStations.refl (s : State) : OnlyStations s s :=
  ⟨rfl, rfl, rfl, rfl, rfl, rfl, rfl, rfl, rfl, rfl, rfl, rfl, rfl, rfl, rfl, rfl, rfl, rfl, rfl⟩

theorem OnlyStations.trans {s t u : State} (h : OnlyStations s t) (k : OnlyStations t u) : OnlyStations s u :=
  ⟨k.now.trans h.now, k.nodeAddress.trans h.nodeAddress, k.lastReset.trans h.lastReset, 
    k.warmCount.trans h.warmCount, k.responder.trans h.responder, k.settings.trans h.settings, 
    k.shadow.trans h.shadow, k.lockdown.trans h.lockdown, k.store.trans h.store, k.alloc.trans h.alloc, 
    k.slots.trans h.slots, k.scanner.trans h.scanner, k.wind.trans h.wind, k.stormInput.trans h.stormInput, 
    k.melt.trans h.melt, k.upQueue.trans h.upQueue, k.upTx.trans h.upTx, k.freeCount.trans h.freeCount, 
    k.pending.trans h.pending⟩

/-- The tables, the shadow, lockdown, the store, the count, the identity and the queue of commands stand. -/
structure KeepsSettings (s t : State) : Prop where
  now : t.now = s.now
  nodeAddress : t.nodeAddress = s.nodeAddress
  lastReset : t.lastReset = s.lastReset
  warmCount : t.warmCount = s.warmCount
  settings : t.settings = s.settings
  shadow : t.shadow = s.shadow
  lockdown : t.lockdown = s.lockdown
  store : t.store = s.store
  freeCount : t.freeCount = s.freeCount
  pending : t.pending = s.pending

theorem KeepsSettings.refl (s : State) : KeepsSettings s s :=
  ⟨rfl, rfl, rfl, rfl, rfl, rfl, rfl, rfl, rfl, rfl⟩

theorem KeepsSettings.trans {s t u : State} (h : KeepsSettings s t) (k : KeepsSettings t u) : KeepsSettings s u :=
  ⟨k.now.trans h.now, k.nodeAddress.trans h.nodeAddress, k.lastReset.trans h.lastReset, 
    k.warmCount.trans h.warmCount, k.settings.trans h.settings, k.shadow.trans h.shadow, 
    k.lockdown.trans h.lockdown, k.store.trans h.store, k.freeCount.trans h.freeCount, k.pending.trans h.pending⟩

theorem OnlyStations.keepsSettings {s t : State} (h : OnlyStations s t) : KeepsSettings s t :=
  ⟨h.now, h.nodeAddress, h.lastReset, h.warmCount, h.settings, h.shadow,
    h.lockdown, h.store, h.freeCount, h.pending⟩

theorem OnlyStations.foldl {α : Type} {f : State → α → State} (h : ∀ s a, OnlyStations s (f s a)) (l : List α) (s : State) :
    OnlyStations s (l.foldl f s) := by
  induction l generalizing s with
  | nil => exact .refl s
  | cons a l ih => exact (h s a).trans (ih _)

theorem KeepsSettings.foldl {α : Type} {f : State → α → State} (h : ∀ s a, KeepsSettings s (f s a)) (l : List α)
    (s : State) : KeepsSettings s (l.foldl f s) := by
  induction l generalizing s with
  | nil => exact .refl s
  | cons a l ih => exact (h s a).trans (ih _)

/-- Two records that differ at most in the output queue, the transmitter, last_sent, the commanded mask and the mismatch
deadlines of the zones: all that an offer to a queue and a departure can change. -/
structure SameBody (a b : Station) : Prop where
  installed : b.installed = a.installed
  link : b.link = a.link
  lockReportSeen : b.lockReportSeen = a.lockReportSeen
  holders : b.holders = a.holders
  clearing : b.clearing = a.clearing
  faultLatch : b.faultLatch = a.faultLatch
  progress : b.progress = a.progress
  warnTimer : b.warnTimer = a.warnTimer
  stowStart : b.stowStart = a.stowStart
  stowTimeout : b.stowTimeout = a.stowTimeout
  freshness : b.freshness = a.freshness
  stale : b.stale = a.stale
  demand : b.demand = a.demand
  grant : b.grant = a.grant
  lastTelemetry : b.lastTelemetry = a.lastTelemetry
  clipStatus : b.clipStatus = a.clipStatus
  clipLog : b.clipLog = a.clipLog
  zone_state : ∀ z, (b.zones.get z).state = (a.zones.get z).state
  zone_onStart : ∀ z, (b.zones.get z).onStart = (a.zones.get z).onStart
  zone_minOnReached : ∀ z, (b.zones.get z).minOnReached = (a.zones.get z).minOnReached
  zone_offStart : ∀ z, (b.zones.get z).offStart = (a.zones.get z).offStart
  zone_faultReason : ∀ z, (b.zones.get z).faultReason = (a.zones.get z).faultReason

theorem SameBody.refl (a : Station) : SameBody a a :=
  ⟨rfl, rfl, rfl, rfl, rfl, rfl, rfl, rfl, rfl, rfl, rfl, rfl, rfl, rfl, rfl, rfl, rfl,
    fun _ => rfl, fun _ => rfl, fun _ => rfl, fun _ => rfl, fun _ => rfl⟩

theorem SameBody.trans {a b c : Station} (h : SameBody a b) (k : SameBody b c) : SameBody a c :=
  ⟨k.installed.trans h.installed, k.link.trans h.link, k.lockReportSeen.trans h.lockReportSeen,
    k.holders.trans h.holders, k.clearing.trans h.clearing, k.faultLatch.trans h.faultLatch,
    k.progress.trans h.progress, k.warnTimer.trans h.warnTimer, k.stowStart.trans h.stowStart,
    k.stowTimeout.trans h.stowTimeout, k.freshness.trans h.freshness, k.stale.trans h.stale,
    k.demand.trans h.demand, k.grant.trans h.grant, k.lastTelemetry.trans h.lastTelemetry,
    k.clipStatus.trans h.clipStatus, k.clipLog.trans h.clipLog, fun z => (k.zone_state z).trans (h.zone_state z),
    fun z => (k.zone_onStart z).trans (h.zone_onStart z),
    fun z => (k.zone_minOnReached z).trans (h.zone_minOnReached z),
    fun z => (k.zone_offStart z).trans (h.zone_offStart z),
    fun z => (k.zone_faultReason z).trans (h.zone_faultReason z)⟩

/-- Nothing differs but what offers and departures can change. -/
structure OnlyPorts (s t : State) : Prop where
  only : OnlyStations s t
  same : ∀ n, SameBody (s.station n) (t.station n)

theorem OnlyPorts.refl (s : State) : OnlyPorts s s := ⟨.refl s, fun _ => .refl _⟩

theorem OnlyPorts.trans {s t u : State} (h : OnlyPorts s t) (k : OnlyPorts t u) : OnlyPorts s u :=
  ⟨h.only.trans k.only, fun n => (h.same n).trans (k.same n)⟩

theorem OnlyPorts.foldl {α : Type} {f : State → α → State} (h : ∀ s a, OnlyPorts s (f s a)) (l : List α) (s : State) :
    OnlyPorts s (l.foldl f s) := by
  induction l generalizing s with
  | nil => exact .refl s
  | cons a l ih => exact (h s a).trans (ih _)

/-! ### What the derived conditions read -/

theorem SameBody.driveCount {a b : Station} (h : SameBody a b) : driveCount b = driveCount a := by
  simp [Machine.driveCount, h.holders]

theorem SameBody.heatCount {a b : Station} (h : SameBody a b) : heatCount b = heatCount a := by
  simp [Machine.heatCount, h.holders]

theorem SameBody.heatBlock {a b : Station} (h : SameBody a b) : heatBlock b = heatBlock a := by
  simp [Machine.heatBlock, h.link, h.lockReportSeen, h.heatCount]

theorem SameBody.eligible {a b : Station} (h : SameBody a b) : eligible b = eligible a := by
  simp [Machine.eligible, h.installed, h.link, h.lockReportSeen, h.driveCount]

theorem SameBody.authorityOf {a b : Station} (h : SameBody a b) (stow : Bool) : authorityOf stow b = authorityOf stow a := by
  simp [Machine.authorityOf, h.installed, h.link, h.lockReportSeen, h.driveCount, h.clearing, h.faultLatch, h.progress,
    h.stale, h.demand]

theorem OnlyStations.stowActive {s t : State} (h : OnlyStations s t) : t.stowActive = s.stowActive := by
  simp [State.stowActive, h.wind]

theorem OnlyStations.envelope {s t : State} (h : OnlyStations s t) (n : StationId) : t.envelope n = s.envelope n := by
  simp [State.envelope, h.settings]

theorem OnlyStations.zoneRecord {s t : State} (h : OnlyStations s t) (n : StationId) (z : ZoneNum) :
    t.zoneRecord n z = s.zoneRecord n z := by
  simp [State.zoneRecord, h.settings]

theorem OnlyStations.slot {s t : State} (h : OnlyStations s t) (i : SlotId) : t.slot i = s.slot i := by
  simp [State.slot, h.slots]

theorem OnlyStations.slotRecord {s t : State} (h : OnlyStations s t) (i : SlotId) : t.slotRecord i = s.slotRecord i := by
  simp [State.slotRecord, h.settings]

theorem OnlyStations.surfaceSlot {s t : State} (h : OnlyStations s t) (n : StationId) (z : ZoneNum) :
    t.surfaceSlot n z = s.surfaceSlot n z := by
  simp [State.surfaceSlot, State.slotRecord, h.settings]

theorem OnlyStations.surfaceValue {s t : State} (h : OnlyStations s t) (n : StationId) (z : ZoneNum) :
    t.surfaceValue n z = s.surfaceValue n z := by
  simp [State.surfaceValue, h.surfaceSlot, h.slot]

theorem OnlyPorts.authority {s t : State} (h : OnlyPorts s t) (n : StationId) : t.authority n = s.authority n := by
  simp [State.authority, h.only.stowActive, (h.same n).authorityOf]

theorem OnlyPorts.zone_state {s t : State} (h : OnlyPorts s t) (n : StationId) (z : ZoneNum) :
    (t.zone n z).state = (s.zone n z).state :=
  (h.same n).zone_state z

theorem OnlyPorts.zoneOn {s t : State} (h : OnlyPorts s t) (p : StationId × ZoneNum) : t.zoneOn p = s.zoneOn p := by
  simp [State.zoneOn, h.zone_state]

theorem OnlyPorts.zonePower {s t : State} (h : OnlyPorts s t) (p : StationId × ZoneNum) : t.zonePower p = s.zonePower p := by
  simp [State.zonePower, h.only.zoneRecord]

theorem OnlyPorts.heatLoad {s t : State} (h : OnlyPorts s t) : t.heatLoad = s.heatLoad := by
  have hon : t.zoneOn = s.zoneOn := funext h.zoneOn
  have hpw : t.zonePower = s.zonePower := funext h.zonePower
  simp [State.heatLoad, hon, hpw]

theorem OnlyPorts.onMask {s t : State} (h : OnlyPorts s t) (n : StationId) : t.onMask n = s.onMask n := by
  simp [State.onMask, h.zoneOn]

theorem OnlyPorts.wants {s t : State} (h : OnlyPorts s t) (n : StationId) (z : ZoneNum) : t.wants n z = s.wants n z := by
  simp [State.wants, h.only.melt, h.only.surfaceValue, h.only.zoneRecord, h.zone_state]

theorem OnlyPorts.stopTargets {s t : State} (h : OnlyPorts s t) (n : StationId)
    (ht : (s.station n).lastTelemetry.isSome = true) : stopTargets (t.station n) = stopTargets (s.station n) := by
  obtain ⟨p, hp⟩ := Option.isSome_iff_exists.mp ht
  simp [Machine.stopTargets, (h.same n).lastTelemetry, hp]

end Sys2Proof.Machine
end

