-- ==== Sys2Proof/Laws/Ops.lean ====
section
/-! SUPPORT. What each shared operation can reach, said once: operations on queues keep within `OnlyPorts`, operations on
records within `OnlyStations`, and the others within `KeepsSettings`. -/

namespace Sys2Proof.Machine

/-! ### One record -/

theorem State.updStation_only (s : State) (n : StationId) (f : Station → Station) : OnlyStations s (s.updStation n f) := by
  constructor <;> rfl

theorem State.mapStations_only (s : State) (f : StationId → Station → Station) : OnlyStations s (s.mapStations f) := by
  constructor <;> rfl

theorem State.updZone_only (s : State) (n : StationId) (z : ZoneNum) (f : Zone → Zone) :
    OnlyStations s (s.updZone n z f) := by
  constructor <;> rfl

/-- An update of one record by a function that keeps its body reaches no further than an offer can. -/
theorem State.updStation_ports (s : State) (n : StationId) (f : Station → Station)
    (h : SameBody (s.station n) (f (s.station n))) : OnlyPorts s (s.updStation n f) := by
  refine ⟨s.updStation_only n f, fun m => ?_⟩
  rw [State.updStation_station]
  split
  · next e => subst e; exact h
  · exact .refl _

theorem setQueue_ports (n : StationId) (q : List StationEntry) (s : State) : OnlyPorts s (setQueue n q s) := by
  refine State.updStation_ports s n _ ?_
  constructor <;> first | rfl | exact fun _ => rfl

theorem setClip_only (n : StationId) (c : ClipSet) (s : State) : OnlyStations s (setClip n c s) := by
  constructor <;> rfl

theorem revokeMotion_only (n : StationId) (s : State) : OnlyStations s (revokeMotion n s) := by
  constructor <;> rfl

theorem raise_ports (c : Cause) (s : State) : OnlyPorts s (raise c s) :=
  ⟨by constructor <;> rfl, fun _ => .refl _⟩

/-! ### Faults -/

theorem recordFault_ports (src : FaultSource) (r : FaultReason) (d : BitVec 32) (s : State) :
    OnlyPorts s (recordFault src r d s) := by
  unfold recordFault
  split
  · exact ⟨by constructor <;> rfl, fun _ => .refl _⟩
  · split
    · exact ⟨by constructor <;> rfl, fun _ => .refl _⟩
    · split <;> exact ⟨by constructor <;> rfl, fun _ => .refl _⟩

@[simp] theorem recordFault_stations (src : FaultSource) (r : FaultReason) (d : BitVec 32) (s : State) :
    (recordFault src r d s).stations = s.stations := by
  unfold recordFault
  split
  · rfl
  · split
    · rfl
    · split <;> rfl

@[simp] theorem recordFault_station (src : FaultSource) (r : FaultReason) (d : BitVec 32) (s : State) (n : StationId) :
    (recordFault src r d s).station n = s.station n :=
  State.station_congr (recordFault_stations src r d s) n

@[simp] theorem recordFault_latched (src : FaultSource) (r : FaultReason) (d : BitVec 32) (s : State) :
    (recordFault src r d s).attention.latched = s.attention.latched := by
  unfold recordFault
  split
  · rfl
  · split
    · rfl
    · split <;> rfl

/-! ### Departures and offers -/

theorem beginFrame_ports (n : StationId) (e : StationEntry) (s : State) : OnlyPorts s (beginFrame n e s) := by
  cases e with
  | heat =>
    unfold beginFrame
    refine State.updStation_ports s n _ ?_
    constructor <;> first
      | rfl
      | (intro z
         simp only [cancelChanged, Tab.get_ofFn]
         split <;> rfl)
  | setpoint _ | horn _ | pin _ | linkUp | lockReply _ | cabinetData _ =>
    unfold beginFrame
    refine State.updStation_ports s n _ ?_
    constructor <;> first | rfl | exact fun _ => rfl

theorem beginFrame_station_ne (n m : StationId) (e : StationEntry) (s : State) (h : m ≠ n) :
    (beginFrame n e s).station m = s.station m := by
  cases e <;> simp [beginFrame, h]

theorem depart_ports (n : StationId) (s : State) : OnlyPorts s (depart n s) := by
  unfold depart
  split
  · exact (setQueue_ports n _ s).trans (beginFrame_ports n _ _)
  · exact .refl s

theorem depart_station_ne (n m : StationId) (s : State) (h : m ≠ n) : (depart n s).station m = s.station m := by
  unfold depart
  split
  · rw [beginFrame_station_ne n m _ _ h, State.updStation_station, if_neg h]
  · rfl

@[simp] theorem beginFrame_faults (n : StationId) (e : StationEntry) (s : State) : (beginFrame n e s).faults = s.faults := by
  cases e <;> rfl

@[simp] theorem beginFrame_attention (n : StationId) (e : StationEntry) (s : State) :
    (beginFrame n e s).attention = s.attention := by
  cases e <;> rfl

@[simp] theorem depart_faults (n : StationId) (s : State) : (depart n s).faults = s.faults := by
  unfold depart
  split <;> simp

@[simp] theorem depart_attention (n : StationId) (s : State) : (depart n s).attention = s.attention := by
  unfold depart
  split <;> simp

theorem replyLost_ports (n : StationId) (b : Badge) (s : State) : OnlyPorts s (replyLost n b s) :=
  recordFault_ports _ _ _ s

theorem admit_ports (n : StationId) (e : StationEntry) (s : State) : OnlyPorts s (admitEntry n e s) := by
  unfold admitEntry
  simp only
  split
  · exact setQueue_ports n _ s
  · split
    · exact setQueue_ports n _ s
    · split
      · exact .refl s
      · exact replyLost_ports n _ s
      · split
        · exact setQueue_ports n _ s
        · split
          · exact (setQueue_ports n _ s).trans (replyLost_ports n _ _)
          · exact .refl s

theorem admit_station_ne (n m : StationId) (e : StationEntry) (s : State) (h : m ≠ n) :
    (admitEntry n e s).station m = s.station m := by
  unfold admitEntry
  simp only
  split
  · simp [h]
  · split
    · simp [h]
    · split
      · rfl
      · simp [replyLost]
      · split
        · simp [h]
        · split
          · simp [replyLost, h]
          · rfl

/-- An offer reaches the queue, the transmitter and what a departure writes, of one station, and the Fault Table. -/
theorem offer_ports (n : StationId) (e : StationEntry) (s : State) : OnlyPorts s (offer n e s) := by
  unfold offer
  split
  · exact (admit_ports n _ s).trans (depart_ports n _)
  · exact .refl s

theorem offer_station_ne (n m : StationId) (e : StationEntry) (s : State) (h : m ≠ n) :
    (offer n e s).station m = s.station m := by
  unfold offer
  split
  · rw [depart_station_ne n m _ h, admit_station_ne n m _ s h]
  · rfl

/-- Holding departures back to the end of an event reaches no further than the event and one departure. -/
theorem withheld_only (n : StationId) (f : State → State) (h : ∀ s, OnlyStations s (f s)) (s : State) :
    OnlyStations s (withheld n f s) := by
  unfold withheld
  split
  · exact h s
  · exact (((s.updStation_only n _).trans (h _)).trans (State.updStation_only _ n _)).trans (depart_ports n _).only

/-- While a frame is being sent there is nothing to hold back. -/
theorem withheld_sending (n : StationId) (f : State → State) (s : State) (h : (s.station n).tx.isSome = true) :
    withheld n f s = f s := by
  simp [withheld, h]

/-- A DOWN link discards every offer (R7). -/
theorem offer_down (n : StationId) (e : StationEntry) (s : State) (h : (s.station n).link.isUp = false) :
    offer n e s = s := by
  simp [offer, h]

@[simp] theorem offer_authority (n m : StationId) (e : StationEntry) (s : State) :
    (offer n e s).authority m = s.authority m :=
  (offer_ports n e s).authority m

theorem offerStop_ports (n : StationId) (s : State) : OnlyPorts s (offerStop n s) := offer_ports n _ s

theorem offerGrant_ports (s : State) (n : StationId) : OnlyPorts s (offerGrant s n) := offer_ports n _ s

theorem offerHeatMarkers_ports (s0 s : State) : OnlyPorts s (offerHeatMarkers s0 s) := by
  unfold offerHeatMarkers
  refine OnlyPorts.foldl (fun s n => ?_) stationIds s
  split
  · exact .refl s
  · exact offer_ports n _ s

theorem releaseOffers_ports (s : State) (n : StationId) : OnlyPorts s (releaseOffers s n) := by
  unfold releaseOffers
  simp only
  have h1 : OnlyPorts s (if (s.station n).progress = .moving then offerStop n s else s) := by
    split
    · exact offerStop_ports n s
    · exact .refl s
  have h2 := fun t => offer_ports n (.horn false) t
  have h3 := fun t => offer_ports n (.pin false) t
  split <;> split <;> first
    | exact (h1.trans (h2 _)).trans (h3 _)
    | exact h1.trans (h2 _)
    | exact h1.trans (h3 _)
    | exact h1

/-! ### The upstream queue and the attention unit -/

/-- The upstream queue and its transmitter, and nothing else. -/
theorem offerUp_eq (e : UpEntry) (s : State) :
    offerUp e s = { s with upQueue := (offerUp e s).upQueue, upTx := (offerUp e s).upTx } := by
  unfold offerUp departUp
  split <;> rfl

/-- The examination touches the upstream port and the attention unit, and nothing else. -/
theorem examine_eq (s : State) :
    examine s = { s with
      attention := (examine s).attention, upQueue := (examine s).upQueue, upTx := (examine s).upTx } := by
  unfold examine
  split
  · next c _ _ =>
    have h := offerUp_eq
      (.alert { cause := c, level := s.wind.level, causes := s.wind.causes, faultCount := s.faults.count })
      { s with attention := { raised := s.attention.raised.erase c, latched := some c } }
    refine h.trans ?_
    rw [congrArg State.attention h]
  · rfl

/-- What the examination leaves in the attention unit: a latched cause and the pending set stand; else the highest pending
cause is latched (R179). -/
theorem examine_attention (s : State) :
    (examine s).attention =
      match s.attention.latched, s.attention.raised.highest with
      | none, some c => { raised := s.attention.raised.erase c, latched := some c }
      | _, _ => s.attention := by
  unfold examine
  cases s.attention.latched <;> cases s.attention.raised.highest
    <;> first | rfl | exact congrArg State.attention (offerUp_eq _ _)

theorem examine_station (s : State) (n : StationId) : (examine s).station n = s.station n := by
  rw [examine_eq]; rfl

theorem CauseSet.highest_eq_none {c : CauseSet} : c.highest = none ↔ c = noAttention := by
  revert c
  rintro ⟨a, b, c, d, e, f, g⟩
  cases a <;> cases b <;> cases c <;> cases d <;> cases e <;> cases f <;> cases g <;> simp [CauseSet.highest, noAttention]

/-- After the examination no cause waits while none is latched (R179). -/
theorem examine_rest (s : State) (h : (examine s).attention.latched = none) : (examine s).attention.raised = noAttention := by
  rw [examine_attention] at h ⊢
  cases hl : s.attention.latched <;> cases hr : s.attention.raised.highest <;> simp_all [CauseSet.highest_eq_none]

theorem offerUp_keeps (e : UpEntry) (s : State) : KeepsSettings s (offerUp e s) := by
  rw [offerUp_eq]; constructor <;> rfl

theorem examine_keeps (s : State) : KeepsSettings s (examine s) := by
  rw [examine_eq]; constructor <;> rfl

/-! ### Zones -/

theorem evalWant_only (n : StationId) (z : ZoneNum) (s : State) : OnlyStations s (evalWant n z s) := by
  constructor <;> rfl

theorem evalWants_only (zs : List (StationId × ZoneNum)) (s : State) : OnlyStations s (evalWants zs s) := by
  unfold evalWants
  exact OnlyStations.foldl (fun s (p : StationId × ZoneNum) => evalWant_only p.1 p.2 s) zs s

theorem beginHeatBlock_only (n : StationId) (s : State) : OnlyStations s (beginHeatBlock n s) := by
  constructor <;> rfl

theorem endHeatBlock_only (n : StationId) (s : State) : OnlyStations s (endHeatBlock n s) :=
  (s.updStation_only n _).trans (evalWants_only _ _)

theorem overtempCheck_only (v : Int) (n : StationId) (z : ZoneNum) (s : State) :
    OnlyStations s (overtempCheck v n z s) := by
  unfold overtempCheck
  split
  · exact (s.updZone_only n z _).trans (recordFault_ports _ _ _ _).only
  · exact .refl s

theorem applySurface_only (i : SlotId) (v : Int) (s : State) : OnlyStations s (applySurface i v s) := by
  unfold applySurface
  exact OnlyStations.foldl
    (fun s (p : StationId × ZoneNum) => (overtempCheck_only v p.1 p.2 s).trans (evalWant_only p.1 p.2 _)) _ s

theorem contactorWatch_only (n : StationId) (m : BitVec 4) (s : State) : OnlyStations s (contactorWatch n m s) := by
  constructor <;> rfl

theorem shedToBudget_only (ps : List (StationId × ZoneNum)) (s : State) : OnlyStations s (shedToBudget ps s) := by
  induction ps generalizing s with
  | nil => exact .refl s
  | cons p ps ih =>
    unfold shedToBudget
    split
    · exact .refl s
    · exact (s.updZone_only p.1 p.2 _).trans (ih _)

theorem budgetShed_only (s : State) : OnlyStations s (budgetShed s) := shedToBudget_only _ s

theorem admitZones_only (ps : List (StationId × ZoneNum)) (room : Int) (s : State) :
    OnlyStations s (admitZones ps room s) := by
  induction ps generalizing s room with
  | nil => exact .refl s
  | cons p ps ih =>
    unfold admitZones
    split
    · exact (s.updZone_only p.1 p.2 _).trans (ih _ _)
    · exact ih _ _

theorem shedUntil_only (shortfall : Nat) (ps : List (StationId × ZoneNum)) (s : State) (count watts : Nat) :
    OnlyStations s (shedUntil shortfall ps s count watts).1 := by
  induction ps generalizing s count watts with
  | nil => exact .refl s
  | cons p ps ih =>
    unfold shedUntil
    split
    · exact .refl s
    · exact (s.updZone_only p.1 p.2 _).trans (ih _ _ _)

theorem allocationShed_only (k : AllocKind) (s : State) : OnlyStations s (allocationShed k s).1 := by
  unfold allocationShed
  split
  · exact .refl s
  · exact shedUntil_only _ _ s 0 0

theorem settleZoneWrite_only (old : Tab 32 ZoneRecord) (p : StationId × ZoneNum) (s : State) :
    OnlyStations s (settleZoneWrite old p s) := by
  unfold settleZoneWrite
  simp only
  split
  · exact ((s.updZone_only p.1 p.2 _).trans (State.updZone_only _ p.1 p.2 _)).trans (evalWant_only p.1 p.2 _)
  · exact s.updZone_only p.1 p.2 _

/-! ### Stow -/

theorem enterMoving_only (n : StationId) (s : State) : OnlyStations s (enterMoving n s) := by
  constructor <;> rfl

theorem enterWarning_only (n : StationId) (s : State) : OnlyStations s (enterWarning n s) := by
  unfold enterWarning
  have h := (s.updStation_only n fun st => { st with progress := .warning }).trans (offerStop_ports n _).only
  simp only
  split
  · exact h.trans (enterMoving_only n _)
  · exact (h.trans (offer_ports n _ _).only).trans (State.updStation_only _ n _)

theorem suspendWarning_only (n : StationId) (s : State) : OnlyStations s (suspendWarning n s) := by
  unfold suspendWarning
  split
  · exact (s.updStation_only n _).trans (offer_ports n _ _).only
  · exact .refl s

theorem startWarning_only (s : State) (n : StationId) : OnlyStations s (startWarning s n) := by
  unfold startWarning
  split
  · exact enterWarning_only n s
  · exact .refl s

theorem stowTest_only (n : StationId) (t : Telemetry) (s : State) : OnlyStations s (stowTest n t s) := by
  unfold stowTest
  simp only
  split
  · split
    · split
      · exact s.updStation_only n _
      · exact (offer_ports n _ s).only
    · exact .refl s
  · split
    · exact .refl s
    · exact enterMoving_only n s
  · exact .refl s

/-! ### Locks and the settling of a station -/

theorem cancelClearing_only (n : StationId) (s : State) : OnlyStations s (cancelClearing n s) := by
  unfold cancelClearing
  split
  · exact ((s.updStation_only n _).trans (offer_ports n _ _).only).trans (raise_ports _ _).only
  · exact .refl s

theorem startClearing_only (n : StationId) (was : Bool) (s : State) : OnlyStations s (startClearing n was s) := by
  unfold startClearing
  split
  · exact ((s.updStation_only n _).trans (offer_ports n _ _).only).trans (raise_ports _ _).only
  · exact .refl s

theorem resumeStow_only (n : StationId) (was : Bool) (s : State) : OnlyStations s (resumeStow n was s) := by
  unfold resumeStow
  split
  · exact enterWarning_only n s
  · exact .refl s

theorem settleHeatBlock_only (n : StationId) (before : Bool) (s : State) : OnlyStations s (settleHeatBlock n before s) := by
  unfold settleHeatBlock
  split
  · exact beginHeatBlock_only n s
  · split
    · exact endHeatBlock_only n s
    · exact .refl s

theorem settleStation_only (n : StationId) (s0 : State) (reply : Option LockReply) (s : State) :
    OnlyStations s (settleStation n s0 reply s) := by
  unfold settleStation
  simp only
  refine OnlyStations.trans ?_ (settleHeatBlock_only n _ _)
  refine OnlyStations.trans ?_ (resumeStow_only n _ _)
  refine OnlyStations.trans ?_ (startClearing_only n _ _)
  refine OnlyStations.trans ?_ (cancelClearing_only n _)
  have h1 : ∀ c : Bool, OnlyStations s (if c = true then revokeMotion n s else s) := fun c => by
    split
    · exact revokeMotion_only n s
    · exact .refl s
  cases reply <;> simp only <;> split <;>
    first
    | exact ((h1 true).trans (offer_ports n _ _).only).trans (suspendWarning_only n _)
    | exact (h1 true).trans (suspendWarning_only n _)
    | exact (h1 false).trans (offer_ports n _ _).only
    | exact h1 false

theorem goodFrame_only (n : StationId) (s : State) : OnlyStations s (goodFrame n s) := by
  unfold goodFrame
  simp only
  split
  · exact s.updStation_only n _
  · exact ((s.updStation_only n _).trans (offer_ports n _ _).only).trans (offer_ports n _ _).only

theorem dropLink_only (n : StationId) (s : State) : OnlyStations s (dropLink n s) := by
  constructor <;> rfl

theorem changeHolders_only (n : StationId) (s0 : State) (hs : List Holder) (reply : Option LockReply) (s : State) :
    OnlyStations s (changeHolders n s0 hs reply s) := by
  unfold changeHolders
  simp only
  refine OnlyStations.trans ?_ (settleStation_only n s0 reply _)
  split
  · exact s.updStation_only n _
  · exact (s.updStation_only n _).trans (raise_ports _ _).only

theorem takeLock_only (n : StationId) (s0 : State) (b : Badge) (sc : Scope) (s : State) :
    OnlyStations s (takeLock n s0 b sc s) := by
  have h : ∀ out : LockOutcome,
      OnlyStations s (if out = .full then recordFault (.station n) .lockFull (badgeDetail b) s else s) := fun out => by
    split
    · exact (recordFault_ports _ _ _ s).only
    · exact .refl s
  unfold takeLock
  simp only
  refine OnlyStations.trans ?_ (changeHolders_only n s0 _ _ _)
  exact h _

theorem takeUnlock_only (n : StationId) (s0 : State) (b : Badge) (sc : Scope) (s : State) :
    OnlyStations s (takeUnlock n s0 b sc s) := by
  have h : ∀ out : LockOutcome,
      OnlyStations s (if out = .notHolder then recordFault (.station n) .notHolder (badgeDetail b) s else s) := fun out => by
    split
    · exact (recordFault_ports _ _ _ s).only
    · exact .refl s
  unfold takeUnlock
  simp only
  refine OnlyStations.trans ?_ (changeHolders_only n s0 _ _ _)
  exact h _

theorem takeReport_only (n : StationId) (s0 : State) (es : List ReportEntry) (s : State) :
    OnlyStations s (takeReport n s0 es s) := by
  unfold takeReport
  simp only
  refine OnlyStations.trans ?_ (settleStation_only n s0 _ _)
  refine OnlyStations.trans ?_ (raise_ports _ _).only
  split
  · exact s.updStation_only n _
  · exact (s.updStation_only n _).trans (recordFault_ports _ _ _ _).only

theorem handleReport_only (n : StationId) (es : List ReportEntry) (s : State) : OnlyStations s (handleReport n es s) := by
  unfold handleReport
  split
  · exact (goodFrame_only n s).trans (recordFault_ports _ _ _ _).only
  · exact (goodFrame_only n s).trans (takeReport_only n s es _)

theorem loseLink_only (n : StationId) (t : Time) (s : State) : OnlyStations s (loseLink n t s) := by
  unfold loseLink
  simp only
  refine OnlyStations.trans ?_ (settleStation_only n s _ _)
  have h := (dropLink_only n s).trans (recordFault_ports (.station n) .linkLost t _).only
  split
  · exact h.trans (raise_ports _ _).only
  · exact h

theorem endClearing_only (n : StationId) (s : State) : OnlyStations s (endClearing n s) :=
  withheld_only n _ (fun s' =>
    (((s'.updStation_only n _).trans (offer_ports n _ _).only).trans (raise_ports _ _).only).trans
      (settleStation_only n s none _)) s

/-! ### Envelopes -/

theorem uninstallStow_only (n : StationId) (s : State) : OnlyStations s (uninstallStow n s) := by
  unfold uninstallStow
  simp only
  split
  · exact (s.updStation_only n _).trans (offer_ports n _ _).only
  · exact s.updStation_only n _

theorem settleInstalled_only (n : StationId) (was : Bool) (s : State) : OnlyStations s (settleInstalled n was s) := by
  unfold settleInstalled
  split
  · exact uninstallStow_only n s
  · split
    · exact s.updStation_only n _
    · exact .refl s

theorem latch_only (n : StationId) (l : FaultLatch) (r : FaultReason) (d : BitVec 32) (s : State) :
    OnlyStations s (latch n l r d s) :=
  (s.updStation_only n _).trans (recordFault_ports _ _ _ _).only

theorem checkTelemetry_only (n : StationId) (t : Telemetry) (s : State) : OnlyStations s (checkTelemetry n t s) := by
  unfold checkTelemetry
  simp only
  repeat' split
  all_goals first | exact latch_only n _ _ _ s | exact .refl s

/-! ### Demand -/

theorem writeEntry_only (n : StationId) (b : BatchEntry) (s : State) : OnlyStations s (writeEntry n b s) :=
  (s.updStation_only n _).trans (setClip_only n _ _)

theorem handleEntry_only (s : State) (b : BatchEntry) : OnlyStations s (handleEntry s b) := by
  unfold handleEntry
  simp only
  split
  · exact writeEntry_only _ b s
  · split
    · exact setClip_only _ _ s
    · exact .refl s

theorem overrideEntry_only (s : State) (b : BatchEntry) : OnlyStations s (overrideEntry s b) := by
  unfold overrideEntry
  split
  · exact setClip_only _ _ s
  · exact .refl s

theorem refreshDemand_only (s : State) (n : StationId) : OnlyStations s (refreshDemand s n) := by
  unfold refreshDemand
  simp only
  split
  · exact (s.updStation_only n _).trans (setClip_only n _ _)
  · exact .refl s

theorem writeStowDemand_only (s : State) : OnlyStations s (writeStowDemand s) := s.mapStations_only _

theorem offerStow_only (c : StationId → Bool) (s : State) (n : StationId) : OnlyStations s (offerStow c s n) := by
  unfold offerStow
  simp only
  refine OnlyStations.trans ?_ (offerGrant_ports _ n).only
  split
  · exact setClip_only n _ s
  · exact .refl s

/-! ### Operations on the cluster -/

theorem setLevel_keeps (l : WindLevel) (s : State) : KeepsSettings s (setLevel l s) := by
  unfold setLevel
  split
  · exact .refl s
  · constructor <;> rfl

theorem setHoldDown_keeps (t : Option Timer) (s : State) : KeepsSettings s (setHoldDown t s) := by
  constructor <;> rfl

theorem evalLevel_keeps (s : State) : KeepsSettings s (evalLevel s) := by
  unfold evalLevel evalLevelAt
  simp only
  repeat' split
  all_goals first
    | exact (setLevel_keeps _ s).trans (setHoldDown_keeps _ _)
    | exact setHoldDown_keeps _ s

/-- The level and the rest of the wind state, the stow cause set with it, and one raised cause: what a level evaluation can
change. -/
theorem evalLevel_eq (s : State) :
    evalLevel s = { s with wind := (evalLevel s).wind, attention := (evalLevel s).attention } := by
  unfold evalLevel evalLevelAt setLevel setHoldDown
  simp only
  repeat' split
  all_goals rfl

theorem evalCondition_keeps (s : State) : KeepsSettings s (evalCondition s) := by
  unfold evalCondition
  split
  · exact .refl s
  · refine KeepsSettings.trans ?_ (evalWants_only allZones _).keepsSettings
    constructor <;> rfl

theorem anemometerEntered_keeps (before : Nat) (s : State) : KeepsSettings s (anemometerEntered before s) := by
  unfold anemometerEntered
  split
  · constructor <;> rfl
  · exact .refl s

theorem anemometersLeft_keeps (before : Nat) (s : State) : KeepsSettings s (anemometersLeft before s) := by
  unfold anemometersLeft
  split
  · split
    · exact .refl s
    · constructor <;> rfl
  · exact evalLevel_keeps s

theorem withRefresh_keeps (t : Option Timer) (s : State) :
    KeepsSettings s (raise .stowChange { s with wind := { s.wind with refresh := t } }) := by
  constructor <;> rfl

theorem withAlloc_keeps (a : AllocRecord) (s : State) : KeepsSettings s { s with alloc := a } := by
  constructor <;> rfl

theorem activate_keeps (s : State) : KeepsSettings s (activate s) := by
  unfold activate
  simp only
  have h := (s.mapStations_only fun n st => activateStation (s.stopSetpoint n) st).trans
    (OnlyStations.foldl startWarning_only stationIds _)
  exact h.keepsSettings.trans (withRefresh_keeps _ _)

theorem releaseStow_keeps (s : State) : KeepsSettings s (releaseStow s) := by
  unfold releaseStow
  simp only
  have h := (OnlyPorts.foldl releaseOffers_ports stationIds s).only.trans
    (State.mapStations_only _ fun _ st => releaseStation st)
  exact h.keepsSettings.trans (withRefresh_keeps _ _)

theorem settleStow_keeps (s0 s : State) : KeepsSettings s (settleStow s0 s) := by
  unfold settleStow
  split
  · exact activate_keeps s
  · split
    · exact releaseStow_keeps s
    · exact .refl s

theorem closeEvent_keeps (s0 s : State) : KeepsSettings s (closeEvent s0 s) :=
  ((settleStow_keeps s0 s).trans (offerHeatMarkers_ports s0 _).only.keepsSettings).trans (examine_keeps _)

theorem allocate_keeps (k : AllocKind) (s : State) : KeepsSettings s (allocate k s) := by
  unfold allocate
  simp only
  refine KeepsSettings.trans ?_ (offerHeatMarkers_ports s _).only.keepsSettings
  refine KeepsSettings.trans ?_ (admitZones_only _ _ _).keepsSettings
  exact (allocationShed_only k s).keepsSettings.trans
    ((State.mapStations_only _ _).keepsSettings.trans (withAlloc_keeps _ _))

theorem runBatch_keeps (es : List BatchEntry) (s : State) : KeepsSettings s (runBatch es s) := by
  unfold runBatch
  simp only
  refine KeepsSettings.trans ?_ (OnlyPorts.foldl offerGrant_ports _ _).only.keepsSettings
  refine KeepsSettings.trans ?_ (allocate_keeps _ _)
  exact ((OnlyStations.foldl handleEntry_only es s).trans (OnlyStations.foldl refreshDemand_only _ _)).keepsSettings

theorem runStowRefresh_keeps (s : State) : KeepsSettings s (runStowRefresh s) := by
  unfold runStowRefresh
  simp only
  refine KeepsSettings.trans ?_ (OnlyStations.foldl (offerStow_only _) _ _).keepsSettings
  exact (writeStowDemand_only s).keepsSettings.trans (allocate_keeps _ _)

end Sys2Proof.Machine
end

