-- ==== Sys2Proof/Laws/Sensing.lean ====
section
/-! SUPPORT. What the Sensor Scanner's operations can reach: none touches the tables, the store, the identity or the queue of
commands. -/

namespace Sys2Proof.Machine

theorem State.updSlot_keeps (s : State) (i : SlotId) (f : Slot → Slot) : KeepsSettings s (s.updSlot i f) := by
  constructor <;> rfl

theorem State.updScanner_keeps (s : State) (f : Scanner → Scanner) : KeepsSettings s (s.updScanner f) := by
  constructor <;> rfl

theorem raise_keeps (c : Cause) (s : State) : KeepsSettings s (raise c s) := (raise_ports c s).only.keepsSettings

theorem stampPrecip_keeps (s : State) : KeepsSettings s (stampPrecip s) := by
  constructor <;> rfl

theorem recordFault_keeps (src : FaultSource) (r : FaultReason) (d : BitVec 32) (s : State) :
    KeepsSettings s (recordFault src r d s) :=
  (recordFault_ports src r d s).only.keepsSettings

/-- A value accepted for a slot. -/
theorem accept_keeps (i : SlotId) (st : SlotState) (v : Int) (s : State) : KeepsSettings s (accept i st v s) := by
  unfold accept
  simp only
  have h := s.updSlot_keeps i fun t => t.accepted (s.slotRecord i) st v s.now
  split
  · refine KeepsSettings.trans ?_ (evalLevel_keeps _)
    split
    · exact h
    · exact h.trans (anemometerEntered_keeps _ _)
  · refine KeepsSettings.trans ?_ (evalCondition_keeps _)
    split
    · exact h.trans (raise_keeps _ _)
    · exact h
  · exact h.trans (applySurface_only _ _ _).keepsSettings
  · refine KeepsSettings.trans ?_ (evalCondition_keeps _)
    split
    · exact h.trans (stampPrecip_keeps _)
    · exact h
  · exact h

theorem retire_keeps (i : SlotId) (st : SlotState) (miss : Nat) (s : State) : KeepsSettings s (retire i st miss s) := by
  unfold retire
  simp only
  have h := s.updSlot_keeps i fun t => t.retired st miss
  split
  · split
    · exact h.trans (anemometersLeft_keeps _ _)
    · exact h.trans (evalWants_only _ _).keepsSettings
    · exact h.trans (evalCondition_keeps _)
    · exact h.trans (evalCondition_keeps _)
    · exact h
  · exact h

theorem loseSlot_keeps (i : SlotId) (cause : Nat) (s : State) : KeepsSettings s (loseSlot i cause s) :=
  (retire_keeps _ _ _ s).trans (recordFault_keeps _ _ _ _)

theorem takeMiss_keeps (cause : Nat) (i : SlotId) (s : State) : KeepsSettings s (takeMiss cause i s) := by
  have h : KeepsSettings s
      (if (s.slot i).miss < 2 then s.updSlot i fun t => { t with miss := t.miss + 1 } else loseSlot i cause s) := by
    split
    · exact s.updSlot_keeps i _
    · exact loseSlot_keeps i cause s
  unfold takeMiss
  split <;> first | exact h | exact .refl s

theorem takeReading_keeps (raw : Int) (i : SlotId) (s : State) : KeepsSettings s (takeReading raw i s) := by
  unfold takeReading
  simp only
  have h := s.updSlot_keeps i fun t => { t with latestRaw := some raw }
  split
  · exact h
  · split
    · exact h.trans (accept_keeps _ _ _ _)
    · exact h.trans (takeMiss_keeps _ _ _)

theorem deliverSubstitute_keeps (i : SlotId) (s : State) : KeepsSettings s (deliverSubstitute i s) := by
  unfold deliverSubstitute
  split
  · exact .refl s
  · exact accept_keeps _ _ _ s

theorem passEnd_keeps (s : State) : KeepsSettings s (passEnd s) := by
  unfold passEnd
  split <;> exact s.updScanner_keeps _

theorem issue_keeps (frame : PollFrame) (slots : List SlotId) (timeout next : Nat) (s : State) :
    KeepsSettings s (issue frame slots timeout next s) :=
  s.updScanner_keeps _

theorem walkSequential_keeps (fuel i : Nat) (s : State) : KeepsSettings s (walkSequential fuel i s) := by
  induction fuel generalizing i s with
  | zero => exact passEnd_keeps s
  | succ fuel ih =>
    unfold walkSequential
    split
    · split
      · split
        · exact (deliverSubstitute_keeps _ s).trans (ih _ _)
        · exact issue_keeps _ _ _ _ s
      · exact passEnd_keeps s
    · exact passEnd_keeps s

theorem walkPaired_keeps (fuel p : Nat) (s : State) : KeepsSettings s (walkPaired fuel p s) := by
  induction fuel generalizing p s with
  | zero => exact passEnd_keeps s
  | succ fuel ih =>
    unfold walkPaired
    simp only
    split
    · split
      · split
        · split
          · exact ((deliverSubstitute_keeps _ s).trans (deliverSubstitute_keeps _ _)).trans (ih _ _)
          · exact (deliverSubstitute_keeps _ s).trans (issue_keeps _ _ _ _ _)
        · split
          · exact (deliverSubstitute_keeps _ s).trans (issue_keeps _ _ _ _ _)
          · exact issue_keeps _ _ _ _ s
      · exact passEnd_keeps s
    · exact passEnd_keeps s

theorem continuePass_keeps (s : State) : KeepsSettings s (continuePass s) := by
  unfold continuePass
  split
  · exact walkSequential_keeps _ _ s
  · exact walkPaired_keeps _ _ s

theorem beginPass_keeps (s : State) : KeepsSettings s (beginPass s) := (s.updScanner_keeps _).trans (continuePass_keeps _)

theorem completeTransaction_keeps (s : State) : KeepsSettings s (completeTransaction s) := by
  unfold completeTransaction
  simp only
  split
  · exact (s.updScanner_keeps _).trans (continuePass_keeps _)
  · exact (s.updScanner_keeps _).trans (State.updScanner_keeps _ _)

theorem takeSensorFrame_keeps (address : Byte) (raw : Int) (s : State) :
    KeepsSettings s (takeSensorFrame address raw s) := by
  unfold takeSensorFrame
  split
  · exact recordFault_keeps _ _ _ s
  · simp only
    split
    · exact recordFault_keeps _ _ _ s
    · have h : ∀ (slots : List SlotId) (u : State), KeepsSettings u (slots.foldl (fun s i => takeReading raw i s) u) :=
        fun slots u => KeepsSettings.foldl (fun s i => takeReading_keeps raw i s) slots u
      split
      · exact ((s.updScanner_keeps _).trans (h _ _)).trans (completeTransaction_keeps _)
      · exact (s.updScanner_keeps _).trans (h _ _)

theorem expireTransaction_keeps (t : Transaction) (s : State) : KeepsSettings s (expireTransaction t s) := by
  unfold expireTransaction
  exact (KeepsSettings.foldl (fun s i => takeMiss_keeps 0 i s) _ s).trans (completeTransaction_keeps _)

theorem autostart_keeps (s : State) : KeepsSettings s (autostart s) := by
  unfold autostart
  split
  · exact (s.updScanner_keeps _).trans (beginPass_keeps _)
  · exact .refl s

theorem substitute_keeps (i : SlotId) (v : Int) (life : Nat) (s : State) : KeepsSettings s (substitute i v life s) :=
  (s.updSlot_keeps i _).trans (accept_keeps _ _ _ _)

end Sys2Proof.Machine
end

