-- ==== Sys2Proof/Laws/Management.lean ====
section
/-! SUPPORT. Requests: the two ways a request goes, what the end of an event adds to an execution that changes neither the
stow nor a zone, and where the response stands. -/

namespace Sys2Proof.Machine

/-! ### The end of an event -/

theorem settleStow_same (s0 s : State) (h : s.stowActive = s0.stowActive) : settleStow s0 s = s := by
  unfold settleStow
  rw [h]
  cases s0.stowActive <;> simp

theorem offerHeatMarkers_same (s0 s : State) (h : ∀ n, s.onMask n = s0.onMask n) : offerHeatMarkers s0 s = s := by
  unfold offerHeatMarkers
  induction stationIds with
  | nil => rfl
  | cons n l ih => rw [List.foldl_cons, if_pos (h n).symm]; exact ih

/-- An activation reaches station records, the Fault Table, the attention unit and the wind state. -/
theorem activate_only (s : State) : OnlyStations { s with wind := (activate s).wind } (activate s) := by
  have h := (s.mapStations_only fun n st => activateStation (s.stopSetpoint n) st).trans
    (OnlyStations.foldl startWarning_only stationIds _)
  generalize hu : stationIds.foldl startWarning (s.mapStations fun n st => activateStation (s.stopSetpoint n) st) = u at h
  have e : activate s =
      raise .stowChange { u with wind := { u.wind with refresh := some (u.timer u.settings.timing.stowRefresh) } } := by
    rw [← hu]; rfl
  rw [e]
  exact ⟨h.now, h.nodeAddress, h.lastReset, h.warmCount, h.responder, h.settings, h.shadow, h.lockdown, h.store, h.alloc,
    h.slots, h.scanner, rfl, h.stormInput, h.melt, h.upQueue, h.upTx, h.freeCount, h.pending⟩

/-- A release reaches station records, the Fault Table, the attention unit and the wind state. -/
theorem releaseStow_only (s : State) : OnlyStations { s with wind := (releaseStow s).wind } (releaseStow s) := by
  have h := (OnlyPorts.foldl releaseOffers_ports stationIds s).only.trans
    (State.mapStations_only _ fun _ st => releaseStation st)
  generalize hu : (stationIds.foldl releaseOffers s).mapStations (fun _ st => releaseStation st) = u at h
  have e : releaseStow s = raise .stowChange { u with wind := { u.wind with refresh := none } } := by
    rw [← hu]; rfl
  rw [e]
  exact ⟨h.now, h.nodeAddress, h.lastReset, h.warmCount, h.responder, h.settings, h.shadow, h.lockdown, h.store, h.alloc,
    h.slots, h.scanner, rfl, h.stormInput, h.melt, h.upQueue, h.upTx, h.freeCount, h.pending⟩

theorem settleStow_only (s0 s : State) : OnlyStations { s with wind := (settleStow s0 s).wind } (settleStow s0 s) := by
  unfold settleStow
  split
  · exact activate_only s
  · split
    · exact releaseStow_only s
    · exact .refl s

/-! ### The response -/

theorem upstreamShort_eq_false {s : State} : s.upstreamShort = false ↔ s.upQueue.length ≤ 30 := by
  rw [State.upstreamShort, decide_eq_false_iff_not, Config.upstreamQueueSize]
  omega

theorem manage_short (tag code : Byte) (run : State → Answer) (s : State) (h : s.upstreamShort = true) :
    manage tag code run s = examine (recordFault .upstream .upstreamFull (upstreamFullDetail tag code) s) := by
  simp [manage, h]

theorem manage_room (tag code : Byte) (run : State → Answer) (s : State) (h : s.upstreamShort = false) :
    manage tag code run s = respond tag code s (run { s with responder := some (tag, code) }) := by
  simp [manage, h]

/-- A frame offered upstream where a place is free waits in the queue or is in transmission. -/
theorem offerUp_response_holds (tag code : Byte) (resp : RespCode) (contents : List Byte) (s : State)
    (h : s.upQueue.length < 32) :
    (offerUp (.mgmtResp tag code resp contents) s).upstreamHolds (.mgmtResp tag code resp contents) := by
  unfold offerUp departUp admitUp State.upstreamHolds
  simp only [Config.upstreamQueueSize, h, if_true]
  cases hq : s.upQueue <;> cases ht : s.upTx <;> simp

/-- A departure loses nothing: the head of the queue becomes the frame in transmission (R39). -/
theorem departUp_holds {e : UpEntry} {s : State} (h : s.upstreamHolds e) : (departUp s).upstreamHolds e := by
  unfold departUp State.upstreamHolds at *
  split <;> simp_all
  rcases h with h | h
  · exact .inr h.symm
  · exact .inl h

/-- An ALERT takes no place but that of an earlier ALERT (R179). -/
theorem mem_admitUp_alert {e : UpEntry} {q : List UpEntry} (a : Alert) (he : e.isAlert = false) (h : e ∈ q) :
    e ∈ admitUp q (.alert a) := by
  unfold admitUp
  simp only
  split
  · exact List.mem_map.mpr ⟨e, h, by simp [he]⟩
  · split
    · exact List.mem_append_left _ h
    · exact h

/-- The examination drops nothing but a waiting ALERT, which a newer one replaces (R179). -/
theorem examine_holds {e : UpEntry} {s : State} (he : e.isAlert = false) (h : s.upstreamHolds e) :
    (examine s).upstreamHolds e := by
  unfold examine
  split
  · apply departUp_holds
    exact h.imp (fun h => mem_admitUp_alert _ he h) id
  · exact h

/-- The response of an executed request waits upstream or is in transmission, where the reservation of R43 was met. -/
theorem respond_holds (tag code : Byte) (s0 : State) (a : Answer) (h : a.state.upQueue.length < 32) :
    (respond tag code s0 a).upstreamHolds (.mgmtResp tag code a.code a.contents) := by
  unfold respond
  apply examine_holds rfl
  apply offerUp_response_holds
  have h1 := (offerHeatMarkers_ports s0 (settleStow s0 a.state)).only.upQueue
  have h2 := (settleStow_only s0 a.state).upQueue
  simpa [h1, h2] using h

/-- An execution that changed neither whether the stow is active nor an ON mask is answered without further effect. -/
theorem respond_quiet (tag code : Byte) (s0 : State) (a : Answer) (hs : a.state.stowActive = s0.stowActive)
    (hm : ∀ n, a.state.onMask n = s0.onMask n) :
    respond tag code s0 a =
      examine (offerUp (.mgmtResp tag code a.code a.contents) { a.state with responder := none }) := by
  unfold respond
  rw [settleStow_same s0 a.state hs, offerHeatMarkers_same s0 a.state hm]

/-- Where no cause waits unlatched, the examination finds nothing to do (R179). -/
theorem examine_settled {s : State} (h : s.attention.latched = none → s.attention.raised = noAttention) : examine s = s := by
  unfold examine
  cases hl : s.attention.latched with
  | some _ => rfl
  | none => rw [h hl]; rfl

@[simp] theorem offerUp_attention (e : UpEntry) (s : State) : (offerUp e s).attention = s.attention := by
  unfold offerUp departUp
  split <;> rfl

/-- A request that neither turned the stow nor a zone leaves what its execution left, the response apart. -/
theorem respond_quiet_frame (tag code : Byte) (s0 : State) (a : Answer) (hs : a.state.stowActive = s0.stowActive)
    (hm : ∀ n, a.state.onMask n = s0.onMask n) :
    respond tag code s0 a = { a.state with
      responder := none
      upQueue := (respond tag code s0 a).upQueue
      upTx := (respond tag code s0 a).upTx
      attention := (respond tag code s0 a).attention } := by
  rw [respond_quiet tag code s0 a hs hm]
  conv_lhs => rw [examine_eq, offerUp_eq]
  rw [examine_eq, offerUp_eq]

/-- Such a request raises no cause, where none waited unlatched. -/
theorem respond_quiet_attention (tag code : Byte) (s0 : State) (a : Answer) (hs : a.state.stowActive = s0.stowActive)
    (hm : ∀ n, a.state.onMask n = s0.onMask n)
    (h : a.state.attention.latched = none → a.state.attention.raised = noAttention) :
    (respond tag code s0 a).attention = a.state.attention := by
  rw [respond_quiet tag code s0 a hs hm, examine_settled] <;> rw [offerUp_attention]
  exact h

theorem respond_quiet_same (tag code : Byte) (s0 : State) (a : Answer) (hs : a.state.stowActive = s0.stowActive)
    (hm : ∀ n, a.state.onMask n = s0.onMask n) : a.state.sameButPort (respond tag code s0 a) :=
  ⟨respond_quiet_frame tag code s0 a hs hm, fun h => respond_quiet_attention tag code s0 a hs hm h.1⟩

/-- A refused request changes nothing but the upstream port, and raises no cause (R182). -/
theorem respond_refused (tag code : Byte) (s : State) (a : Answer) (h : a.state = { s with responder := some (tag, code) }) :
    s.sameButPort (respond tag code s a) := by
  have hs : a.state.stowActive = s.stowActive := by rw [h]; rfl
  have hm : ∀ n, a.state.onMask n = s.onMask n := by intro n; rw [h]; rfl
  refine ⟨?_, fun hr => ?_⟩
  · have := respond_quiet_frame tag code s a hs hm
    rw [this, h]
  · have ha : a.state.attention = s.attention := by rw [h]
    rw [respond_quiet_attention tag code s a hs hm (by rw [ha]; exact hr.1), ha]

/-- The ALERT of a latched cause stands upstream as the manual puts it. -/
theorem admitUp_alert (q : List UpEntry) (a : Alert) : admitUp q (.alert a) = withAlert q (.alert a) := rfl

end Sys2Proof.Machine
end

