-- ==== Sys2Proof/Tests/Slice0.lean ====
section
/-! SUPPORT. Tests of the model: the ill-formed terms that each check of `WellFormed` refuses, figures of the manual's worked
sequences, and states that meet the hypotheses of the statements. -/

namespace Sys2Proof.Tests

set_option Elab.async false

open Sys2Proof Sys2Proof.Machine

/-! ### Small states -/

/-- The state after a command. -/
def after (c : Instr) (s : State) : State :=
  match exec c s with
  | .next t => t
  | .fault _ | .refused _ => s

/-- A record of an installed station whose link is UP, whose report is seen and whose transmitter is sending. -/
def upStation : Station :=
  { resetStation true (Tab.fill 4 (resetZone false)) with
    link := .up ⟨0, 1000⟩, lockReportSeen := true, tx := some (.linkUp 0x10) }

/-- The default entry with the station installed. -/
def installedEnvelope : Envelope := { defaultEnvelope with installed := 1 }

/-- A cluster of eight idle stations under the default tables, with no attention cause latched. -/
def live : State :=
  { State.reset with
    settings := { defaultSettings with active := Tab.fill 8 installedEnvelope }
    shadow := Tab.fill 8 installedEnvelope
    stations := Tab.fill 8 upStation
    attention := { raised := noAttention, latched := none }
    upTx := some (.cabinetData ⟨1, 2, []⟩) }

/-- The cluster with one record changed. -/
def with0 (f : Station → Station) : State := live.updStation 0 f

/-- The cluster under active stow by the STORM input, S0 in a stage of the stow. -/
def stowed (p : StowProgress) : State :=
  { with0 (fun st => { st with progress := p }) with
    stormInput := true
    wind := { live.wind with causes := { noCauses with stormLine := true }, refresh := some ⟨0, 0⟩ } }

/-- A telemetry at a position. -/
def telemetryAt (az el : Int) (flags : Byte) : TelemetryFrame := ⟨1, BitVec.ofInt 32 az, BitVec.ofInt 32 el, flags, 0⟩

/-- An entry of a batch. -/
def entry (n : Byte) (az : Int) (azs : Nat) (el : Int) (els : Nat) : BatchEntry :=
  ⟨n, BitVec.ofInt 32 az, BitVec.ofNat 16 azs, BitVec.ofInt 32 el, BitVec.ofNat 16 els⟩

/-- A zone that is ON since a reading. -/
def onSince (t : Time) : Zone :=
  { state := .on, onStart := some t, minOnReached := false, offStart := none, faultReason := none, mismatch := none }

/-- The response code of the response that waits upstream, or is the frame in transmission. -/
def respByteOf (s : State) : Option Byte :=
  (s.upQueue ++ s.upTx.toList).findSome? fun e =>
    match e with
    | .mgmtResp _ _ resp _ => some (respByte resp)
    | .telemetry _ _ | .cabinetData _ | .alert _ => none

/-! ### Ill-formed terms, one for each check of `Instr.wf` -/

theorem test_wf_power_on_strap : (Instr.powerOnReset 0x80 false false).wf 0x10 = false := by decide +kernel

theorem test_wf_batch_length : (Instr.pointingBatch (List.replicate 158 (entry 0 0 0 0 0))).wf 0x10 = false := by decide +kernel

theorem test_wf_cabinet_destination : (Instr.cabinetDataFromUpstream ⟨0x88, 1, []⟩).wf 0x10 = false := by decide +kernel

theorem test_wf_cabinet_length :
    (Instr.cabinetDataFromUpstream ⟨0x80, 1, List.replicate 1025 0⟩).wf 0x10 = false := by
  decide +kernel

theorem test_wf_report_length : (Instr.lockReport 0 (List.replicate 256 ⟨1, noScope⟩)).wf 0x10 = false := by decide +kernel

theorem test_wf_cabinet_source : (Instr.cabinetDataFromStation 0 ⟨1, 0x81, []⟩).wf 0x10 = false := by decide +kernel

theorem test_wf_station_cabinet_length :
    (Instr.cabinetDataFromStation 0 ⟨1, 0x80, List.replicate 1025 0⟩).wf 0x10 = false := by
  decide +kernel

theorem test_wf_request_length : (Instr.statusRead 0 (List.replicate 2047 0)).wf 0x10 = false := by
  decide +kernel

theorem test_wf_warm_reset_strap : (Instr.warmReset 0 [] 0x0F).wf 0x10 = false := by decide +kernel

theorem test_wf_failing_frame_that_passes :
    (Instr.receivedFrameFailingChecks .sensorLine
      (frameBytes ⟨1, 0, 0x20, []⟩) false).wf 0x10 = false := by decide +kernel

theorem test_wf_unhandled_payload :
    (Instr.goodFrameOfUnhandledKind .sensorLine ⟨1, 0, 0x30, List.replicate 2049 0⟩).wf 0x10 = false := by
  decide +kernel

theorem test_wf_unhandled_length : (Instr.goodFrameOfUnhandledKind .upstream ⟨0x10, 1, 0x20, [0]⟩).wf 0x10 = false := by
  decide +kernel

theorem test_wf_unhandled_kind : (Instr.goodFrameOfUnhandledKind .sensorLine ⟨1, 0, 0x22, [0, 0]⟩).wf 0x10 = false := by
  decide +kernel

theorem test_wf_unknown_code : (Instr.unknownRequestCode 0 0x19 []).wf 0x10 = false := by decide +kernel

/-! ### Figures of the manual -/

/-- The CRC over the nine bytes 0x31 to 0x39 (R197). -/
theorem test_crc_check_value : crc16 [0x31, 0x32, 0x33, 0x34, 0x35, 0x36, 0x37, 0x38, 0x39] = 0x29B1 := by decide +kernel

/-- "Worked figures: calibration". -/
theorem test_calibration :
    calibrate { defaultSlotRecord with calM := 20480, calB := -150 } 12000 = 14850
      ∧ calibrate { defaultSlotRecord with calM := 10000 } (-3) = -2
      ∧ calibrate { defaultSlotRecord with calM := 40000, calB := 1000 } 30000 = 32767
      ∧ calibrate { defaultSlotRecord with calM := 65535, calB := -32768 } (-32768) = -32768 := by decide +kernel

/-- "Worked figures: gust and sustained". -/
theorem test_gust_and_sustained :
    gustOf [90, 110, 140, 130, 125, 150, 160, 145, 170, 155] = some 170
      ∧ sustainedOf [90, 110, 140, 130, 125, 150, 160, 145, 170, 155] = some 137
      ∧ gustOf [90, 110, 140, 130, 125, 150, 160, 145, 170, 155, 210] = some 210
      ∧ sustainedOf [90, 110, 140, 130, 125, 150, 160, 145, 170, 155, 210] = some 144 := by decide +kernel

/-- The motion watts of "Worked sequence: a budget-limited batch at BREEZY". -/
theorem test_motion_watts :
    axisWatts 1875 1536 20 = 14063 ∧ axisWatts 800 2048 20 = 8000 ∧ scaleOf 37313 35000 = 960
      ∧ grantOf { noDemand with azSpeed := 1875, elSpeed := 800, watts := 22063 } 960 = ⟨1757, 750, 20684⟩ := by decide +kernel

/-- The example of R27: az_rate_max 1000 at BREEZY with pct 75 and a request of 900. -/
theorem test_wind_cap : capSpeed 1000 75 900 = 750 ∧ capCause 1000 75 900 = { noClip with windCap := true } := by decide +kernel

/-- The example of R92. -/
theorem test_report_rebuild :
    (rebuild [⟨2871, ⟨true, false⟩⟩, ⟨0, ⟨false, true⟩⟩, ⟨1402, ⟨false, true⟩⟩]
        [⟨66, ⟨true, false⟩⟩, ⟨5120, ⟨false, true⟩⟩]).1 =
      [⟨66, ⟨true, false⟩⟩, ⟨0, ⟨false, true⟩⟩, ⟨5120, ⟨false, true⟩⟩] := by decide +kernel

/-- The example of R185: a write to WIND with first 2 and six records. -/
theorem test_write_wraps : (List.range 4).map (standingAt 2 6 4) = [some 2, some 3, some 4, some 5] := by decide +kernel

/-- "Worked sequence: one batch at BREEZY": the entries of S0, and of a locked S1. -/
theorem test_batch_at_breezy :
    let s := { (live.updStation 1 fun st => { st with holders := [⟨7, ⟨true, false⟩⟩] }) with
      wind := { live.wind with level := .breezy } }
    let t := after (.pointingBatch [entry 0 100000 900 4000 300, entry 1 30000 500 40000 200]) s
    (t.station 0).queue = [.setpoint ⟨100000, 750, 5000, 300⟩]
      ∧ (t.station 0).clipStatus = { noClip with targetClamp := true, windCap := true }
      ∧ (t.station 1).clipStatus = { noClip with lockout := true } ∧ (t.station 1).queue = [] := by decide +kernel

/-- "Worked sequence: link loss and recovery of a tracking station": LINK_LOST carries the reading 50000. -/
theorem test_link_lost :
    let s := { live with now := 51000 }.updStation 4 fun st => { st with link := .up ⟨50000, 1000⟩ }
    let t := after (.livenessDeadlineExpiry 4) s
    t.authority 4 = .held ∧ (t.faults.entries.get 1).map (fun e => (e.source, e.reason, e.detail)) =
      some (.station 4, .linkLost, 50000) := by decide +kernel

/-- "Worked sequence: two crew members on S3": the first LOCK, and the UNLOCK that starts clearing. -/
theorem test_lock_and_unlock :
    let t := after (.lock 3 2204 ⟨true, true⟩) live
    let u := after (.unlock 3 519 ⟨true, true⟩)
      (live.updStation 3 fun st => { st with holders := [⟨2204, ⟨false, true⟩⟩, ⟨519, ⟨true, false⟩⟩] })
    t.authority 3 = .locked ∧ (t.station 3).queue = [.lockReply ⟨2204, .taken, ⟨true, true⟩⟩]
      ∧ u.authority 3 = .clearing ∧ (u.station 3).queue = [.lockReply ⟨519, .released, noScope⟩, .horn true] := by decide +kernel

/-- "Worked sequence: a partial apply over S4-S7": the queued SETPOINT of S4. -/
theorem test_partial_apply :
    let s := { live.updStation 4 fun st => { st with queue := [.setpoint ⟨130000, 900, 42000, 300⟩] } with
      shadow := live.shadow.set 4 { installedEnvelope with azMin := -100000, azMax := 100000, azRateMax := 800 } }
    ((after (.envelopeApply 1 [4, 0]) s).station 4).queue = [.setpoint ⟨100000, 800, 42000, 300⟩] := by decide +kernel

/-- "Worked sequence: a storm stow with one locked station": the refresh at 705100, for S0. -/
theorem test_stow_refresh :
    let s := { stowed .moving with wind := { (stowed .moving).wind with level := .gusty } }.updStation 0 fun st =>
      { st with lastTelemetry := some ⟨41200, 62000, true, false, false, 0, 0⟩ }
    let t := after .stowRefreshExpiry s
    (t.station 0).demand = ⟨.stow, 500, 300, 41200, 88000, 4800⟩ ∧ (t.station 0).grant = ⟨500, 300, 4800⟩ := by decide +kernel

/-- "Worked sequence: levels under the default table": rises, and the release condition of GUSTY at 118 and at 123. -/
theorem test_levels :
    targetLevel defaultWind 112 78 = .breezy ∧ targetLevel defaultWind 156 96 = .gusty
      ∧ targetLevel defaultWind 205 95 = .stow ∧ releaseHolds defaultGusty 118 99 = true
      ∧ releaseHolds defaultGusty 123 101 = false ∧ releaseHolds defaultStow 150 112 = false := by decide +kernel

/-- "Worked sequence: lowering the budget while heaters run". -/
theorem test_budget_write_sheds :
    let z := fun (p w : Nat) => { defaultZone with enabled := 1, powerW := w, priority := p }
    let s := { live with
      now := 400000
      settings := { live.settings with
        zones := (((live.settings.zones.set 0 (z 0 8000)).set 12 (z 1 10000)).set 5 (z 2 6000)).set 11 (z 3 6000) } }
    let u := (((s.updZone 0 0 fun _ => onSince 100000).updZone 3 0 fun _ => onSince 200000).updZone 1 1 fun _ =>
      onSince 300000).updZone 2 3 fun _ => onSince 350000
    let t := after (.tableWrite 1 ([2, 0, 1] ++ encBudget ⟨30000, 8000, 0⟩)) u
    u.heatLoad = 30000 ∧ t.heatLoad = 18000 ∧ (t.zone 2 3).state = .shed ∧ (t.zone 1 1).offStart = some 400000 := by
  decide +kernel

/-- "Worked sequence: saving a commissioned configuration": the refused WIND write at 2100. -/
theorem test_wind_write_refused :
    windFailing ((defaultWind.set 2 { defaultGusty with gustOn := 90, gustOff := 80 })) 2 = some 6 := by decide +kernel

/-- "Worked sequence: a full table": a dropped report raises FAULT_NEW once. -/
theorem test_overflow :
    let full := { live with faults := { noFaults with
      entries := Tab.ofFn (fun i => some ⟨true, .slot (Fin.castLE (by decide) i), .sensorLost, 1, 1, 1, 0⟩) } }
    let t := recordFault (.station 5) .overrun 0 full
    t.faults.overflow = true ∧ t.attention.raised.faultNew = true
      ∧ (recordFault (.station 4) .driveFault 0 { t with attention := full.attention }).attention = full.attention := by
  decide +kernel

/-! ### States that meet the hypotheses of the statements

One theorem for each statement that has hypotheses, in the order of the statements; each clause at a boundary of its range
where it has one. -/

/-- Whether an outcome is a next state. -/
def isNext (o : Host.Outcome State Fault Refusal) : Bool :=
  match o with
  | .next _ => true
  | .fault _ | .refused _ => false

theorem exists_next {o : Host.Outcome State Fault Refusal} (h : isNext o = true) : ∃ t, o = .next t := by
  cases o with
  | next t => exact ⟨t, rfl⟩
  | fault f => cases f
  | refused r => cases h

/-- A cluster with something of everything: S0 tracking with a setpoint in its queue and a zone ON, S1 locked by six holders
for drive and heat, S2 with its link DOWN and a zone INHIBITED, an anemometer in service, a substituted slot, a transaction in
flight, traffic upstream, a saved copy and a latched cause. -/
def crowd : State :=
  let zoned := { defaultSettings with
    active := Tab.fill 8 installedEnvelope
    zones := (defaultSettings.zones.set 0 { defaultZone with enabled := 1, powerW := 38000 }).set 8
      { defaultZone with enabled := 1, powerW := 9000 } }
  let s0 := { upStation with
    queue := [.setpoint ⟨270000, 900, 90000, 300⟩, .horn false, .lockReply ⟨9, .bad, noScope⟩]
    freshness := some ⟨0, 200⟩
    demand := { noDemand with cls := .track, azSpeed := 900 }
    zones := upStation.zones.set 0 (onSince 0) }
  let s1 := { upStation with holders := (List.range 6).map fun k => ⟨BitVec.ofNat 16 k, ⟨true, true⟩⟩ }
  let s2 := { resetStation true (Tab.fill 4 (resetZone false)) with zones := upStation.zones.set 0 (resetZone true) }
  { live with
    settings := zoned
    store := { copy := some zoned, state := .saving, interrupted := false }
    stations := ((live.stations.set 0 s0).set 1 s1).set 2 s2
    slots := (live.slots.set 0 { resetSlot with state := .active, ring := List.replicate 32 90 }).set 1
      { resetSlot with state := .substituted, substitute := some (5, ⟨0, 1000⟩) }
    scanner := { resetScanner with
      state := .polling, transaction := some ⟨.poll 1, [⟨0, 1, false⟩], ⟨0, 20⟩⟩ }
    upQueue := [.telemetry 0 (telemetryAt 0 0 0), .alert ⟨.faultNew, .calm, noCauses, 1⟩]
    attention := { raised := noAttention.insert .faultNew, latched := some .lockChange } }

/-- The crowd with one command waiting. -/
def about (c : Instr) : State := { crowd with pending := [c] }

theorem witness_StepTakesTheFront :
    (∃ c rest s, State.pending s = c :: rest ∧ rest ≠ []) ∧ ∃ s : State, s.pending = [] :=
  ⟨⟨_, _, { crowd with pending := [.saveCompletion, .saveCompletion] }, rfl, by decide⟩, crowd, rfl⟩

theorem witness_FrameRoundTrip :
    (∃ i link f, i = .pointingBatch (List.replicate 157 (entry 7 (-1) 65535 (-1) 65535))
      ∧ isNodeAddress 0x7F = true ∧ i.wf 0x7F = true ∧ frameOfCommand 0x7F i = some (link, f)
      ∧ ∀ tag params x, i = .warmReset tag params x → x = 0x10)
    ∧ ∃ i link f, i = .warmReset 0xFF [1] 0x10 ∧ i.wf 0x10 = true ∧ frameOfCommand 0x10 i = some (link, f)
      ∧ ∀ tag params x, i = .warmReset tag params x → x = 0x10 := by
  refine ⟨⟨_, _, _, rfl, by decide, by decide +kernel, rfl, ?_⟩, _, _, _, rfl, by decide, rfl, ?_⟩
  · intro tag params x h
    cases h
  · intro tag params x h
    cases h
    rfl

/-- Every timer one millisecond short of its interval. -/
theorem witness_ExpiriesWaitForTheirTimers :
    let short : Option Timer := some ⟨0, 1000⟩
    let st := { upStation with
      freshness := short, clearing := short, warnTimer := short, stowTimeout := short
      zones := upStation.zones.set 0 { resetZone true with mismatch := short } }
    let s := { live with
      now := 999
      stations := Tab.fill 8 st
      wind := { live.wind with refresh := short, holdDown := short, blindTimer := short }
      scanner := { resetScanner with gapTimer := short, transaction := some ⟨.poll 1, [], ⟨0, 1000⟩⟩ }
      slots := Tab.fill 16 { resetSlot with substitute := some (1, ⟨0, 1000⟩) }
      melt := { resetMelt with hold := short } }
    (∀ d, (s.station 0).link = .up d → d.due s.now = false) ∧ timerDue (s.station 0).freshness s.now = false
      ∧ timerDue (s.station 0).clearing s.now = false ∧ timerDue (s.station 0).warnTimer s.now = false
      ∧ timerDue s.wind.refresh s.now = false ∧ timerDue (s.station 0).stowTimeout s.now = false
      ∧ timerDue s.wind.holdDown s.now = false ∧ timerDue s.wind.blindTimer s.now = false
      ∧ (∀ t, s.scanner.transaction = some t → t.deadline.due s.now = false) ∧ timerDue s.scanner.gapTimer s.now = false
      ∧ (∀ p, (s.slot 0).substitute = some p → p.2.due s.now = false) ∧ timerDue s.melt.hold s.now = false
      ∧ (s.zone 0 0).state ≠ .on ∧ (s.zone 0 0).offStart = none ∧ timerDue (s.zone 0 0).mismatch s.now = false
      ∧ s.store.state ≠ .saving := by
  refine ⟨?_, by decide +kernel, by decide +kernel, by decide +kernel, by decide +kernel, by decide +kernel,
    by decide +kernel, by decide +kernel, ?_, by decide +kernel, ?_, by decide +kernel, by decide +kernel,
    by decide +kernel, by decide +kernel, by decide +kernel⟩
  · rintro d ⟨⟩
    decide
  · rintro t ⟨⟩
    decide
  · rintro p ⟨⟩
    decide

/-- Zones whose min_on and min_off are not reached, one whose min_on was, and a mismatch deadline on a DISABLED zone. -/
theorem witness_ExpiriesWaitForTheirTimers_zones :
    let zones := ((upStation.zones.set 0 (onSince 0)).set 1 { onSince 0 with minOnReached := true }).set 2
      { resetZone true with state := .off, offStart := some 0 }
    let s := { with0 fun st =>
      { st with zones := zones.set 3 { resetZone false with mismatch := some ⟨0, 2000⟩ } } with now := 59999 }
    ((s.zone 0 0).state = .on ∧ (s.zone 0 0).onStart = some 0 ∧ (s.now - 0).toNat < (s.zoneRecord 0 0).minOn)
      ∧ ((s.zone 0 1).state = .on ∧ (s.zone 0 1).minOnReached = true)
      ∧ ((s.zone 0 2).offStart = some 0 ∧ (s.now - 0).toNat < (s.zoneRecord 0 2).minOff)
      ∧ (timerDue (s.zone 0 3).mismatch s.now = true ∧ (s.zone 0 3).state = .disabled) := by
  decide +kernel

theorem witness_LockoutLawsKept :
    ∃ s t : State, s.holderLaw ∧ s.clearingLaw ∧ (s.station 3).clearing = some ⟨0, 15000⟩ ∧ step s = .next t := by
  let s := (about (.lockReport 1 [⟨0, ⟨true, false⟩⟩])).updStation 3 fun st => { st with clearing := some ⟨0, 15000⟩ }
  obtain ⟨t, h⟩ := exists_next (o := step s) (by decide +kernel)
  exact ⟨_, t, by unfold State.holderLaw holderListLaw; decide +kernel, by unfold State.clearingLaw; decide +kernel,
    by decide +kernel, h⟩

theorem witness_HeatBlockLawKept :
    ∃ s t : State, s.heatSafe ∧ (s.zone 0 0).state = .on ∧ heatBlock (s.station 1) = true ∧ step s = .next t := by
  obtain ⟨t, h⟩ := exists_next (o := step (about (.lock 0 7 ⟨false, true⟩))) (by decide +kernel)
  exact ⟨_, t, by unfold State.heatSafe; decide +kernel, by decide +kernel, by decide +kernel, h⟩

theorem witness_MotionLawKept :
    ∃ s t : State, s.motionSafe ∧ (s.station 0).queue ≠ [] ∧ s.authority 1 = .locked ∧ step s = .next t := by
  obtain ⟨t, h⟩ := exists_next (o := step (about (.lock 0 7 ⟨true, false⟩))) (by decide +kernel)
  exact ⟨_, t, by unfold State.motionSafe; decide +kernel, by decide +kernel, by decide +kernel, h⟩

/-- The decidable reading of `limitSafe`. -/
theorem limitSafe_of (s : State)
    (h : (∀ n, (s.settings.active.get n).azMin < (s.settings.active.get n).azMax
          ∧ (s.settings.active.get n).elMin < (s.settings.active.get n).elMax)
      ∧ (∀ c ∈ s.store.copy, ∀ n, (c.active.get n).azMin < (c.active.get n).azMax
          ∧ (c.active.get n).elMin < (c.active.get n).elMax)
      ∧ ∀ n, ∀ sp ∈ queuedSetpoints (s.station n).queue, withinSoft (s.envelope n) sp.azTarget sp.elTarget = true) :
    s.limitSafe := h

theorem witness_SoftLimitLawKept : ∃ s t : State, s.limitSafe ∧ step s = .next t := by
  obtain ⟨t, h⟩ := exists_next (o := step (about (.powerOnReset 0x10 false false))) (by decide +kernel)
  exact ⟨_, t, limitSafe_of _ (by decide +kernel), h⟩

theorem witness_PowerLawKept : ∃ s t : State, s.powerSafe ∧ s.heatLoad = 38000 ∧ step s = .next t := by
  obtain ⟨t, h⟩ := exists_next (o := step (about (.powerOnReset 0x10 false false))) (by decide +kernel)
  refine ⟨_, t, ⟨by decide +kernel, ?_⟩, by decide +kernel, h⟩
  rintro c ⟨⟩
  decide +kernel

theorem queuesLaw_of (s : State)
    (h : ∀ n, (s.station n).queue.length ≤ 8
      ∧ (∀ k ∈ [EntryKind.setpoint, .heat, .horn, .pin, .linkUp], (s.station n).queue.countP (fun e => e.kind == k) ≤ 1)
      ∧ ((s.station n).link.isUp = false → (s.station n).queue = [] ∧ (s.station n).tx = none)) : s.queuesLaw := by
  intro n
  refine ⟨⟨(h n).1, fun k hk => (h n).2.1 k ?_⟩, (h n).2.2⟩
  cases k <;> first | exact absurd hk (by decide) | simp

theorem witness_QueueLawsKept : ∃ s t : State, s.queuesLaw ∧ s.upstreamLaw ∧ step s = .next t := by
  obtain ⟨t, h⟩ := exists_next (o := step (about (.lock 0 7 ⟨true, false⟩))) (by decide +kernel)
  exact ⟨_, t, queuesLaw_of _ (by decide +kernel), by unfold State.upstreamLaw; decide +kernel, h⟩

/-- Active stow by the STORM input, every station in one stage. -/
def storm (p : StowProgress) : State :=
  { live with
    stations := Tab.fill 8 { upStation with progress := p }
    stormInput := true
    wind := { live.wind with causes := { noCauses with stormLine := true }, refresh := some ⟨0, 100⟩ } }

theorem witness_StowLawsKept : ∃ s t : State, s.causeLaw ∧ s.stowLaw ∧ s.stowActive = true ∧ step s = .next t := by
  obtain ⟨t, h⟩ := exists_next (o := step { storm .moving with pending := [.stormInputChange false] }) (by decide +kernel)
  exact ⟨_, t, by unfold State.causeLaw; decide +kernel, by unfold State.stowLaw; decide +kernel, by decide +kernel, h⟩

theorem witness_SensingLawsKept : ∃ s t : State, s.slotsLaw ∧ s.scannerLaw ∧ step s = .next t := by
  obtain ⟨t, h⟩ := exists_next (o := step (about (.reading 1 100))) (by decide +kernel)
  exact ⟨_, t, by unfold State.slotsLaw slotLaw; decide +kernel, by unfold State.scannerLaw; decide +kernel, h⟩

theorem witness_ReportingLawsKept : ∃ s t : State, s.faultLaw ∧ s.restLaw ∧ step s = .next t := by
  obtain ⟨t, h⟩ := exists_next (o := step (about (.faultClear 1 [0, 9]))) (by decide +kernel)
  have law : ∀ i j, ∀ e ∈ (about (.faultClear 1 [0, 9])).faults.entries.get i,
      ∀ f ∈ (about (.faultClear 1 [0, 9])).faults.entries.get j, e.source = f.source → e.reason = f.reason → i = j := by decide +kernel
  exact ⟨_, t, fun i j e f hi hj => law i j e hi f hj, by unfold State.restLaw; decide +kernel, h⟩

theorem witness_SettingsLawsKept :
    (∃ s t : State, step s = .next t ∧ s.storeLaw ∧ s.store.state = .saving)
    ∧ ∃ s t : State, s.lockdown = true ∧ exec .millisecondCountAdvance s = .next t := by
  obtain ⟨t, h⟩ := exists_next (o := step (about .saveCompletion)) (by decide +kernel)
  exact ⟨⟨_, t, h, by unfold State.storeLaw; decide +kernel, rfl⟩, { crowd with lockdown := true }, _, rfl, rfl⟩

theorem witness_LatchedCauseStands :
    ∃ (c : Instr) (t : State), crowd.attention.latched = some .lockChange ∧ exec c crowd = .next t
      ∧ (∀ strap storm fails, c ≠ .powerOnReset strap storm fails) ∧ (∀ tag strap, c ≠ .warmReset tag [] strap)
      ∧ ∀ tag, c ≠ .alertAck tag (encU8 (causeCode .lockChange)) := by
  obtain ⟨t, h⟩ := exists_next (o := exec (.alertAck 0 [2]) crowd) (by decide +kernel)
  exact ⟨_, t, rfl, h, nofun, nofun, by intro tag h; injection h with _ h; exact absurd h (by decide)⟩

theorem witness_GrantsStayWithinTheFeed :
    (∃ s t, wellFormedBatch [entry 0 0 900 0 500] ∧ s.stowActive = false
      ∧ exec (.pointingBatch [entry 0 0 900 0 500]) s = .next t)
    ∧ ∃ s t, timerDue s.wind.refresh s.now = true ∧ exec .stowRefreshExpiry s = .next t := by
  obtain ⟨t, h⟩ := exists_next (o := exec (.pointingBatch [entry 0 0 900 0 500]) crowd) (by decide +kernel)
  obtain ⟨u, k⟩ := exists_next (o := exec .stowRefreshExpiry { storm .moving with now := 100 }) (by decide +kernel)
  exact ⟨⟨_, t, by unfold wellFormedBatch; decide, by decide +kernel, h⟩, _, u, by decide +kernel, k⟩

/-- A zone ON that a batch may shed at the whole feed, a zone in WAIT that then fits the headroom, and one that does not. -/
def heated : State :=
  { live with
    settings := { live.settings with
      zones := ((live.settings.zones.set 0 { defaultZone with enabled := 1, powerW := 38000, priority := 1 }).set 4
        { defaultZone with enabled := 1, powerW := 9000, priority := 3 }).set 8
        { defaultZone with enabled := 1, powerW := 39000, priority := 2 } }
    stations := ((live.stations.set 0 { upStation with
      zones := upStation.zones.set 0 { onSince 0 with minOnReached := true } }).set 1 { upStation with
        zones := upStation.zones.set 0 { resetZone true with state := .wait } }).set 2 { upStation with
          zones := upStation.zones.set 0 { resetZone true with state := .wait } } }

theorem witness_SheddingAndAdmission :
    let t := after (.pointingBatch [entry 0 0 900 9000 0]) heated
    let storming := { heated with
      stormInput := true, now := 100
      wind := { live.wind with causes := { noCauses with stormLine := true }, refresh := some ⟨0, 100⟩ } }
    let two := encBudget ⟨1, 1, 1⟩ ++ encBudget ⟨39999, 2000, 0⟩
    let u := after (.tableWrite 0 ([2, 0, 2] ++ two)) heated
    (wellFormedBatch [entry 0 0 900 9000 0] ∧ heated.stowActive = false
      ∧ isNext (exec (.pointingBatch [entry 0 0 900 9000 0]) heated) = true)
    ∧ ((t.zone 0 0).state = .shed ∧ (t.zone 1 0).state = .on ∧ (t.zone 2 0).state = .wait)
    ∧ (timerDue storming.wind.refresh storming.now = true ∧ isNext (exec .stowRefreshExpiry storming) = true)
    ∧ (heated.upstreamShort = false ∧ heated.store.state ≠ .saving ∧ two.length = (2 : Byte).toNat * 9
      ∧ budgetFailing (budgetOfBytes (two.drop 9)) = none)
    ∧ (u.zone 0 0).state = .shed := by
  unfold wellFormedBatch
  decide +kernel

/-- A Fault Table with no free entry. -/
def fullTable : FaultTable := { noFaults with
  entries := Tab.ofFn (fun i => some ⟨true, .slot (Fin.castLE (by decide) i), .sensorLost, 1, 1, 1, 0⟩) }

theorem witness_FaultRecording :
    (∃ e, live.faults.entries.get 0 = some e ∧ e.source = .cluster ∧ e.reason = .storeInvalid)
    ∧ (live.faults.entries.get 1 = none ∧ ∀ j < (1 : Fin 8), live.faults.entries.get j ≠ none)
    ∧ (∀ i, ∀ e ∈ fullTable.entries.get i, ¬(e.source = .upstream ∧ e.reason = .badFrame))
    ∧ ∀ i, fullTable.entries.get i ≠ none :=
  ⟨⟨resetStoreFault, by decide +kernel, rfl, rfl⟩, by decide +kernel, by decide +kernel, by decide +kernel⟩

theorem witness_StationQueueAdmission :
    let horn : StationEntry := .horn false
    let data : StationEntry := .cabinetData ⟨1, 0x80, []⟩
    let reply := fun b : Badge => StationEntry.lockReply ⟨b, .bad, noScope⟩
    (∃ pre x post, [reply 1, horn, data] = pre ++ x :: post ∧ x.kind = (StationEntry.horn true).kind
      ∧ ∀ y ∈ pre ++ post, y.kind ≠ (StationEntry.horn true).kind)
    ∧ ((∀ x ∈ List.replicate 7 data, x.kind ≠ (StationEntry.horn true).kind) ∧ (List.replicate 7 data).length < 8)
    ∧ (∃ pre f post, reply 1 :: List.replicate 7 data = pre ++ .cabinetData f :: post ∧ pre.length + post.length = 7
      ∧ ∀ y ∈ pre, y.kind ≠ .cabinetData)
    ∧ ∃ pre r post, horn :: List.replicate 7 (reply 2) = pre ++ .lockReply r :: post ∧ pre.length + post.length = 7
      ∧ (∀ y ∈ pre, y.kind ≠ .lockReply) ∧ ∀ y ∈ horn :: List.replicate 7 (reply 2), y.kind ≠ .cabinetData :=
  ⟨⟨[_], _, _, rfl, rfl, by decide⟩, by decide, ⟨[_], _, _, rfl, rfl, by decide⟩,
    [_], _, _, rfl, rfl, by decide, by decide⟩

theorem witness_Resets :
    let auto := fun b : Byte =>
      { live with settings := { live.settings with
        poll := { header := { autostart := 1, order := 0 }
                  slots := live.settings.poll.slots.set 0 { defaultSlotRecord with enabled := b } } } }
    (∃ c, crowd.store.copy = some c) ∧ { crowd.store with state := .valid }.state = .valid
      ∧ State.reset.store.state ≠ .valid ∧ crowd.store.state = .saving
      ∧ (after (.warmReset 0 [] 0x10) (auto 1)).scanner.state = .polling
      ∧ (after (.warmReset 0 [] 0x10) (auto 0)).scanner.state = .gap
      ∧ { live with upQueue := List.replicate 30 (.cabinetData ⟨1, 2, []⟩) }.upstreamShort = false :=
  ⟨⟨_, rfl⟩, rfl, by decide, rfl, by decide +kernel, by decide +kernel, by decide +kernel⟩

theorem witness_StormInputAndActivation :
    let noWarn := { live with settings := { live.settings with timing := { defaultTiming with stowWarn := 0 } } }
    let data : StationEntry := .cabinetData ⟨1, 0x80, []⟩
    let six := with0 fun st => { st with queue := List.replicate 6 data }
    (live.stowActive = (live.wind.causes.wind || false || live.wind.causes.blind || live.wind.causes.manual)
      ∧ (storm .moving).stowActive = true)
      ∧ live.stowActive = false ∧ (crowd.station 1).installed = true ∧ (crowd.authority 1).blocked = true
      ∧ (crowd.authority 0).blocked = false ∧ crowd.settings.timing.stowWarn ≠ 0 ∧ (State.reset.station 0).installed = false
      ∧ noWarn.settings.timing.stowWarn = 0 ∧ (noWarn.authority 0).blocked = false
      ∧ (six.station 0).tx.isSome = true ∧ (six.station 0).queue.length ≤ 6
      ∧ (∀ e ∈ (six.station 0).queue, e.kind ≠ .setpoint ∧ e.kind ≠ .horn)
      ∧ (with0 fun st => { st with tx := none }).idling 0 := by
  unfold State.idling
  decide +kernel

theorem witness_StowRelease :
    let idle := fun p => (storm p).updStation 0 fun st => { st with tx := none }
    (storm .stowed).wind.causes = { noCauses with stormLine := true } ∧ (storm .stowed).queuesLaw
      ∧ (storm .stowed).queueing 0 ∧ ((storm .stowed).station 0).installed = true
      ∧ isYes ((storm .stowed).envelope 0).pinFitted = true ∧ ((storm .moving).station 0).progress = .moving
      ∧ (storm .warning).authority 0 = .stowWarning ∧ (idle .stowed).idling 0 ∧ (idle .moving).idling 0
      ∧ (idle .stowed).authority 0 ≠ .stowWarning :=
  ⟨rfl, queuesLaw_of _ (by decide +kernel), by unfold State.queueing State.idling; decide +kernel⟩

theorem witness_BatchesNotTaken :
    let e := fun n : Byte => entry n 0 1 0 1
    let before := [e 0, e 1, e 2, e 3, e 4, e 5, e 6, e 7]
    (before ++ e 8 :: List.replicate 148 (e 0)).length = 157 ∧ (∀ a ∈ before, a.station.toNat ≤ 7)
      ∧ (before.map (·.station)).Nodup ∧ 7 < (e 8).station.toNat ∧ (e 7).station ∈ before.map (·.station)
      ∧ (storm .moving).stowActive = true ∧ wellFormedBatch before ∧ (storm .moving).restLaw := by
  unfold wellFormedBatch State.restLaw
  decide +kernel

theorem witness_BatchEntriesTaken :
    wellFormedBatch [entry 7 0 1000 0 500] ∧ live.stowActive = false ∧ live.limitSafe ∧ live.authority 7 = .idle
      ∧ crowd.limitSafe ∧ crowd.authority 0 = .tracking ∧ crowd.authority 1 = .locked ∧ crowd.authority 2 = .held
      ∧ (crowd.station 1).demand.cls ≠ .track ∧ (∀ b ∈ [entry 7 0 1000 0 500], b.station.toNat ≠ (0 : StationId).val)
      ∧ crowd.queueing 0 ∧ (with0 fun st => { st with tx := none }).idling 0
      ∧ (∀ z, ((after (.pointingBatch [entry 0 0 1000 0 500]) live).zone 0 z).state = (live.zone 0 z).state)
      ∧ (let s := with0 fun st => { st with demand := { noDemand with cls := .track, azSpeed := 900, elTarget := 5000 } }
        let t := after (.pointingBatch [entry 7 0 1000 0 500]) s
        s.authority 0 = .tracking ∧ (t.station 0).grant.azSpeed ≠ (s.station 0).grant.azSpeed
          ∧ ((after (.pointingBatch [entry 7 0 1000 0 500]) t).station 0).grant = (t.station 0).grant)
      ∧ (with0 fun st => { st with stale := true }).authority 0 = .coasting
      ∧ (with0 fun st => { st with clearing := some ⟨0, 1⟩ }).authority 0 = .clearing
      ∧ (with0 fun st => { st with faultLatch := .overrun }).authority 0 = .stopped
      ∧ ((with0 fun st => { st with installed := false }).authority 0 = .absent ∧ (live.station 0).demand.cls ≠ .track) :=
  ⟨by unfold wellFormedBatch; decide, by decide +kernel, limitSafe_of _ (by decide +kernel), by decide +kernel,
    limitSafe_of _ (by decide +kernel), by unfold State.queueing State.idling; decide +kernel⟩

theorem witness_CabinetDataForwarded :
    let data : StationEntry := .cabinetData ⟨1, 0x80, []⟩
    let holding := fun k => with0 fun st => { st with queue := List.replicate k data }
    let rest := with0 fun st => { st with tx := none }
    (rest.idling 0 ∧ { live with upTx := none }.upQueue = []
      ∧ ((after (.cabinetDataFromUpstream ⟨0xFF, 1, []⟩) (holding 8)).station 0).queue = List.replicate 8 data
      ∧ ((after (.cabinetDataFromUpstream ⟨0xFF, 1, []⟩) rest).station 0).tx = some (.cabinetData ⟨0xFF, 1, []⟩)) ∧ live.restLaw ∧ stationAddress 7 = 0x87 ∧ (holding 7).queueing 0 ∧ ((holding 7).station 0).queue.length < 8
      ∧ (holding 8).queueing 0 ∧ 8 ≤ ((holding 8).station 0).queue.length ∧ (crowd.station 2).link = .down
      ∧ (crowd.station 2).queue = [] ∧ (crowd.station 2).tx = none ∧ (live.station 0).link.isUp = true ∧ live.upTx.isSome = true := by
  unfold State.restLaw State.queueing State.idling
  decide +kernel

theorem witness_TelemetryTaken :
    let full := { live with upQueue := List.replicate 28 (.cabinetData ⟨1, 2, []⟩) }
    (∃ pre f' post, crowd.upQueue = pre ++ .telemetry 0 f' :: post ∧ ∀ e ∈ pre ++ post, e.isTelemetryOf 0 = false)
      ∧ crowd.upTx.isSome = true ∧ { live with upTx := none }.upQueue = []
      ∧ (crowd.station 0).link.isUp = true ∧ (crowd.station 0).clearing = none
      ∧ (crowd.station 1).queue = [] ∧ (crowd.station 0).tx.isSome = true
      ∧ (crowd.zone 0 0).state ≠ .disabled ∧ (crowd.zone 0 0).state ≠ .fault ∧ (crowd.zone 0 1).state = .disabled
      ∧ (∀ e ∈ full.upQueue, e.isTelemetryOf 0 = false)
      ∧ (after (.telemetry 0 (telemetryAt 0 5000 0)) full).upQueue = full.upQueue
      ∧ (after (.telemetry 0 (telemetryAt 0 5000 0)) { full with upQueue := full.upQueue.tail }).upQueue.length = 28 :=
  ⟨⟨[], _, _, rfl, by decide⟩, by decide +kernel⟩

/-- The envelope is the default one: -270000 to 270000 and 5000 to 90000, with an overrun margin of 500. -/
theorem witness_TelemetryLatches :
    (live.station 0).installed = true ∧ (live.station 0).faultLatch = .none ∧ (live.authority 0).permitting = true
      ∧ ((after (.telemetry 0 (telemetryAt 270501 5000 0)) live).station 0).faultLatch = .overrun
      ∧ ((after (.telemetry 0 (telemetryAt 270500 4500 2)) live).station 0).faultLatch = .driveFault
      ∧ ((after (.telemetry 0 (telemetryAt (-270500) 90500 0)) live).station 0).faultLatch = .none
      ∧ (State.reset.station 0).installed = false ∧ (storm .warning).authority 0 = .stowWarning
      ∧ ((after (.telemetry 0 (telemetryAt 0 90501 0)) (storm .warning)).station 0).faultLatch = .overrun
      ∧ ((after (.telemetry 0 (telemetryAt 0 90501 0)) live).faults.entries.get 1).map (·.detail) = some 0x01016185
      ∧ ((storm .warning).updStation 0 fun st => { st with tx := none }).idling 0 := by
  unfold State.idling
  decide +kernel

/-- The stow targets are azimuth 1000, kept from the last telemetry sent, and elevation 88000, with a tolerance of 200. -/
theorem witness_StowTest :
    let s := fun p => (storm p).updStation 0 fun st => { st with lastSent := some (1000, 88000) }
    (s .moving).authority 0 = .stowMoving ∧ (s .stowed).authority 0 = .stowStowed
      ∧ ((after (.telemetry 0 (telemetryAt 1000 88200 4)) (s .moving)).station 0).faultLatch = .none
      ∧ ((after (.telemetry 0 (telemetryAt 1000 88200 4)) (s .moving)).station 0).progress = .stowed
      ∧ ((after (.telemetry 0 (telemetryAt 1000 88201 4)) (s .moving)).station 0).progress = .moving
      ∧ ((after (.telemetry 0 (telemetryAt 1000 88200 0)) (s .stowed)).station 0).progress = .moving
      ∧ ((after (.telemetry 0 (telemetryAt 1000 88000 4)) (s .stowed)).station 0).progress = .stowed
      ∧ (s .moving).queueing 0 ∧ ((s .moving).updStation 0 fun st => { st with tx := none }).idling 0
      ∧ ((after (.telemetry 0 (telemetryAt 1000 88200 0)) (s .moving)).station 0).queue = [.pin true] := by
  unfold State.queueing State.idling
  decide +kernel

/-- Holders for two scopes; the crowd's S1 holds six records, badges 0 to 5. -/
theorem witness_LockFrame :
    let five := with0 fun st => { st with holders := (List.range 5).map fun k => ⟨BitVec.ofNat 16 (k + 1), ⟨false, true⟩⟩ }
    (∃ h ∈ (crowd.station 1).holders, h.badge = 5) ∧ (¬∃ h ∈ (crowd.station 1).holders, h.badge = 6)
      ∧ 6 ≤ (crowd.station 1).holders.length ∧ (five.station 0).holders.length < 6 ∧ (five.authority 0).permitting = true
      ∧ five.queueing 0 ∧ (five.station 0).queue.length ≤ 5 ∧ emptyScope noScope = true
      ∧ emptyScope ⟨true, false⟩ = false ∧ (storm .warning).authority 0 = .stowWarning
      ∧ ((after (.lock 1 6 ⟨true, false⟩) crowd).faults.entries.get 1).map (fun e => (e.reason, e.detail))
        = some (.lockFull, 6) := by
  unfold State.queueing
  decide +kernel

theorem witness_UnlockFrame :
    let s := with0 fun st => { st with holders := [⟨7, ⟨true, false⟩⟩, ⟨9, ⟨false, true⟩⟩] }
    (∃ h ∈ (s.station 0).holders, h.badge = 7) ∧ (¬∃ h ∈ (s.station 0).holders, h.badge = 8)
      ∧ (s.station 0).installed = true ∧ (s.station 0).link.isUp = true ∧ (s.station 0).lockReportSeen = true
      ∧ driveCount (s.station 0) ≠ 0 ∧ s.queueing 0 ∧ s.holderLaw
      ∧ ((((s.station 0).holders.map fun h => if h.badge = 7 then { h with scope := minusScope h.scope ⟨true, true⟩ } else h).filter
        fun h => !emptyScope h.scope).all fun h => !h.scope.drive) = true := by
  unfold State.queueing State.holderLaw holderListLaw
  decide +kernel

/-- A report of six crew badges over a list whose second record is the control room's, one of seven entries, and the first
report after reset. -/
theorem witness_LockReport :
    let es := (List.range 6).map fun k => ReportEntry.mk (BitVec.ofNat 16 (k + 1)) ⟨true, false⟩
    let crew : List Holder := es.map fun e => { badge := e.badge, scope := e.scope }
    (∃ pre room post, [Holder.mk 9 ⟨true, true⟩, ⟨0, ⟨true, true⟩⟩] = pre ++ room :: post ∧ room.badge = 0
      ∧ (∀ h ∈ pre, h.badge ≠ 0) ∧ ∃ sixth, crew.drop 5 = [sixth])
    ∧ (es.map (·.badge)).Nodup ∧ (∀ e ∈ es, e.badge ≠ 0 ∧ e.badge ≠ 0xFFFF ∧ emptyScope e.scope = false)
    ∧ es.length = 6 ∧ (es.drop 1).length ≤ 5 ∧ 6 < (es ++ es.take 1).length
    ∧ (let s := with0 fun st => { st with lockReportSeen := false }
      (s.station 0).installed = true ∧ (s.station 0).lockReportSeen = false ∧ (∀ h ∈ (s.station 0).holders, h.badge ≠ 0)
        ∧ driveCount ((after (.lockReport 0 [⟨7, ⟨false, true⟩⟩]) s).station 0) = 0)
    ∧ ((after (.lockReport 0 (es ++ es.take 1)) live).faults.entries.get 1).map (fun e => (e.reason, e.detail))
      = some (.badFrame, 7) :=
  ⟨⟨[_], _, _, rfl, rfl, by decide, _, rfl⟩, by decide +kernel, by decide +kernel, rfl, by decide, by decide,
    by decide +kernel, by decide +kernel⟩

/-- The cluster with a transaction that awaits slot 0, plausible from -100 to 100, in a state. -/
def awaiting (kind : Byte) (t : Slot) : State :=
  { live with
    settings := { live.settings with
      poll := { live.settings.poll with
        slots := live.settings.poll.slots.set 0 { defaultSlotRecord with
          enabled := 1, kind := kind, plausLow := -100, plausHigh := 100 } } }
    slots := live.slots.set 0 t
    scanner := { resetScanner with state := .stopping, transaction := some ⟨.poll 1, [⟨0, 1, false⟩], ⟨0, 20⟩⟩ } }

/-- A CLEARING station that a DRIVE claim reaches by each of its ways, and one that two ways make CLEARING. -/
theorem witness_clearingFollows :
    let s := with0 fun st => { st with clearing := some ⟨0, 15000⟩ }
    let held := with0 fun st => { st with holders := [⟨0, ⟨true, false⟩⟩] }
    (s.clearingLaw ∧ s.queuesLaw ∧ s.queueing 0 ∧ s.authority 0 = .clearing ∧ held.clearingLaw)
    ∧ ([.lock 0 7 ⟨true, false⟩, .remoteLock 0 [0, 1], .lockReport 0 [⟨7, ⟨true, false⟩⟩]] : List Instr).all (fun c =>
        let t := after c s
        t.authority 0 == .locked && (t.station 0).clearing == none
          && (t.station 0).queue.contains (.horn false)) = true
    ∧ ([.lock 0 7 ⟨false, true⟩, .remoteLock 0 [0, 2]] : List Instr).all (fun c =>
        (after c s).authority 0 == .clearing) = true
    ∧ (after (.remoteUnlock 0 [0, 1]) held).authority 0 = .clearing :=
  ⟨⟨by unfold State.clearingLaw; decide +kernel, queuesLaw_of _ (by decide +kernel), by unfold State.queueing; decide +kernel,
    by decide +kernel, by unfold State.clearingLaw; decide +kernel⟩, by decide +kernel⟩

/-- Zones at the beginning and at the end of a heat block, each by every way: ON to INHIBITED, and INHIBITED to OFF, or to
WAIT where the zone wants heat and its off-time is satisfied. -/
theorem witness_blockFollows :
    let zoned := fun hs x => (awaiting 2 { resetSlot with state := .active, latestValue := some (199, 0) }).updStation 0
      fun st => { st with holders := hs, zones := st.zones.set 0 x }
    let inhibited := { resetZone true with state := .inhibited }
    let claim := ⟨0, ⟨false, true⟩⟩
    let free := fun x => { zoned [] x with melt := { resetMelt with condition := true } }
    let block := fun x => { zoned [claim] x with melt := { resetMelt with condition := true } }
    (heatBlock ((free (onSince 0)).station 0) = false ∧ heatBlock ((block inhibited).station 0) = true)
    ∧ ([.lock 0 7 ⟨false, true⟩, .remoteLock 0 [0, 2], .lockReport 0 [⟨7, ⟨false, true⟩⟩]] : List Instr).all (fun c =>
        (after c (free (onSince 0))).zone 0 0 == { inhibited with offStart := some 0 }) = true
    ∧ ((after (.remoteUnlock 0 [0, 2]) (block inhibited)).zone 0 0).state = .wait
    ∧ ((after (.remoteUnlock 0 [0, 2]) (block { inhibited with offStart := some 0 })).zone 0 0).state = .off
    ∧ ((after (.remoteUnlock 0 [0, 2]) (block { inhibited with state := .fault })).zone 0 0).state = .fault
    ∧ ((after (.unlock 0 7 ⟨false, true⟩) { zoned [⟨7, ⟨false, true⟩⟩] inhibited with
        melt := { resetMelt with condition := true } }).zone 0 0).state = .wait
    ∧ ((after (.lockReport 0 []) { zoned [⟨7, ⟨false, true⟩⟩] inhibited with melt := resetMelt }).zone 0 0).state
      = .off := by
  decide +kernel

/-- The replies that a report and the control room's requests leave in the queue. -/
theorem witness_replies :
    let s := with0 fun st => { st with holders := [⟨0, ⟨true, true⟩⟩] }
    (s.queueing 0 ∧ (s.station 0).queue.length ≤ 5 ∧ ((s.station 0).holders.map (·.badge)).Nodup)
    ∧ ((after (.lockReport 0 [⟨7, ⟨true, false⟩⟩]) s).station 0).queue = [.lockReply ⟨0, .standing, ⟨true, true⟩⟩]
    ∧ ((after (.lockReport 0 [⟨7, ⟨true, false⟩⟩]) live).station 0).queue = []
    ∧ ((after (.remoteLock 0 [0, 1]) live).station 0).queue = [.lockReply ⟨0, .taken, ⟨true, false⟩⟩]
    ∧ ((after (.remoteLock 0 [0, 1]) s).station 0).queue = [.lockReply ⟨0, .merged, ⟨true, true⟩⟩]
    ∧ ((after (.remoteUnlock 0 [0, 2]) s).station 0).queue.head? = some (.lockReply ⟨0, .released, ⟨true, false⟩⟩) := by
  unfold State.queueing
  decide +kernel

theorem witness_FrameEnds :
    (∃ e rest, (crowd.station 0).link.isUp = true ∧ (crowd.station 0).queue = e :: rest)
      ∧ (crowd.station 1).queue = [] ∧ (∃ e rest, crowd.upQueue = e :: rest) ∧ live.upQueue = [] :=
  ⟨⟨_, _, rfl, rfl⟩, rfl, ⟨_, _, rfl⟩, rfl⟩

/-- Readings at the plausible bounds and beyond, with two and with three misses, a full ring, and the values beside the
deadband of 50 on either side of a crossing level of 0; two slots of one address; and the last anemometer lost. -/
theorem witness_ReadingTaken :
    let t := { resetSlot with state := .active, ring := List.replicate 32 90 }
    let took := fun kind slot raw => (after (.reading 1 (BitVec.ofInt 16 raw)) (awaiting kind slot)).slot 0
    (∃ tr, (awaiting 0 t).scanner.transaction = some tr ∧ answeredBy tr 1 = [0])
      ∧ slotKindOf 0 = some .windSpeed ∧ slotKindOf 1 = some .airTemp
      ∧ (took 0 t 100).ring = List.replicate 31 90 ++ [100] ∧ (took 0 t 100).latestValue = some (100, 0)
      ∧ (took 1 resetSlot (-51)).side = .cold ∧ (took 1 resetSlot 51).side = .warm ∧ (took 1 resetSlot 50).side = .unknown
      ∧ (took 0 { t with miss := 1 } 101).miss = 2 ∧ (took 0 { t with miss := 2 } (-101)).state = .outOfService
      ∧ (took 0 { resetSlot with state := .outOfService, miss := 3 } 101).miss = 3
      ∧ (let sub := { resetSlot with state := .substituted, substitute := some (5, ⟨0, 1000⟩) }
        ((awaiting 0 sub).slot 0).state = .substituted ∧ (awaiting 0 sub).scanner.state = .stopping
          ∧ (took 0 sub 100).state = .substituted)
      ∧ (answeredBy ⟨.poll 1, [⟨0, 1, false⟩, ⟨8, 1, false⟩], ⟨0, 20⟩⟩ 1 = [0, 8] ∧ [(0 : SlotId), 8].Nodup)
      ∧ (let lost := { awaiting 0 { t with miss := 2 } with
          now := 7, wind := { live.wind with level := .breezy, holdDown := some ⟨0, 60000⟩, blindTimer := none } }
        (lost.slotRecord 0).kind = 0 ∧ (∀ j, (lost.slot j).state ≠ .substituted)
          ∧ (after (.reading 1 101) lost).wind =
            { live.wind with level := .breezy, holdDown := none, blindTimer := some ⟨7, 30000⟩ }) :=
  ⟨⟨_, rfl, by decide⟩, by decide +kernel⟩

/-- The awaiting cluster with slot 0 plausible up to 3000, at a wind level. -/
def windy (kind : Byte) (t : Slot) (l : WindLevel) : State :=
  let s := awaiting kind t
  { s with
    settings := { s.settings with
      poll := { s.settings.poll with
        slots := s.settings.poll.slots.set 0 { s.slotRecord 0 with plausHigh := 3000 } } }
    wind := { s.wind with level := l } }

theorem isTargetLevel_of (t : Tab 4 WindRecord) (g u : Int) (l : WindLevel)
    (h : (l ≠ .calm → thresholdMet (t.get (levelIndex l)) g u = true)
      ∧ ∀ m ∈ [WindLevel.calm, .breezy, .gusty, .stow], levelIndex l < levelIndex m →
        thresholdMet (t.get (levelIndex m)) g u = false) : isTargetLevel t g u l :=
  ⟨h.1, fun m => h.2 m (by cases m <;> decide)⟩

/-- Gusts beside the thresholds of the default table: BREEZY from 100 and released below 80, STOW from 200; an anemometer in
service before, and the first one under a blind stow. -/
theorem witness_WindReading :
    let active := { resetSlot with state := .active }
    let took := fun t l raw => after (.reading 1 raw) (windy 0 t l)
    let blind := { windy 0 resetSlot .calm with
      wind := { (windy 0 resetSlot .calm).wind with
        causes := { noCauses with blind := true }, blindTimer := none, refresh := some ⟨0, 100⟩ } }
    (∃ tr, (windy 0 active .calm).scanner.transaction = some tr ∧ answeredBy tr 1 = [0])
    ∧ ((windy 0 active .calm).slotRecord 0).kind = 0 ∧ (∀ j, ((windy 0 active .calm).slot j).state ≠ .substituted)
    ∧ isTargetLevel defaultWind 100 100 .breezy ∧ isTargetLevel defaultWind 99 99 .calm
    ∧ isTargetLevel defaultWind 200 200 .stow
    ∧ ((took active .calm 99).wind.level = .calm ∧ (took active .calm 100).wind.level = .breezy
      ∧ (took active .calm 200).wind.level = .stow ∧ (took active .calm 200).stowActive = true
      ∧ (took active .breezy 79).wind.holdDown = some ⟨0, 60000⟩ ∧ (took active .breezy 80).wind.holdDown = none
      ∧ (after (.reading 1 50) blind).stowActive = false ∧ (took resetSlot .calm 50).wind.blindTimer = none
      ∧ (took active .calm 50).wind.blindTimer ≠ none) :=
  ⟨⟨_, rfl, by decide⟩, by decide +kernel, by decide +kernel, isTargetLevel_of _ _ _ _ (by decide +kernel),
    isTargetLevel_of _ _ _ _ (by decide +kernel), isTargetLevel_of _ _ _ _ (by decide +kernel), by decide +kernel⟩

/-- The surface slot of S0 below, between and at its thresholds: setpoint 200, hysteresis 150, overtemperature 2500. -/
theorem witness_SnowMelting :
    let cold := { windy 2 resetSlot .calm with melt := { resetMelt with condition := true } }
    let zoned := fun x => cold.updZone 0 0 fun _ => x
    let on := { onSince 0 with minOnReached := true }
    let off := { resetZone true with state := .off }
    let took := fun x raw => ((after (.reading 1 raw) (zoned x)).zone 0 0).state
    (∃ tr, cold.scanner.transaction = some tr ∧ answeredBy tr 1 = [0]) ∧ (cold.slotRecord 0).kind = 2
    ∧ (∀ j, (cold.slot j).state ≠ .substituted) ∧ cold.isSurfaceSlot 0 0 0 ∧ ¬cold.isSurfaceSlot 1 0 0
    ∧ (took on 2500 = .fault ∧ took on 2499 = .off ∧ took on 350 = .off ∧ took on 349 = .on
      ∧ took (onSince 0) 2499 = .on ∧ took off 199 = .wait ∧ took off 200 = .off
      ∧ took { off with offStart := some 0 } 199 = .off
      ∧ took { off with state := .shed, offStart := some 0 } 199 = .shed ∧ took { off with state := .shed } 200 = .off
      ∧ took { off with state := .wait } 200 = .off ∧ took { off with state := .fault } 199 = .fault) := by
  refine ⟨⟨_, rfl, by decide⟩, by decide +kernel, by decide +kernel, ?_, ?_, by decide +kernel⟩
  · unfold State.isSurfaceSlot
    decide +kernel
  · unfold State.isSurfaceSlot
    decide +kernel

/-- Air temperatures beside the lower bound of the deadband of 50 under a crossing level of 0, on a slot that was WARM; and a
precipitation value that makes the condition with another slot COLD. -/
theorem witness_AirAndPrecipitation :
    let air := fun dir =>
      let s := awaiting 1 { resetSlot with state := .active, side := .warm }
      { s with settings := { s.settings with
        poll := { s.settings.poll with slots := s.settings.poll.slots.set 0 { s.slotRecord 0 with crossDir := dir } } } }
    let rain :=
      let s := awaiting 3 { resetSlot with state := .active }
      { s with
        now := 9
        settings := { s.settings with
          poll := { s.settings.poll with slots := s.settings.poll.slots.set 1 { defaultSlotRecord with kind := 1 } } }
        slots := s.slots.set 1 { resetSlot with state := .active, side := .cold } }
    let latched := fun (raw : Int) s => (after (.reading 1 (BitVec.ofInt 16 raw)) s).attention.latched
    ((∃ tr, (air 1).scanner.transaction = some tr ∧ answeredBy tr 1 = [0]) ∧ (air 1).restLaw ∧ rain.restLaw)
    ∧ ((air 1).slotRecord 0).kind = 1 ∧ (rain.slotRecord 0).kind = 3 ∧ (∀ j, (rain.slot j).state ≠ .substituted)
    ∧ (latched (-51) (air 1) = some .freezeCross ∧ latched (-51) (air 3) = some .freezeCross
      ∧ latched (-51) (air 2) = none ∧ latched (-50) (air 1) = none)
    ∧ ((after (.reading 1 1) rain).melt
        = { resetMelt with condition := true, stamp := some 9, hold := some ⟨9, defaultTiming.precipHold⟩ }
      ∧ latched 1 rain = some .meltChange ∧ (after (.reading 1 0) rain).melt = rain.melt ∧ latched 0 rain = none) :=
  ⟨⟨⟨_, rfl, by decide⟩, by unfold State.restLaw; decide +kernel, by unfold State.restLaw; decide +kernel⟩,
    by decide +kernel⟩

/-- Sixteen slots with the addresses 1 to 16, all enabled but slot 3; slot 1 is substituted, and two slots are awaited. -/
def passing (order : PassOrder) : State :=
  { live with
    settings := { live.settings with
      poll := { live.settings.poll with
        slots := Tab.ofFn fun i : SlotId => { defaultSlotRecord with
          enabled := if i = 3 then 0 else 1, address := BitVec.ofNat 8 (i.val + 1), kind := 2 } } }
    slots := live.slots.set 1 { resetSlot with state := .substituted, substitute := some (5, ⟨0, 60000⟩) }
    scanner := { resetScanner with
      state := .polling, mode := .continuous, order := order, position := 1, issued := true
      transaction := some ⟨.pollPair 1 9, [⟨0, 1, false⟩, ⟨8, 9, false⟩], ⟨0, 40⟩⟩ } }

/-- The frame, the awaited slots and the deadline of the transaction in flight. -/
def polled (s : State) : Option (PollFrame × List SlotId × Timer) :=
  s.scanner.transaction.map fun tr => (tr.frame, tr.awaited.map (·.slot), tr.deadline)

/-- One of two answers, both, and the deadline; then slot 2 alone after the substituted slot 1, or slot 9 of the pair 1 and
9; and a list that ends at slot 3. -/
theorem witness_PassesGoOn :
    let s := passing .sequential
    let p := passing .paired
    let one := after (.reading 1 7) s
    let both := after (.reading 9 7) one
    (∃ tr, s.scanner.transaction = some tr ∧ (∃ a ∈ tr.awaited, a.answered = false ∧ a.address = 1)
      ∧ (∃ a ∈ tr.awaited, a.answered = false ∧ a.address ≠ 1) ∧ tr.deadline.due 40 = true)
    ∧ (one.scanner.state = .polling ∧ one.scanner.position = 1 ∧ polled one = polled s)
    ∧ polled both = some (.poll 3, [2], ⟨0, 20⟩) ∧ (both.slot 1).latestValue = some (5, 0)
    ∧ polled (after (.reading 9 7) (after (.reading 1 7) p)) = some (.poll 10, [9], ⟨0, 20⟩)
    ∧ polled (after .transactionDeadlineExpiry { p with now := 40 }) = some (.poll 10, [9], ⟨40, 20⟩)
    ∧ (after .transactionDeadlineExpiry { s with
        now := 40, scanner := { s.scanner with position := 3 } }).scanner.state = .gap
    ∧ (after .transactionDeadlineExpiry { s with
        now := 40, scanner := { s.scanner with state := .stopping } }).scanner.state = .idle :=
  ⟨⟨_, rfl, by decide⟩, by decide +kernel⟩

/-- The two ways a pass begins, in either order. -/
theorem witness_PassesGoOn_starts :
    let gap := { passing .paired with
      now := 250
      scanner := { resetScanner with state := .gap, mode := .continuous, order := .paired, gapTimer := some ⟨0, 250⟩ } }
    let idle := { passing .sequential with scanner := resetScanner }
    (timerDue gap.scanner.gapTimer 250 = true ∧ polled (after .passGapExpiry gap) = some (.pollPair 1 9, [0, 8], ⟨250, 40⟩))
    ∧ idle.upstreamShort = false ∧ idle.scanner.state = .idle
    ∧ polled (after (.scanStart 0 [1, 0]) idle) = some (.poll 1, [0], ⟨0, 20⟩)
    ∧ polled (after (.scanStart 0 [0, 1]) idle) = some (.pollPair 1 9, [0, 8], ⟨0, 40⟩) := by
  decide +kernel

theorem witness_DroppedFrames :
    (live.nodeAddress = 0x10 ∧ stationAddress 0 = 0x80 ∧ stationAddress 7 = 0x87)
      ∧ (¬((0x88 : Byte) = live.nodeAddress ∨ (0x88 : Byte) = 0xFF ∨ ∃ m, (0x88 : Byte) = stationAddress m))
      ∧ live.restLaw ∧ (live.station 0).link.isUp = true
      ∧ (∀ tr, (awaiting 0 resetSlot).scanner.transaction = some tr → answeredBy tr 2 = [])
      ∧ ∀ tr, live.scanner.transaction = some tr → answeredBy tr 1 = [] := by
  refine ⟨by decide +kernel, by decide +kernel, by unfold State.restLaw; decide +kernel, by decide +kernel, ?_, ?_⟩
  · rintro tr ⟨⟩
    decide
  · rintro tr ⟨⟩

/-- The deadline is due exactly at its interval, across the wrap. -/
theorem witness_LinkLost :
    let s := { crowd with now := 999 }.updStation 0 fun st =>
      { st with link := .up ⟨BitVec.ofInt 32 (-1), 1000⟩, clearing := some ⟨0, 15000⟩ }
    (∃ d, (s.station 0).link = .up d ∧ d.due s.now = true) ∧ (s.station 0).installed = true
      ∧ (s.station 0).clearing.isSome = true ∧ (crowd.authority 0).permitting = true ∧ s.heatSafe
      ∧ ((s.station 0).zones.get 0).state = .on ∧ ((s.station 0).zones.get 1).state = .disabled :=
  ⟨⟨_, rfl, by decide⟩, by decide +kernel, by decide +kernel, by decide +kernel, by unfold State.heatSafe; decide +kernel,
    by decide +kernel⟩

theorem witness_ClearingExpiry :
    let due := some (Timer.mk 0 15000)
    let s := { with0 fun st => { st with clearing := due } with now := 15000 }
    let t := { storm .pending with now := 15000 }.updStation 0 fun st => { st with clearing := due }
    let noWarn := { t with settings := { t.settings with timing := { defaultTiming with stowWarn := 0 } } }
    let idle := t.updStation 0 fun st => { st with tx := none }
    (timerDue (s.station 0).clearing s.now = true ∧ s.authority 0 = .clearing ∧ (s.station 0).faultLatch = .none
      ∧ s.stowActive = false ∧ (s.station 0).stale = false ∧ (s.station 0).demand.cls ≠ .track ∧ s.queueing 0)
    ∧ (timerDue (t.station 0).clearing t.now = true ∧ t.authority 0 = .clearing ∧ t.stowActive = true
      ∧ (t.station 0).progress = .pending ∧ t.settings.timing.stowWarn ≠ 0 ∧ t.queueing 0)
    ∧ s.queuesLaw ∧ t.queuesLaw
    ∧ (s.updStation 0 fun st => { st with faultLatch := .overrun }).authority 0 = .clearing
    ∧ noWarn.authority 0 = .clearing ∧ noWarn.stowActive = true ∧ noWarn.settings.timing.stowWarn = 0
    ∧ idle.idling 0 ∧ ((after (.clearingExpiry 0) idle).station 0).tx = some (.horn true)
    ∧ ((s.updStation 0 fun st => { st with installed := false }).station 0).installed = false := by
  refine ⟨by unfold State.queueing; decide +kernel, by unfold State.queueing; decide +kernel,
    queuesLaw_of _ (by decide +kernel), queuesLaw_of _ (by decide +kernel), by unfold State.idling; decide +kernel⟩

theorem witness_FreshnessWarnAndStowTimeoutExpiry :
    let f := { crowd with now := 200 }
    let s := { storm .warning with now := 5000 }.updStation 0 fun st => { st with warnTimer := some ⟨0, 5000⟩ }
    let t := { storm .moving with now := 180000 }.updStation 0 fun st => { st with stowTimeout := some ⟨0, 180000⟩ }
    (timerDue (f.station 0).freshness f.now = true ∧ f.authority 0 = .tracking ∧ f.queuesLaw ∧ f.queueing 0)
      ∧ timerDue (s.station 0).warnTimer s.now = true ∧ timerDue (t.station 0).stowTimeout t.now = true ∧ s.queuesLaw
      ∧ s.queueing 0 :=
  ⟨⟨by decide +kernel, by decide +kernel, queuesLaw_of _ (by decide +kernel), by unfold State.queueing; decide +kernel⟩,
    by decide +kernel, by decide +kernel, queuesLaw_of _ (by decide +kernel), by unfold State.queueing; decide +kernel⟩

theorem witness_StowRefresh :
    let s := { storm .moving with now := 100 }.updStation 1 fun st => { st with progress := .stowed }
    timerDue s.wind.refresh s.now = true ∧ s.authority 0 = .stowMoving ∧ s.authority 1 ≠ .stowMoving ∧ s.queuesLaw
      ∧ s.queueing 0 :=
  ⟨by decide +kernel, by decide +kernel, by decide +kernel, queuesLaw_of _ (by decide +kernel),
    by unfold State.queueing; decide +kernel⟩

theorem witness_WindTimerExpiries :
    let s := { awaiting 0 { resetSlot with state := .active, ring := [150] } with
      now := 60000
      wind := { live.wind with level := .breezy, holdDown := some ⟨0, 60000⟩, blindTimer := some ⟨30000, 30000⟩ } }
    timerDue s.wind.holdDown s.now = true ∧ s.worstGust = some 150 ∧ s.worstSustained = some 150
      ∧ { s with slots := live.slots }.worstGust = none ∧ s.wind.level ≠ .calm ∧ timerDue s.wind.blindTimer s.now = true
      ∧ s.stowActive = false ∧ (storm .moving).stowActive = true := by
  decide +kernel

theorem witness_ScannerTimerExpiries :
    let s := { awaiting 0 { resetSlot with miss := 1 } with now := 20 }
    let g := { s with
      now := 250, scanner := { resetScanner with state := .gap, mode := .continuous, gapTimer := some ⟨0, 250⟩ } }
    let lost := { awaiting 0 { resetSlot with state := .active, miss := 2 } with now := 20 }
    (∃ tr a, s.scanner.transaction = some tr ∧ tr.deadline.due s.now = true ∧ tr.awaited = [a] ∧ a.slot = 0
      ∧ a.answered = false)
    ∧ (∃ tr, (passing .paired).scanner.transaction = some tr ∧ tr.deadline.due 40 = true
      ∧ (tr.awaited.map (·.slot)).Nodup ∧ tr.awaited.length = 2)
    ∧ ((lost.slot 0).state = .active ∧ (lost.slotRecord 0).kind = 0 ∧ (∀ j, (lost.slot j).state ≠ .substituted)
      ∧ (after .transactionDeadlineExpiry lost).wind.blindTimer = some ⟨20, 30000⟩)
    ∧ ((s.slot 0).state = .idle ∧ (s.slot 0).miss < 2 ∧ s.scanner.state = .stopping)
    ∧ ((awaiting 0 { resetSlot with state := .active, miss := 2 }).slot 0).state = .active
    ∧ ((awaiting 0 { resetSlot with state := .outOfService, miss := 3 }).slot 0).state = .outOfService
    ∧ (timerDue g.scanner.gapTimer g.now = true ∧ g.scanner.order = .sequential ∧ isYes (g.slotRecord 0).enabled = true
      ∧ (g.slot 0).state ≠ .substituted ∧ g.scanner.mode = .continuous ∧ isYes (live.slotRecord 0).enabled = false)
    ∧ ∃ p, (crowd.slot 1).substitute = some p ∧ p.2.due 1000 = true ∧ (crowd.slot 1).state = .substituted :=
  ⟨⟨_, _, rfl, by decide, rfl, rfl, rfl⟩, ⟨_, rfl, by decide⟩, by decide +kernel, by decide +kernel, by decide +kernel,
    by decide +kernel, by decide +kernel, _, rfl, by decide, rfl⟩

theorem witness_MeltTimerExpiries :
    let short := some (Timer.mk 0 2000)
    let s := { (crowd.updZone 0 1 fun _ => { resetZone true with state := .shed, offStart := some 0 }).updZone 0 2 fun _ =>
        { resetZone true with mismatch := short } with
      now := 120000, melt := { resetMelt with hold := some ⟨0, 120000⟩, condition := true } }
    timerDue s.melt.hold s.now = true ∧ s.melt.condition ≠ (s.melt.mode == .forceOn)
      ∧ (s.zone 0 0).onStart = some 0 ∧ (s.zone 0 0).state = .on ∧ (s.zone 0 0).minOnReached = false
      ∧ (s.zoneRecord 0 0).minOn ≤ (s.now - 0).toNat ∧ s.wants 0 0 = false ∧ s.wants 0 1 = false
      ∧ (s.zone 0 1).offStart = some 0 ∧ (s.zone 0 1).state = .shed ∧ (s.zoneRecord 0 1).minOff ≤ (s.now - 0).toNat
      ∧ timerDue (s.zone 0 2).mismatch s.now = true ∧ (s.zone 0 2).state ≠ .disabled ∧ (s.zone 0 2).state ≠ .fault
      ∧ (s.zone 0 2).state ≠ .on := by
  decide +kernel

/-- The end of the hold changes a condition and turns a zone in WAIT to OFF; a mismatch turns a zone that is ON to FAULT. -/
theorem witness_MeltTimerExpiries_changes :
    let s := { awaiting 2 { resetSlot with state := .active, latestValue := some (199, 0) } with
      now := 120000, melt := { resetMelt with hold := some ⟨0, 120000⟩, condition := true } }
    let wet := s.updZone 0 0 fun _ => { resetZone true with state := .wait }
    let on := s.updZone 0 0 fun _ => { onSince 0 with mismatch := some ⟨0, 2000⟩ }
    (timerDue wet.melt.hold wet.now = true ∧ ((after .precipHoldExpiry wet).zone 0 0).state = .off)
    ∧ (timerDue (on.zone 0 0).mismatch on.now = true ∧ (on.zone 0 0).state = .on
      ∧ ((after (.mismatchDeadlineExpiry 0 0) on).zone 0 0).faultReason = some .contactor
      ∧ ((after (.mismatchDeadlineExpiry 0 0) on).faults.entries.get 1).map (·.reason) = some .contactor) := by
  decide +kernel

/-- A zone that wants heat: its surface slot is slot 0, one below its setpoint of 200. -/
theorem witness_MeltTimerExpiries_wanting :
    let s := awaiting 2 { resetSlot with state := .active, latestValue := some (199, 0) }
    { s with melt := { resetMelt with condition := true } }.wants 0 0 = true := by
  decide +kernel

theorem witness_SaveAndCompletion :
    live.upstreamShort = false ∧ { live with lockdown := true }.lockdown = true
      ∧ (crowd.upstreamShort = false ∧ crowd.lockdown = false ∧ crowd.store.state = .saving)
      ∧ live.lockdown = false ∧ live.store.state ≠ .saving := by
  decide +kernel

/-- The request code and the parameters of a management request, as numbers. -/
def parts (i : Instr) : Option (Nat × List Nat) := (requestParts i).map fun p => (p.2.1.toNat, p.2.2.map (·.toNat))

/-- Queue lengths 30 and 31, and a request for each way of being turned away. -/
theorem witness_RequestsTurnedAway :
    (List.replicate 31 (UpEntry.cabinetData ⟨1, 2, []⟩)).length = 31
      ∧ (List.replicate 30 (UpEntry.cabinetData ⟨1, 2, []⟩)).length ≤ 30
      ∧ [.statusRead 0 [1], .stationRead 0 [], .remoteLock 0 [0], .tableRead 0 [0, 0], .slotSubstitute 0 [],
          .scanStart 0 [0, 2], .meltModeSet 0 [3], .alertAck 0 [7], .stationResume 0 [8], .slotRestore 0 [16],
          .zoneFaultClear 0 [32], .remoteLock 0 [8, 1], .remoteUnlock 0 [7, 4], .unknownRequestCode 0 0x1A [],
          .slotSubstitute 0 [16, 0, 0, 0, 0, 0, 0]].map parts =
        [some (0x01, [1]), some (0x02, []), some (0x0C, [0]), some (0x04, [0, 0]), some (0x11, []), some (0x0F, [0, 2]),
          some (0x18, [3]), some (0x15, [7]), some (0x0E, [8]), some (0x12, [16]), some (0x17, [32]), some (0x0C, [8, 1]),
          some (0x0D, [7, 4]), some (0x1A, []), some (0x11, [16, 0, 0, 0, 0, 0, 0])] := by
  decide +kernel

/-- Of the table reads, codes, first indices and counts beside each boundary: WIND has four records. -/
theorem witness_ReadRequests :
    live.upstreamShort = false ∧ 7 < (8 : Byte).toNat
      ∧ respByteOf (after (.tableRead 5 [3, 3, 4]) live) = some 0x00 ∧ respByteOf (after (.tableRead 5 [3, 4, 1]) live) = some 0x03
      ∧ respByteOf (after (.tableRead 5 [3, 0, 5]) live) = some 0x03 ∧ respByteOf (after (.tableRead 5 [3, 0, 0]) live) = some 0x03
      ∧ respByteOf (after (.tableRead 5 [7, 0, 1]) live) = some 0x03
      ∧ respByteOf (after (.tableRead 5 [6, 31, 32]) live) = some 0x00 := by
  decide +kernel

theorem witness_StatusAndStationReads :
    crowd.upstreamShort = false ∧ (7 : Byte).toNat = (7 : StationId).val ∧ (0 : Byte).toNat = (0 : StationId).val
      ∧ respByteOf (after (.statusRead 5 []) crowd) = some 0x00
      ∧ respByteOf (after (.stationRead 5 [7]) crowd) = some 0x00 := by
  decide +kernel

theorem witness_TableWrites :
    live.upstreamShort = false ∧ live.lockdown = false ∧ live.store.state ≠ .saving ∧ crowd.store.state = .saving
      ∧ crowd.scanner.state ≠ .idle ∧ (encTiming defaultTiming).length = 48 ∧ (encBudget defaultBudget).length = 9
      ∧ timingFailing (timingOfBytes (encTiming defaultTiming)) = none
      ∧ timingFailing (timingOfBytes (List.replicate 48 0)) ≠ none
      ∧ budgetFailing (budgetOfBytes (encBudget ⟨2000, 2000, 1⟩)) = none
      ∧ budgetFailing (budgetOfBytes (encBudget ⟨1999, 2000, 1⟩)) ≠ none
      ∧ (7 : Byte).toNat < 8 ∧ lastPlaced 7 10 8 0 9 ∧ ¬lastPlaced 7 10 8 0 1 ∧ notPlaced 6 3 8 1 ∧
      [[], [0, 0], [7, 0, 1], [1, 0, 1], [0, 8, 1], [2, 0, 0], [2, 0, 33], [2, 0, 1]].map
        (fun bs => respByteOf (after (.tableWrite 0 bs) live)) = List.replicate 8 (some 0x03) ∧ (List.replicate (32 * 44) (0 : Byte)).length = 32 * 44 := by
  unfold lastPlaced notPlaced
  decide +kernel

theorem witness_TableWriteConsumers :
    let two := encWind defaultCalm ++ encWind defaultBreezy
    live.upQueue.length ≤ 30 ∧ live.store.state ≠ .saving ∧ live.lockdown = false ∧ live.scanner.state = .idle
      ∧ live.worstGust = none ∧ (encWind defaultStow).length = 16
      ∧ windFailing (live.settings.wind.set 3 (windOfBytes 3 (encWind defaultStow))) 3 = none
      ∧ windFailing (live.settings.wind.set 3 (windOfBytes 3 (List.replicate 16 0xFF))) 3 ≠ none
      ∧ (encSlot defaultSlotRecord).length = 18 ∧ slotFailing (slotOfBytes (encSlot defaultSlotRecord)) = none
      ∧ slotFailing (slotOfBytes (List.replicate 18 0xFF)) ≠ none
      ∧ (encZone { defaultZone with enabled := 1, powerW := 4000 }).length = 18
      ∧ zoneFailing (zoneOfBytes (encZone { defaultZone with enabled := 1, powerW := 4000 })) = none
      ∧ zoneFailing (zoneOfBytes (List.replicate 18 0xFF)) ≠ none ∧ (crowd.zone 0 0).state = .on
      ∧ heatBlock (crowd.station 1) = true ∧ isYes (live.zoneRecord 0 0).enabled = false
      ∧ two.length = 2 * 16 ∧ lastPlaced 3 2 4 3 0 ∧ lastPlaced 3 2 4 0 1 ∧ notPlaced 3 2 4 1 ∧ lastPlaced 16 2 17 16 0
      ∧ respByteOf (after (.tableWrite 0 ([3, 3, 2] ++ encWind defaultStow ++ encWind defaultCalm)) live) = some 0x00
      ∧ respByteOf (after (.tableWrite 0 ([5, 16, 1] ++ List.replicate 18 0xFF)) live) = some 0x0A
      ∧ respByteOf (after (.tableWrite 0 ([5, 16, 1] ++ List.replicate 18 0)) live) = some 0x00
      ∧ (let s := { awaiting 0 { resetSlot with state := .active } with scanner := resetScanner, now := 9 }
        (s.slotRecord 0).kind = 0 ∧ (s.slot 0).state = .active
          ∧ (after (.tableWrite 0 ([5, 0, 1] ++ encSlot defaultSlotRecord)) s).wind.blindTimer = some ⟨9, 30000⟩) := by
  unfold lastPlaced notPlaced
  decide +kernel

/-- Scopes at their boundaries: all eight stations, the last pair, a misaligned pair and a width of 16. -/
theorem witness_EnvelopeApply :
    let aligned := fun first m : Byte => ¬(3 < m.toNat ∨ 7 < first.toNat ∨ first.toNat % 2 ^ m.toNat ≠ 0)
    let removed := with0 fun st => { st with installed := false }
    let stowing := (storm .pending).updStation 0 fun st =>
      { st with installed := false, progress := .none, queue := [.setpoint ⟨0, 0, 9000, 0⟩] }
    let out := { live with shadow := Tab.fill 8 defaultEnvelope }
    aligned 0 3 ∧ aligned 6 1 ∧ aligned 7 0 ∧ ¬aligned 7 1 ∧ ¬aligned 0 4 ∧ ¬aligned 8 0
      ∧ live.authority 0 = .idle ∧ (live.station 0).holders = [] ∧ (live.station 0).progress = .none
      ∧ envelopeFailing (live.shadow.get 0) = none ∧ crowd.authority 2 = .held ∧ (crowd.station 1).holders ≠ []
      ∧ ((storm .warning).station 0).progress = .warning ∧ ((storm .moving).station 0).progress = .moving
      ∧ (after (.envelopeApply 0 [0, 0]) removed).authority 0 = .clearing
      ∧ (after (.envelopeApply 0 [0, 0]) (removed.updStation 0 fun st => { st with link := .down, tx := none })).authority 0
        = .held
      ∧ stowing.stowActive = true ∧ (stowing.station 0).tx.isSome = true
      ∧ ((after (.envelopeApply 0 [0, 0]) stowing).station 0).progress = .pending
      ∧ (after (.envelopeApply 0 [0, 0]) out).authority 0 = .absent
      ∧ envelopeFailing { installedEnvelope with azMin := 270000 } ≠ none := by
  decide +kernel

theorem witness_ClearAllAndLockdown :
    live.upstreamShort = false ∧ crowd.authority 2 = .held ∧ { crowd with lockdown := true }.lockdown = true
      ∧ (¬∃ n, live.authority n = .held ∨ (live.station n).holders ≠ [] ∨ (live.station n).progress = .warning
        ∨ (live.station n).progress = .moving) := by
  decide +kernel

theorem witness_StowRequests :
    live.upstreamShort = false ∧ live.stowActive = false ∧ live.wind.causes.manual = false ∧ (storm .moving).stowActive = true
      ∧ { live with wind := { live.wind with causes := { noCauses with manual := true } } }.wind.causes
        = { noCauses with manual := true } := by
  decide +kernel

theorem witness_RemoteLocks :
    let five := with0 fun st => { st with holders := (List.range 5).map fun k => ⟨BitVec.ofNat 16 (k + 1), ⟨false, true⟩⟩ }
    let six := with0 fun st => { st with holders := (List.range 6).map fun k => ⟨BitVec.ofNat 16 (k + 1), ⟨false, true⟩⟩ }
    (∃ h ∈ (crowd.station 1).holders, h.badge = 0) ∧ crowd.upstreamShort = false ∧ crowd.holderLaw
      ∧ (¬∃ h ∈ (five.station 0).holders, h.badge = 0) ∧ (five.station 0).holders.length < 6
      ∧ (crowd.queueing 1 ∧ (crowd.station 1).queue.length ≤ 5 ∧ five.queueing 0 ∧ (five.station 0).queue.length ≤ 5)
      ∧ (five.authority 0).permitting = true ∧ (¬∃ h ∈ (six.station 0).holders, h.badge = 0)
      ∧ 6 ≤ (six.station 0).holders.length ∧ 1 ≤ (3 : Byte).toNat ∧ (3 : Byte).toNat ≤ 3 := by
  unfold State.holderLaw holderListLaw State.queueing
  decide +kernel

theorem witness_ResumeAndMeltRequests :
    let latched := fun az fault => with0 fun st =>
      { st with faultLatch := .overrun, lastTelemetry := some ⟨az, 5000, true, fault, false, 0, 0⟩ }
    let faulted := fun hs => with0 fun st => { st with
      holders := hs, zones := st.zones.set 3 { resetZone true with state := .fault, faultReason := some .contactor } }
    (live.upstreamShort = false ∧ (live.station 0).faultLatch = .none ∧ ((latched 0 true).station 0).faultLatch ≠ .none)
    ∧ (withinSoft (live.envelope 0) 270001 5000 = false ∧ withinSoft (live.envelope 0) 270000 5000 = true)
    ∧ ((latched 0 false).authority 0 = .stopped ∧ (latched 0 false).stowActive = false
      ∧ ((latched 0 false).station 0).demand.cls = .none ∧ ((latched 0 false).station 0).stale = false)
    ∧ (((faulted []).zone 0 3).state = .fault ∧ (live.zone 0 3).state ≠ .fault
      ∧ heatBlock ((faulted []).station 0) = false ∧ heatBlock ((faulted [⟨7, ⟨false, true⟩⟩]).station 0) = true
      ∧ (faulted []).surfaceValue 0 3 = none ∧ ((faulted []).station 0).lastTelemetry = none)
    ∧ (31 : Byte).toNat = 4 * (7 : StationId).val + (3 : ZoneNum).val ∧ (2 : Byte).toNat = meltModeCode .forceOff
    ∧ (after (.meltModeSet 0 [1]) live).melt.condition ≠ live.melt.condition := by
  decide +kernel

/-- A zone in FAULT under a surface value one below and at its overtemperature threshold of 2500, and with its contactor
reported closed; and a latched station under active stow, with a stow warning and without. -/
theorem witness_ResumeAndMeltRequests_refusals :
    let faulted := fun v contactors =>
      { (awaiting 2 { resetSlot with state := .active, latestValue := some (v, 0) }).updStation 0 fun st => { st with
        zones := st.zones.set 0 { resetZone true with state := .fault, faultReason := some .overtemp }
        lastTelemetry := some ⟨0, 5000, true, false, false, contactors, 0⟩ } with upTx := none }
    let stopped := fun p => (storm p).updStation 0 fun st =>
      { st with faultLatch := .overrun, lastTelemetry := some ⟨0, 5000, true, false, false, 0, 0⟩ }
    let noWarn := fun s : State => { s with settings := { s.settings with timing := { defaultTiming with stowWarn := 0 } } }
    let resumed := fun s => (after (.stationResume 0 [0]) s).authority 0
    (faulted 2500 0).isSurfaceSlot 0 0 0
    ∧ (((faulted 2500 0).zone 0 0).state = .fault ∧ ((faulted 2500 0).slot 0).state = .active
      ∧ respByteOf (after (.zoneFaultClear 0 [0]) (faulted 2500 0)) = some 0x0B
      ∧ (faulted 2499 1).surfaceValue 0 0 = some 2499
      ∧ respByteOf (after (.zoneFaultClear 0 [0]) (faulted 2499 1)) = some 0x0B
      ∧ respByteOf (after (.zoneFaultClear 0 [0]) (faulted 2499 2)) = some 0x00)
    ∧ ((stopped .pending).authority 0 = .stopped ∧ (stopped .pending).stowActive = true
      ∧ ((stopped .pending).station 0).clearing = none
      ∧ resumed (stopped .pending) = .stowWarning ∧ resumed (noWarn (stopped .pending)) = .stowMoving
      ∧ resumed (stopped .moving) = .stowMoving ∧ resumed (stopped .stowed) = .stowStowed) := by
  unfold State.isSurfaceSlot
  decide +kernel

theorem witness_ScanAndSlotRequests :
    let s := awaiting 0 { resetSlot with state := .outOfService, miss := 3 }
    let idle := { s with scanner := resetScanner }
    (s.upstreamShort = false ∧ s.scanner.state ≠ .idle ∧ idle.scanner.state = .idle
      ∧ isYes (idle.slotRecord 0).enabled = true ∧ (idle.slot 0).state ≠ .substituted)
    ∧ ((999 : BitVec 32) ≠ 0 ∧ (999 : BitVec 32).toNat < 1000 ∧ 600000 < (600001 : BitVec 32).toNat)
    ∧ ((after (.slotSubstitute 0 ([0] ++ word16 100 ++ word32 1000)) idle).slot 0).substitute = some (100, ⟨0, 1000⟩)
    ∧ ((after (.slotSubstitute 0 ([0] ++ word16 (BitVec.ofInt 16 (-100)) ++ word32 0)) idle).slot 0).substitute
      = some (-100, ⟨0, 60000⟩)
    ∧ respByteOf (after (.slotSubstitute 0 ([0] ++ word16 101 ++ word32 600000)) idle) = some 0x0A
    ∧ respByteOf (after (.slotSubstitute 0 ([0] ++ word16 100 ++ word32 600001)) idle) = some 0x0A
    ∧ respByteOf (after (.slotSubstitute 0 ([15] ++ word16 100 ++ word32 0)) idle) = some 0x0B
    ∧ (crowd.slot 0).state = .active ∧ (crowd.slot 1).state = .substituted ∧ (crowd.slot 2).state = .idle := by
  decide +kernel

theorem witness_FaultAndClipLogClears :
    let s := { live with faults := { live.faults with overflow := true } }
    let seen := { live with faults := ⟨fullTable.entries, true, true⟩ }
    (live.upstreamShort = false ∧ live.faults.entries.get 1 = none ∧ live.faults.overflow = false)
    ∧ respByteOf (after (.faultClear 0 [0, 9]) live) = some 0x07 ∧ respByteOf (after (.faultClear 0 [0, 8]) live) = some 0x03
    ∧ respByteOf (after (.faultClear 0 [7, 0]) seen) = some 0x00 ∧ respByteOf (after (.faultClear 0 [8, 13]) s) = some 0x07
    ∧ respByteOf (after (.faultClear 0 [8, 13]) seen) = some 0x00 ∧ respByteOf (after (.faultClear 0 [8, 14]) seen) = some 0x03
    ∧ respByteOf (after (.faultClear 0 [9, 0]) seen) = some 0x03
    ∧ respByteOf (after (.clipLogClear 0 [7]) live) = some 0x00 ∧ respByteOf (after (.clipLogClear 0 [8]) live) = some 0x03
    ∧ respByteOf (after (.clipLogClear 0 [0xFF]) live) = some 0x00 := by
  decide +kernel

theorem witness_FaultReadAndAlertAck :
    crowd.upstreamShort = false ∧ (∃ e, crowd.faults.entries.get 0 = some e) ∧ crowd.faults.entries.get 1 = none
      ∧ crowd.attention.latched = some .lockChange ∧ crowd.attention.latched ≠ some .faultNew
      ∧ crowd.attention.raised.highest = some .faultNew :=
  ⟨by decide +kernel, ⟨resetStoreFault, by decide +kernel⟩, by decide +kernel⟩

/-! ### States for the clauses that several statements share, and for records and contents as bytes -/

/-- A record of every table in bytes, written out from R67, R105, R128, R152, R187 and R199: a negative limit, KEEP, the code of
a level's record and a negative offset among them. -/
theorem test_record_bytes :
    envelopeBytes installedEnvelope =
        [1, 0xFF, 0xFB, 0xE1, 0x50, 0x00, 0x04, 0x1E, 0xB0, 0x00, 0x00, 0x13, 0x88, 0x00, 0x01, 0x5F, 0x90, 0x03, 0xE8, 0x01, 0xF4,
          0x05, 0xDC, 0x04, 0x00, 0x04, 0x00, 0x7F, 0xFF, 0xFF, 0xFF, 0x00, 0x01, 0x57, 0xC0, 0x01, 0xF4, 0x01, 0x2C, 0x00, 0xC8, 1,
          0x01, 0xF4]
      ∧ budgetBytes defaultBudget = [0x00, 0x00, 0x9C, 0x40, 0x00, 0x00, 0x07, 0xD0, 0]
      ∧ windBytes defaultGusty =
        [24, 0x00, 0x96, 0x00, 0x78, 1, 0x00, 0x6E, 0x00, 0x5A, 0, 0x00, 0x01, 0xD4, 0xC0, 50]
      ∧ slotBytes { defaultSlotRecord with calB := -150 } =
        [0, 0, 1, 0x40, 0x00, 0xFF, 0x6A, 0x00, 0x00, 0x7F, 0xFF, 0, 0x0F, 0x00, 0x00, 0x00, 0x32, 1]
      ∧ zoneBytes defaultZone =
        [0, 0x00, 0x00, 0, 0x00, 0xC8, 0x00, 0x96, 0x09, 0xC4, 0x00, 0x01, 0xD4, 0xC0, 0x00, 0x00, 0xEA, 0x60]
      ∧ (timingBytes defaultTiming).length = 48 ∧ (timingBytes defaultTiming).drop 44 = [0x00, 0x00, 0x07, 0xD0] := by
  decide +kernel

/-- Records at the ends of what their bytes carry, and one of each that the default tables hold. -/
theorem witness_TableWrites_bytes :
    (envelopeFits installedEnvelope
      ∧ envelopeFits { installedEnvelope with azMin := -0x80000000, azMax := 0x7FFFFFFF, holdW := 65535, stowAz := .position (-1) }
      ∧ ¬envelopeFits { installedEnvelope with stowAz := .position 0x7FFFFFFF })
    ∧ (fits 4 0xFFFFFFFF ∧ ¬fits 4 0x100000000) ∧ (∀ ms ∈ timingTimes defaultTiming, fits 4 ms)
    ∧ (windFits { defaultStow with gustOn := 65535, holdDown := 0xFFFFFFFF, pct := 255 } ∧ windAt 3 defaultStow = defaultStow
      ∧ windAt 0 { defaultBreezy with wf := 16 } ≠ { defaultBreezy with wf := 16 })
    ∧ (slotFits { defaultSlotRecord with calB := -32768, plausHigh := 32767 } ∧ ¬slotFits { defaultSlotRecord with calB := 32768 })
    ∧ zoneFits { defaultZone with setpoint := -32768, minOn := 0xFFFFFFFF }
    ∧ headerOfBytes (headerBytes { autostart := 1, order := 1 }) = { autostart := 1, order := 1 } := by
  have position : ∀ v : Int, fitsSigned 4 v → v ≠ 0x7FFFFFFF →
      ∀ p, StowAz.position v = .position p → fitsSigned 4 p ∧ p ≠ 0x7FFFFFFF := by
    rintro v h h' p ⟨⟩
    exact ⟨h, h'⟩
  refine ⟨⟨⟨?_, ?_, nofun⟩, ⟨?_, ?_, position _ ?_ ?_⟩, fun h => (h.2.2 _ rfl).2 rfl⟩, ?_, ?_, ⟨?_, ?_, ?_⟩, ⟨?_, ?_⟩, ?_, ?_⟩ <;>
    first
    | (unfold fitsSigned; decide +kernel)
    | (unfold fits; decide +kernel)
    | (unfold windFits fits; decide +kernel)
    | (unfold slotFits fits fitsSigned; decide +kernel)
    | (unfold zoneFits fits fitsSigned; decide +kernel)
    | decide +kernel

/-- A tracking station and one in STOW-WARNING whose authority turns by each of its ways, and claims that turn none. -/
theorem witness_motionFollows :
    let tracking := with0 fun st => { st with
      queue := [.setpoint ⟨270000, 900, 90000, 300⟩], freshness := some ⟨0, 200⟩, demand := { noDemand with cls := .track } }
    let warned := (storm .warning).updStation 0 fun st => { st with warnTimer := some ⟨0, 5000⟩ }
    let lose := fun s : State => after (.livenessDeadlineExpiry 0) { s with now := 1000 }
    let claims : List Instr := [.lock 0 7 ⟨true, false⟩, .remoteLock 0 [0, 1], .lockReport 0 [⟨7, ⟨true, false⟩⟩]]
    let mild : List Instr := [.lock 0 7 ⟨false, true⟩, .remoteLock 0 [0, 2], .lockReport 0 [⟨7, ⟨false, true⟩⟩]]
    ((tracking.authority 0).permitting = true ∧ (warned.authority 0).permitting = true ∧ tracking.queueing 0
      ∧ tracking.queuesLaw)
    ∧ (claims.all fun c =>
        let t := after c tracking
        t.authority 0 == .locked && (t.station 0).demand == noDemand && (t.station 0).freshness == none
          && queuedSetpoints (t.station 0).queue == [tracking.stopSetpoint 0]) = true
    ∧ (claims.all fun c =>
        let t := after c warned
        t.authority 0 == .locked && (t.station 0).warnTimer == none && (t.station 0).progress == .warning
          && (t.station 0).queue.contains (.horn false)) = true
    ∧ (mild.all fun c =>
        ((after c warned).station 0).warnTimer.isSome && ((after c tracking).station 0).demand.cls == .track) = true
    ∧ ((lose tracking).authority 0 = .held ∧ ((lose tracking).station 0).demand = noDemand
      ∧ ((lose warned).station 0).warnTimer = none ∧ ((lose warned).station 0).progress = .warning) := by
  refine ⟨⟨by decide +kernel, by decide +kernel, ?_, queuesLaw_of _ (by decide +kernel)⟩, by decide +kernel⟩
  unfold State.queueing
  decide +kernel

/-- Changes of a list that turn no authority, each with its LOCK_CHANGE, and frames and requests that change nothing. -/
theorem witness_lockNews :
    let held := fun hs => with0 fun st => { st with holders := hs }
    let down := (held []).updStation 0 fun st => { st with lockReportSeen := false }
    let news := fun (c : Instr) s =>
      let t := after c s
      (t.attention.latched, t.attention.raised.lockChange)
    let both : List Holder := [⟨0, ⟨true, true⟩⟩, ⟨7, ⟨true, true⟩⟩]
    ((held both).restLaw ∧ (held both).clearingLaw ∧ down.authority 0 = .held ∧ (held both).authority 0 = .locked)
    ∧ (news (.lock 0 7 ⟨false, true⟩) live = (some .lockChange, false)
      ∧ news (.lock 0 7 ⟨true, false⟩) (held [⟨7, ⟨false, true⟩⟩]) = (some .lockChange, false)
      ∧ news (.unlock 0 7 ⟨false, true⟩) (held [⟨7, ⟨false, true⟩⟩]) = (some .lockChange, false)
      ∧ news (.remoteLock 0 [0, 1]) (held [⟨7, ⟨true, true⟩⟩]) = (some .lockChange, false)
      ∧ news (.remoteLock 0 [0, 1]) down = (some .lockChange, false)
      ∧ news (.lockReport 0 []) live = (some .lockChange, false))
    ∧ (news (.lock 0 7 ⟨true, true⟩) (held both) = (none, false)
      ∧ news (.unlock 0 8 ⟨true, true⟩) (held both) = (some .faultNew, false)
      ∧ news (.remoteLock 0 [0, 2]) (held both) = (none, false)
      ∧ news (.remoteUnlock 0 [0, 1]) live = (none, false)
      ∧ news (.lockReport 0 [⟨0xFFFF, ⟨true, false⟩⟩]) live = (some .faultNew, false)) := by
  unfold State.restLaw State.clearingLaw
  decide +kernel

/-- A report with an entry of badge 0 and with a badge that stands twice (R92). -/
theorem witness_LockReport_badges :
    let es : List ReportEntry := [⟨0, ⟨true, false⟩⟩, ⟨9, ⟨false, true⟩⟩, ⟨7, ⟨true, false⟩⟩, ⟨9, ⟨true, false⟩⟩]
    let room := with0 fun st => { st with holders := [⟨0, ⟨false, true⟩⟩] }
    crewOf es = [⟨9, ⟨true, true⟩⟩, ⟨7, ⟨true, false⟩⟩]
      ∧ ((after (.lockReport 0 es) live).station 0).holders = [⟨9, ⟨true, true⟩⟩, ⟨7, ⟨true, false⟩⟩]
      ∧ ((after (.lockReport 0 es) room).station 0).holders = [⟨0, ⟨false, true⟩⟩, ⟨9, ⟨true, true⟩⟩, ⟨7, ⟨true, false⟩⟩]
      ∧ ((after (.lockReport 0 (es.take 1)) room).station 0).holders = [⟨0, ⟨false, true⟩⟩] := by
  decide +kernel

/-- A surface slot substituted below, at and above its thresholds of 200 and 2500; an anemometer with a full ring; and an air
temperature beside the deadband of 50. -/
theorem witness_ScanAndSlotRequests_values :
    let lost := { resetSlot with state := .outOfService, miss := 3 }
    let put := fun (v : Int) s => after (.slotSubstitute 0 ([0] ++ word16 (BitVec.ofInt 16 v) ++ word32 0)) s
    let melting := { windy 2 lost .calm with melt := { resetMelt with condition := true } }
    let zoned := fun x v => put v (melting.updZone 0 0 fun _ => x)
    let off := { resetZone true with state := .off }
    melting.isSurfaceSlot 0 0 0
    ∧ ((zoned (onSince 0) 2500).zone 0 0).faultReason = some .overtemp
    ∧ ((zoned (onSince 0) 2500).faults.entries.get 1).map (fun e => (e.source, e.reason, e.detail)) =
      some (.station 0, .overtemp, 2500)
    ∧ ((zoned (onSince 0) 2499).zone 0 0).state = .on ∧ ((zoned off 199).zone 0 0).state = .wait
    ∧ ((zoned off 200).zone 0 0).state = .off
    ∧ ((put 90 (windy 0 lost .calm)).slot 0).ring = [90] ∧ (put 200 (windy 0 lost .calm)).wind.level = .stow
    ∧ (put 200 (windy 0 lost .calm)).worstGust = some 200
    ∧ ((put (-51) (awaiting 1 lost)).slot 0).side = .cold ∧ ((put 50 (awaiting 1 lost)).slot 0).side = .unknown := by
  refine ⟨?_, by decide +kernel⟩
  unfold State.isSurfaceSlot
  decide +kernel

/-- A pass that a gap begins meets the one substituted slot: a surface slot at its overtemperature threshold, and a
precipitation slot beside an air-temperature slot that is COLD. -/
theorem witness_PassesGoOn_values :
    let sub := fun v => { resetSlot with state := .substituted, substitute := some (v, ⟨0, 60000⟩) }
    let gap := fun s : State => { s with
      now := 250, scanner := { resetScanner with state := .gap, mode := .continuous, gapTimer := some ⟨0, 250⟩ } }
    let hot := (gap (windy 2 (sub 2500) .calm)).updZone 0 0 fun _ => onSince 0
    let cold := gap (windy 3 (sub 1) .calm)
    let rain := { cold with
      settings := { cold.settings with
        poll := { cold.settings.poll with slots := cold.settings.poll.slots.set 1 { defaultSlotRecord with kind := 1 } } }
      slots := cold.slots.set 1 { resetSlot with state := .active, side := .cold } }
    (timerDue hot.scanner.gapTimer hot.now = true ∧ hot.scanner.transaction = none ∧ rain.scanner.transaction = none
      ∧ (∀ j, j ≠ 0 → (rain.slot j).state ≠ .substituted))
    ∧ ((after .passGapExpiry hot).zone 0 0).faultReason = some .overtemp
    ∧ ((after .passGapExpiry hot).faults.entries.get 1).map (·.reason) = some .overtemp
    ∧ (after .passGapExpiry rain).melt
      = { resetMelt with condition := true, stamp := some 250, hold := some ⟨250, defaultTiming.precipHold⟩ }
    ∧ (after .passGapExpiry rain).attention.latched = some .meltChange := by
  decide +kernel

/-- Activations by a request, a reading and the blind timer, and releases by a request, a reading and the hold-down: each in
one way at every station. -/
theorem witness_stowFollows :
    let caused := fun (c : StowCauses) (l : WindLevel) (p : StowProgress) =>
      let s := windy 0 { resetSlot with state := .active, ring := [10] } l
      { s with
        stations := Tab.fill 8 { upStation with progress := p, queue := [.setpoint ⟨0, 900, 9000, 0⟩] }
        now := 600000
        wind := { s.wind with
          causes := c, refresh := some ⟨0, 100⟩, holdDown := some ⟨0, 600000⟩, blindTimer := some ⟨570000, 30000⟩ } }
    let calm := caused noCauses .calm .none
    let blind := { caused { noCauses with blind := true } .calm .moving with slots := live.slots }
    let started := fun c =>
      let t := after c calm
      t.stowActive && t.attention.latched == some .stowChange && t.wind.refresh == some ⟨600000, 100⟩
        && stationIds.all fun n => (t.station n).progress == .warning
          && (t.station n).queue == [.setpoint (calm.stopSetpoint n), .horn true]
    let ended := fun c (s : State) =>
      let t := after c s
      s.stowActive && !t.stowActive && t.attention.latched == some .stowChange && t.wind.refresh == none
        && stationIds.all fun n => (t.station n).progress == .none
          && (t.station n).queue == [.setpoint (s.stopSetpoint n), .pin false]
    calm.stowActive = false
    ∧ ([.stowRequest 0 [], .reading 1 200, .blindTimerExpiry] : List Instr).all started = true
    ∧ ended (.stowRelease 0 []) (caused { noCauses with manual := true } .calm .moving) = true
    ∧ ended (.reading 1 50) blind = true
    ∧ ended .holdDownExpiry (caused { noCauses with wind := true } .stow .moving) = true := by
  decide +kernel

/-- POLL_LIST writes over two anemometers in service, at 10 and at 160: the other is left, at STOW or below BREEZY, and then
none is; and the surface slot of a zone written. -/
theorem witness_TableWriteConsumers_slots :
    let active := fun v => { resetSlot with state := .active, ring := [v], latestValue := some (v, 0) }
    let s0 := windy 0 (active 10) .calm
    let s := { s0 with
      now := 9, scanner := resetScanner, slots := s0.slots.set 1 (active 160)
      settings := { s0.settings with
        poll := { s0.settings.poll with slots := s0.settings.poll.slots.set 1 { s0.slotRecord 0 with address := 2 } } }
      wind := { s0.wind with level := .breezy, holdDown := some ⟨0, 60000⟩, blindTimer := none } }
    let m0 := windy 2 (active 199) .calm
    let m := { m0 with scanner := resetScanner, melt := { resetMelt with mode := .forceOn, condition := true } }.updZone 0 0
      fun _ => { resetZone true with state := .wait }
    let written := fun (first : Byte) s => after (.tableWrite 0 ([5, first, 1] ++ slotBytes defaultSlotRecord)) s
    ((s.slot 0).state = .active ∧ (s.slot 1).state = .active ∧ s.stowActive = false)
    ∧ ((written 0 s).wind.level = .stow ∧ (written 0 s).stowActive = true ∧ (written 0 s).wind.blindTimer = none)
    ∧ ((written 1 s).wind.level = .breezy ∧ (written 1 s).wind.holdDown = some ⟨0, 60000⟩)
    ∧ ((written 1 (written 0 { s with slots := s.slots.set 1 (active 90) })).wind.blindTimer = some ⟨9, 30000⟩)
    ∧ (m.wants 0 0 = true ∧ ((written 0 m).zone 0 0).state = .off ∧ ((written 1 m).zone 0 0).state = .wait) := by
  decide +kernel

/-- ZONES writes of S0 Z0: newly enabled under a heat block, without one, and where it wants heat; and still enabled, in FAULT,
ON past its new min_on without a want, and OFF past its new min_off with one. -/
theorem witness_TableWriteConsumers_zones :
    let enabled := { defaultZone with enabled := 1, minOn := 1000, minOff := 1000 }
    let s0 := windy 2 { resetSlot with state := .active, latestValue := some (199, 0) } .calm
    let state := fun (hs : List Holder) (was : ZoneRecord) x condition =>
      { s0 with
        now := 1000
        settings := { s0.settings with zones := s0.settings.zones.set 0 was }
        melt := { resetMelt with condition := condition } }.updStation 0 fun st =>
          { st with holders := hs, zones := st.zones.set 0 x }
    let wrote := fun s => (after (.tableWrite 0 ([6, 0, 1] ++ zoneBytes enabled)) s).zone 0 0
    let was := { enabled with minOn := 5000, minOff := 5000 }
    let off := { resetZone true with state := .off }
    zoneFailing enabled = none
    ∧ wrote (state [⟨7, ⟨false, true⟩⟩] defaultZone (resetZone false) true) = { off with state := .inhibited }
    ∧ wrote (state [] defaultZone (resetZone false) false) = off
    ∧ wrote (state [] defaultZone (resetZone false) true) = { off with state := .wait }
    ∧ wrote (state [] was { resetZone true with state := .fault, faultReason := some .contactor } true)
      = { resetZone true with state := .fault, faultReason := some .contactor }
    ∧ wrote (state [] was (onSince 0) false) = { off with offStart := some 1000 }
    ∧ wrote (state [] was (onSince 1) false) = onSince 1
    ∧ wrote (state [] was { off with offStart := some 0 } true) = { off with state := .wait }
    ∧ wrote (state [] was { off with offStart := some 1 } true) = { off with offStart := some 1 } := by
  decide +kernel

/-- A tracking station that an apply uninstalls, by a shadow entry that says no. -/
theorem witness_EnvelopeApply_uninstalled :
    let s := { with0 (fun st => { st with
        queue := [.setpoint ⟨270000, 900, 90000, 300⟩], freshness := some ⟨0, 200⟩, demand := { noDemand with cls := .track } })
      with shadow := Tab.fill 8 defaultEnvelope }
    let t := after (.envelopeApply 0 [0, 0]) s
    (s.authority 0).permitting = true ∧ t.authority 0 = .absent ∧ (t.station 0).demand = noDemand
      ∧ (t.station 0).freshness = none ∧ (queuedSetpoints (t.station 0).queue).all (fun sp => !sp.moving) = true := by
  decide +kernel

/-- The response to FAULT_READ: its length, the entry that reset left, the valid bytes of the free ones and the flags. -/
theorem witness_FaultReadAndAlertAck_contents :
    let s := { live with now := 0x01020304 }
    let t := recordFault (.station 3) .overrun 0xFFFEFDFC s
    let contents := (after (.faultRead 0 []) { t with upTx := none }).upTx.toList.flatMap fun e =>
      match e with
      | .mgmtResp _ _ _ bs => bs
      | .telemetry _ _ | .cabinetData _ | .alert _ => []
    contents.length = 138
      ∧ contents.take 17 = [1, 0, 0x22, 9, 0, 0, 0, 0, 0, 0, 0, 0, 1, 0, 0, 0, 0]
      ∧ (contents.drop 17).take 17 =
        [1, 0, 0x03, 2, 0x01, 0x02, 0x03, 0x04, 0x01, 0x02, 0x03, 0x04, 1, 0xFF, 0xFE, 0xFD, 0xFC]
      ∧ contents[34]? = some 0 ∧ contents.drop 136 = [0, 0] := by
  decide +kernel

/-! ### States for the frames of single commands, and for the stow that a freed station takes up -/

/-- A clearing that expires under active stow, in each stage of it: a suspended warning begins anew, and MOVING and STOWED are
taken up as they stood. -/
theorem witness_ClearingExpiry_stow :
    let s := fun p => { storm p with now := 15000 }.updStation 0 fun st =>
      { st with clearing := some ⟨0, 15000⟩, stowStart := some 7, stowTimeout := some ⟨7, 180000⟩ }
    let t := fun p => after (.clearingExpiry 0) (s p)
    let stop := StationEntry.setpoint ((s .warning).stopSetpoint 0)
    let noWarn := fun s : State => { s with settings := { s.settings with timing := { defaultTiming with stowWarn := 0 } } }
    let direct := after (.clearingExpiry 0) (noWarn (s .warning))
    ((s .warning).authority 0 = .clearing ∧ ((s .warning).station 0).warnTimer = none)
    ∧ ((t .warning).authority 0 = .stowWarning ∧ ((t .warning).station 0).warnTimer = some ⟨15000, 5000⟩
      ∧ ((t .warning).station 0).queue = [.horn true, stop] ∧ ((t .warning).station 0).stowStart = some 7)
    ∧ ((t .moving).authority 0 = .stowMoving ∧ ((t .moving).station 0).stowTimeout = some ⟨7, 180000⟩
      ∧ ((t .moving).station 0).queue = [.horn false] ∧ ((t .moving).station 0).stowStart = some 7)
    ∧ ((t .stowed).authority 0 = .stowStowed ∧ ((t .stowed).station 0).queue = [.horn false])
    ∧ (direct.authority 0 = .stowMoving ∧ (direct.station 0).stowTimeout = some ⟨15000, 180000⟩
      ∧ (direct.station 0).queue = [.horn false, stop]) := by
  decide +kernel

/-- MIN_ON_EXPIRY of a zone that no longer wants heat, beside another that is ON; and MIN_OFF_EXPIRY in the states that it
leaves. -/
theorem witness_MeltTimerExpiries_others :
    let s := { (with0 fun st => { st with zones := (st.zones.set 0 (onSince 0)).set 1 (onSince 5) }) with now := 120000 }
    let t := after (.minOnExpiry 0 0) s
    let rested := fun x =>
      let zone := { resetZone true with state := x, offStart := some 0 }
      let u := { (with0 fun st => { st with zones := (st.zones.set 0 zone).set 1 (onSince 5) }) with now := 60000 }
      let v := after (.minOffExpiry 0 0) u
      ((v.zone 0 0).state, (v.zone 0 0).offStart, v.zone 0 1 == onSince 5)
    ((t.zone 0 0).state = .off ∧ (t.station 0).queue = [.heat] ∧ t.zone 0 1 = onSince 5)
    ∧ rested .wait = (.off, none, true) ∧ rested .inhibited = (.inhibited, none, true) ∧ rested .fault = (.fault, none, true)
    ∧ rested .disabled = (.disabled, none, true) := by
  decide +kernel

/-- WIND writes at BREEZY with an anemometer at 90, between the default thresholds of 100 and 80: the hold-down stands, starts
or is cancelled by the off-threshold written, and an on-threshold of STOW at or below the wind activates the stow. -/
theorem witness_TableWriteConsumers_wind :
    let s := fun hold => { windy 0 { resetSlot with state := .active, ring := [90], latestValue := some (90, 0) } .breezy with
      now := 9
      wind := { live.wind with level := .breezy, holdDown := hold, blindTimer := none } }
    let running := some (Timer.mk 0 60000)
    let wrote := fun off hold =>
      (after (.tableWrite 0 ([3, 1, 1] ++ windBytes { defaultBreezy with gustOff := off })) (s hold)).wind
    let low := after (.tableWrite 0 ([3, 3, 1] ++ windBytes { defaultStow with gustEnable := 0, sustOn := 90, sustOff := 80 }))
      (s running)
    let high := { defaultStow with gustEnable := 0, sustOn := 91, sustOff := 80 }
    ((wrote 91 running).holdDown = running ∧ (wrote 91 none).holdDown = some ⟨9, 60000⟩ ∧ (wrote 90 running).holdDown = none
      ∧ (wrote 91 none).level = .breezy)
    ∧ (low.wind.level = .stow ∧ low.wind.causes.wind = true ∧ low.wind.holdDown = none ∧ low.stowActive = true
      ∧ low.attention.latched = some .stowChange ∧ low.attention.raised.windLevel = true)
    ∧ (after (.tableWrite 0 ([3, 3, 1] ++ windBytes high)) (s none)).wind.level = .breezy
    ∧ (after (.tableWrite 0 ([3, 3, 2] ++ windBytes { high with sustOn := 90 } ++ windBytes defaultCalm)) (s none)).wind.level
      = .stow := by
  decide +kernel

/-- An apply that leaves a tracking station installed, by a shadow entry that narrows it, and one that installs a station
outside stow and under it. -/
theorem witness_EnvelopeApply_records :
    let narrow := { installedEnvelope with azMin := -1000, azMax := 1000, azRateMax := 800, elRateMax := 200, stowElRate := 200 }
    let s := { with0 (fun st => { st with
        queue := [.cabinetData ⟨1, 0x80, []⟩, .setpoint ⟨-270000, 900, 90000, 100⟩, .horn true], grant := ⟨900, 100, 7⟩
        demand := { noDemand with cls := .track, azSpeed := 900 }, faultLatch := .none })
      with shadow := Tab.fill 8 narrow }
    let t := after (.envelopeApply 0 [0, 0]) s
    let out := fun s : State => { s with shadow := Tab.fill 8 narrow }.updStation 0 fun st => { st with
      installed := false, progress := .none, queue := [.setpoint ⟨270000, 900, 90000, 100⟩], grant := ⟨900, 100, 7⟩
      demand := { noDemand with cls := .track } }
    let joined := fun s => (after (.envelopeApply 0 [0, 0]) (out s)).station 0
    (envelopeFailing narrow = none
      ∧ t.station 0 = { s.station 0 with
          queue := [.cabinetData ⟨1, 0x80, []⟩, .setpoint ⟨-1000, 800, 90000, 100⟩, .horn true], grant := ⟨800, 100, 7⟩ })
    ∧ ((joined live).queue = [.setpoint ⟨1000, 800, 90000, 100⟩, .horn true] ∧ (joined live).demand.cls = .track
      ∧ (joined live).progress = .none)
    ∧ ((joined (storm .moving)).queue = [.setpoint ⟨0, 0, 5000, 0⟩, .horn true] ∧ (joined (storm .moving)).demand = noDemand
      ∧ (joined (storm .moving)).progress = .pending) := by
  decide +kernel

/-- An ENVELOPE_CLEAR_ALL over a tracking station, a locked-out latch and an uninstalled station with a setpoint. -/
theorem witness_ClearAllAndLockdown_records :
    let sp : StationEntry := .setpoint ⟨271000, 1200, 0, 100⟩
    let tracking := with0 fun st => { st with
      queue := [sp], grant := ⟨900, 100, 7⟩, freshness := some ⟨0, 200⟩, demand := { noDemand with cls := .track } }
    let latched := tracking.updStation 1 fun st => { st with
      faultLatch := .overrun, clipLog := { noClip with stopped := true }, grant := ⟨1200, 600, 7⟩ }
    let s := latched.updStation 2 fun st => { st with installed := false, queue := [sp] }
    let t := after (.envelopeClearAll 0 []) s
    ((s.authority 0).permitting = true ∧ (s.authority 1).permitting = false ∧ (s.station 2).installed = false)
    ∧ (t.station 0 = { s.station 0 with
        installed := false, queue := [.setpoint ⟨0, 0, 5000, 0⟩], grant := noGrant, freshness := none, demand := noDemand })
    ∧ t.station 1 = { s.station 1 with installed := false, grant := ⟨1000, 500, 7⟩ }
    ∧ t.station 2 = { s.station 2 with queue := [.setpoint ⟨270000, 1000, 5000, 100⟩] } := by
  decide +kernel

/-- A zone in FAULT cleared, beside another: it keeps the off-start of the fault, and takes the event's under a heat block. -/
theorem witness_ResumeAndMeltRequests_offStart :
    let fault := { resetZone true with state := .fault, faultReason := some .contactor, offStart := some 3 }
    let s := fun hs => { with0 (fun st => { st with holders := hs, zones := (st.zones.set 0 fault).set 1 fault }) with now := 9 }
    let t := fun hs => after (.zoneFaultClear 0 [0]) (s hs)
    let cleared := { resetZone true with state := .off, offStart := some 3 }
    (t []).zone 0 0 = cleared ∧ (t []).zone 0 1 = fault
      ∧ (t [⟨7, ⟨false, true⟩⟩]).zone 0 0 = { cleared with state := .inhibited, offStart := some 9 }
      ∧ (t [⟨7, ⟨false, true⟩⟩]).zone 0 1 = fault := by
  decide +kernel

/-- A latched station without a telemetry, and one whose warning was suspended, resumed. -/
theorem witness_ResumeAndMeltRequests_stow :
    let s := fun p (tel : Option Telemetry) => (storm p).updStation 0 fun st =>
      { st with faultLatch := .driveFault, lastTelemetry := tel, stowStart := some 7 }
    let t := after (.stationResume 0 [0]) (s .warning none)
    (s .warning none).authority 0 = .stopped ∧ t.authority 0 = .stowWarning
      ∧ (t.station 0).warnTimer = some ⟨0, 5000⟩ ∧ (t.station 0).stowStart = some 7
      ∧ (t.station 0).queue = [.setpoint ((s .warning none).stopSetpoint 0), .horn true]
      ∧ (after (.stationResume 0 [0]) (s .moving (some ⟨0, 5000, true, false, false, 0, 0⟩))).station 0
        = { (s .moving (some ⟨0, 5000, true, false, false, 0, 0⟩)).station 0 with faultLatch := .none } := by
  decide +kernel

/-- The first frame of a cabinet whose link is DOWN: LINK_UP departs, and HEAT, a reply and HORN on wait. -/
theorem witness_linkReturns :
    let s := with0 fun st => { st with link := .down, lockReportSeen := false, tx := none }
    let roomed := s.updStation 0 fun st => { st with holders := [⟨0, ⟨false, true⟩⟩] }
    let port := fun (c : Instr) (s : State) =>
      let st := (after c s).station 0
      (st.link.isUp, st.tx, st.queue)
    s.away 0
    ∧ port (.lock 0 7 ⟨true, false⟩) s =
        (true, some (.linkUp 0x10), [.heat, .lockReply ⟨7, .taken, ⟨true, false⟩⟩])
    ∧ port (.unlock 0 7 ⟨true, false⟩) s = (true, some (.linkUp 0x10), [.heat, .lockReply ⟨7, .notHolder, noScope⟩])
    ∧ port (.lockReport 0 []) s = (true, some (.linkUp 0x10), [.heat, .horn true])
    ∧ port (.lockReport 0 []) roomed =
        (true, some (.linkUp 0x10), [.heat, .lockReply ⟨0, .standing, ⟨false, true⟩⟩, .horn true])
    ∧ port (.telemetry 0 (telemetryAt 0 5000 0)) s = (true, some (.linkUp 0x10), [.heat])
    ∧ port (.goodFrameOfUnhandledKind (.station 0) ⟨1, 0x80, 0x55, []⟩) s = (true, some (.linkUp 0x10), [.heat]) := by
  unfold State.away
  decide +kernel

/-- Offers to an idle transmitter: a lock reply, the STOP of a stale station, a stow setpoint, and one behind a HEAT frame. -/
theorem witness_idleTransmitter :
    let rest := with0 fun st => { st with tx := none, freshness := some ⟨0, 0⟩ }
    let moving := fun zone => { (storm .moving).updStation 0 fun st => { st with tx := none, zones := st.zones.set 0 zone } with
      now := 100
      settings := { live.settings with
        zones := live.settings.zones.set 0 { defaultZone with enabled := 1, powerW := 1000 } } }
    let wait := { resetZone true with state := .wait }
    let port := fun (c : Instr) (s : State) => (((after c s).station 0).tx, ((after c s).station 0).queue)
    (rest.idling 0 ∧ timerDue (rest.station 0).freshness rest.now = true
      ∧ port (.lock 0 7 ⟨false, true⟩) rest = (some (.lockReply ⟨7, .taken, ⟨false, true⟩⟩), [])
      ∧ port (.freshnessExpiry 0) rest = (some (.setpoint (rest.stopSetpoint 0)), []))
    ∧ ((moving wait).idling 0 ∧ (moving wait).authority 0 = .stowMoving
      ∧ (port .stowRefreshExpiry (moving wait)).2 = [] ∧ ((moving wait).zone 0 0).state = .wait
      ∧ ((after .stowRefreshExpiry (moving wait)).zone 0 0).state = .wait
      ∧ (port .stowRefreshExpiry (moving (onSince 0))).1 = some (.heat 0)
      ∧ (port .stowRefreshExpiry (moving (onSince 0))).2.length = 1) := by
  unfold State.idling
  decide +kernel

/-- A link loss over a zone that is ON, one in SHED, and under a heat block that stands. -/
theorem witness_LinkLost_zones :
    let s := fun hs => { with0 (fun st => { st with
      holders := hs, zones := (st.zones.set 0 (onSince 5)).set 1 { resetZone true with state := .shed } }) with now := 1000 }
    let t := fun hs => after (.livenessDeadlineExpiry 0) (s hs)
    heatBlock ((s []).station 0) = false ∧ heatBlock ((s [⟨7, ⟨false, true⟩⟩]).station 0) = true
      ∧ (t []).zone 0 0 = { resetZone true with state := .inhibited, offStart := some 1000 }
      ∧ ((t []).zone 0 1).offStart = some 1000 ∧ ((t []).zone 0 2).state = .disabled
      ∧ (t [⟨7, ⟨false, true⟩⟩]).zone 0 0 = onSince 5 := by
  decide +kernel

/-- Two orders of one batch. -/
theorem witness_BatchesNotTaken_order :
    wellFormedBatch [entry 0 0 900 9000 0, entry 3 0 100 9000 0]
      ∧ [entry 0 0 900 9000 0, entry 3 0 100 9000 0].Perm [entry 3 0 100 9000 0, entry 0 0 900 9000 0] :=
  ⟨by unfold wellFormedBatch; decide, by decide⟩

end Sys2Proof.Tests
end

