-- ==== Sys2Proof/Proofs/Scope.lean ====
section
/-! SUPPORT. The step and the queue of waiting commands (log entries 3 and 24), and the timers (R1, log entries 1 and 2): when
an interval has passed, and what an expiry does before that. -/

namespace Sys2Proof.Machine

/-! ### The step -/

theorem step_of_pending_cons {c : Instr} {rest : List Instr} {s : State} (h : s.pending = c :: rest) :
    step s = exec c { s with pending := rest } := by
  unfold step
  rw [h]

theorem step_of_pending_nil {s : State} (h : s.pending = []) : step s = .next s := by
  unfold step
  rw [h]

/-! ### When an interval has passed (R1) -/

/-- The elapsed count is the difference modulo 2^32, so that a wrap between start and expiry does not show (log entry 2). -/
theorem Timer.due_start_add_iff (t : Timer) (elapsed : Time) :
    t.due (t.start + elapsed) = true ↔ t.interval ≤ elapsed.toNat := by
  have hsince : t.start + elapsed - t.start = elapsed := by
    rw [BitVec.add_comm, BitVec.add_sub_cancel]
  rw [Timer.due, hsince, decide_eq_true_iff]

theorem sinceAtLeast_eq_false_iff {start : Option Time} {ms : Nat} {now : Time} :
    sinceAtLeast start ms now = false ↔ ∀ t ∈ start, (now - t).toNat < ms := by
  cases start <;> simp [sinceAtLeast]

theorem State.minOnDue_eq_false_iff {s : State} {n : StationId} {z : ZoneNum} :
    s.minOnDue n z = false ↔
      (s.zone n z).state ≠ .on ∨ (s.zone n z).minOnReached = true
        ∨ ∀ start ∈ (s.zone n z).onStart, (s.now - start).toNat < (s.zoneRecord n z).minOn := by
  simp only [State.minOnDue, Bool.and_eq_false_iff, sinceAtLeast_eq_false_iff, beq_eq_false_iff_ne, Bool.not_eq_false',
    or_assoc]

theorem Zone.watched_eq_false_iff {z : Zone} : z.watched = false ↔ z.state = .disabled ∨ z.state = .fault := by
  rw [Zone.watched, Bool.and_eq_false_iff, bne_eq_false_iff_eq, bne_eq_false_iff_eq]

/-! ### An expiry before its time (log entry 1) -/

/-- The shape that the expiries share: an effect behind a guard, and otherwise the state as it was. -/
theorem next_ite_of_eq_false {due : Bool} (t s : State) (h : due = false) :
    (.next (if due = true then t else s) : Host.Outcome State Fault Refusal) = .next s := by
  rw [h, if_neg Bool.false_ne_true]

section
variable {s : State} {n : StationId} {z : ZoneNum} {i : SlotId}

/-- A DOWN link has no deadline, and an UP one is left until its deadline (R6). -/
theorem exec_livenessDeadlineExpiry_early (h : ∀ d, (s.station n).link = .up d → d.due s.now = false) :
    exec (.livenessDeadlineExpiry n) s = .next s := by
  change execLivenessDeadlineExpiry n s = .next s
  unfold execLivenessDeadlineExpiry
  split
  next => rfl
  next d hup => exact next_ite_of_eq_false _ _ (h d hup)

theorem exec_freshnessExpiry_early (h : timerDue (s.station n).freshness s.now = false) :
    exec (.freshnessExpiry n) s = .next s :=
  next_ite_of_eq_false _ _ h

theorem exec_clearingExpiry_early (h : timerDue (s.station n).clearing s.now = false) :
    exec (.clearingExpiry n) s = .next s :=
  next_ite_of_eq_false _ _ h

theorem exec_warnExpiry_early (h : timerDue (s.station n).warnTimer s.now = false) :
    exec (.warnExpiry n) s = .next s :=
  next_ite_of_eq_false _ _ h

theorem exec_stowRefreshExpiry_early (h : timerDue s.wind.refresh s.now = false) :
    exec .stowRefreshExpiry s = .next s :=
  next_ite_of_eq_false _ _ h

theorem exec_stowTimeoutExpiry_early (h : timerDue (s.station n).stowTimeout s.now = false) :
    exec (.stowTimeoutExpiry n) s = .next s :=
  next_ite_of_eq_false _ _ h

theorem exec_holdDownExpiry_early (h : timerDue s.wind.holdDown s.now = false) :
    exec .holdDownExpiry s = .next s :=
  next_ite_of_eq_false _ _ h

theorem exec_blindTimerExpiry_early (h : timerDue s.wind.blindTimer s.now = false) :
    exec .blindTimerExpiry s = .next s :=
  next_ite_of_eq_false _ _ h

/-- With no transaction in flight no deadline runs (R113). -/
theorem exec_transactionDeadlineExpiry_early
    (h : ∀ t, s.scanner.transaction = some t → t.deadline.due s.now = false) :
    exec .transactionDeadlineExpiry s = .next s := by
  change execTransactionDeadlineExpiry s = .next s
  unfold execTransactionDeadlineExpiry
  split
  next => rfl
  next t hflight => exact next_ite_of_eq_false _ _ (h t hflight)

theorem exec_passGapExpiry_early (h : timerDue s.scanner.gapTimer s.now = false) : exec .passGapExpiry s = .next s :=
  next_ite_of_eq_false _ _ h

/-- A slot without a substitute has no life to expire (R122). -/
theorem exec_substituteLifeExpiry_early (h : ∀ p, (s.slot i).substitute = some p → p.2.due s.now = false) :
    exec (.substituteLifeExpiry i) s = .next s := by
  change execSubstituteLifeExpiry i s = .next s
  unfold execSubstituteLifeExpiry
  split
  next => rfl
  next p hsub => exact next_ite_of_eq_false _ _ (h p hsub)

theorem exec_precipHoldExpiry_early (h : timerDue s.melt.hold s.now = false) : exec .precipHoldExpiry s = .next s :=
  next_ite_of_eq_false _ _ h

theorem exec_minOnExpiry_early (h : s.minOnDue n z = false) : exec (.minOnExpiry n z) s = .next s :=
  next_ite_of_eq_false _ _ h

theorem exec_minOffExpiry_early
    (h : sinceAtLeast (s.zone n z).offStart (s.zoneRecord n z).minOff s.now = false) :
    exec (.minOffExpiry n z) s = .next s :=
  next_ite_of_eq_false _ _ h

/-- The deadline has to be due and the contactor watch to cover the zone (R165, R166). -/
theorem exec_mismatchDeadlineExpiry_early
    (h : timerDue (s.zone n z).mismatch s.now = false ∨ (s.zone n z).watched = false) :
    exec (.mismatchDeadlineExpiry n z) s = .next s :=
  next_ite_of_eq_false _ _ (Bool.and_eq_false_iff.mpr h)

theorem exec_saveCompletion_idle (h : s.store.state ≠ .saving) : exec .saveCompletion s = .next s :=
  congrArg _ (if_neg h)

end

/-! ### The obligations -/

/-- Settles O1: the two branches of the step. -/
theorem stepTakesTheFront : Obligations.StepTakesTheFront :=
  ⟨fun _ _ _ h => step_of_pending_cons h, fun _ h => step_of_pending_nil h⟩

/-- Settles O5: the advance and the wrap by computation, the due test by `Timer.due_start_add_iff`, and each expiry by its
own lemma; those of zones first read their condition as the guard of the model. -/
theorem expiriesWaitForTheirTimers : Obligations.ExpiriesWaitForTheirTimers := by
  refine ⟨fun _ => rfl, by decide, Timer.due_start_add_iff, fun n z i s =>
    ⟨exec_livenessDeadlineExpiry_early, exec_freshnessExpiry_early, exec_clearingExpiry_early, exec_warnExpiry_early,
      exec_stowRefreshExpiry_early, exec_stowTimeoutExpiry_early, exec_holdDownExpiry_early, exec_blindTimerExpiry_early,
      exec_transactionDeadlineExpiry_early, exec_passGapExpiry_early, exec_substituteLifeExpiry_early,
      exec_precipHoldExpiry_early, ?minOn, ?minOff, ?mismatch, exec_saveCompletion_idle⟩⟩
  case minOn => exact fun h => exec_minOnExpiry_early (State.minOnDue_eq_false_iff.mpr h)
  case minOff => exact fun h => exec_minOffExpiry_early (sinceAtLeast_eq_false_iff.mpr h)
  case mismatch => exact fun h => exec_mismatchDeadlineExpiry_early (h.imp_right Zone.watched_eq_false_iff.mpr)

end Sys2Proof.Machine
end

section
/-! SUPPORT. The output queue of a station and its port: what an admission, a departure and an offer leave, as functions of
the record alone (R33 to R37), so that no later proof unfolds an offer. -/

namespace Sys2Proof.Machine

/-! ### Admission to a queue (R35 to R37) -/

@[simp] theorem kind_setpoint (sp : Setpoint) : (StationEntry.setpoint sp).kind = .setpoint := rfl
@[simp] theorem kind_heat : StationEntry.heat.kind = .heat := rfl
@[simp] theorem kind_horn (on : Bool) : (StationEntry.horn on).kind = .horn := rfl
@[simp] theorem kind_pin (inward : Bool) : (StationEntry.pin inward).kind = .pin := rfl
@[simp] theorem kind_linkUp : StationEntry.linkUp.kind = .linkUp := rfl
@[simp] theorem kind_lockReply (r : LockReply) : (StationEntry.lockReply r).kind = .lockReply := rfl
@[simp] theorem kind_cabinetData (f : CabinetFrame) : (StationEntry.cabinetData f).kind = .cabinetData := rfl

/-- The queue that the admission of an entry leaves. -/
def admitted (q : List StationEntry) (e : StationEntry) : List StationEntry :=
  if e.kind.superseding && q.any (·.kind == e.kind) then q.map fun x => if x.kind = e.kind then e else x
  else if q.length < Config.stationQueueSize then q ++ [e]
  else if e.kind.superseding then
    if q.any (·.kind == .cabinetData) then q.eraseP (·.kind == .cabinetData) ++ [e]
    else if (oldestReply q).isSome then q.eraseP (·.kind == .lockReply) ++ [e]
    else q
  else q

/-- The badge of the LOCK_REPLY that the admission of an entry loses, where it loses one. -/
def lostReply (q : List StationEntry) (e : StationEntry) : Option Badge :=
  if e.kind.superseding && q.any (·.kind == e.kind) then none
  else if q.length < Config.stationQueueSize then none
  else
    match e with
    | .cabinetData _ => none
    | .lockReply r => some r.badge
    | _ => if q.any (·.kind == .cabinetData) then none else oldestReply q

/-- The report of a lost LOCK_REPLY, where one is lost. -/
def reportLost (n : StationId) (lost : Option Badge) (s : State) : State :=
  match lost with
  | none => s
  | some badge => replyLost n badge s

@[simp] theorem reportLost_none (n : StationId) (s : State) : reportLost n none s = s := rfl

theorem State.updStation_self (s : State) (n : StationId) (f : Station → Station) (h : f (s.station n) = s.station n) :
    s.updStation n f = s := by
  unfold State.updStation
  change { s with stations := s.stations.set n (f (s.station n)) } = s
  rw [h]
  change { s with stations := s.stations.set n (s.stations.get n) } = s
  rw [Tab.set_get]

theorem setQueue_self (n : StationId) (s : State) : setQueue n (s.station n).queue s = s :=
  State.updStation_self s n _ rfl

/-- An admission replaces the queue and reports the LOCK_REPLY it loses. -/
theorem admitEntry_eq (n : StationId) (e : StationEntry) (s : State) :
    admitEntry n e s =
      reportLost n (lostReply (s.station n).queue e) (setQueue n (admitted (s.station n).queue e) s) := by
  unfold admitEntry admitted lostReply
  simp only
  split
  · rfl
  · split
    · rfl
    · cases e with
      | cabinetData f => exact (setQueue_self n s).symm
      | lockReply r => exact congrArg (replyLost n r.badge) (setQueue_self n s).symm
      | setpoint _ | heat | horn _ | pin _ | linkUp =>
        by_cases hcab : (s.station n).queue.any (·.kind == .cabinetData) = true
        · simp [hcab, EntryKind.superseding]
        · cases hold : oldestReply (s.station n).queue with
          | none => simp [hcab, setQueue_self]
          | some badge => simp [hcab, EntryKind.superseding, reportLost]

@[simp] theorem reportLost_station (n m : StationId) (lost : Option Badge) (s : State) :
    (reportLost n lost s).station m = s.station m := by
  cases lost <;> simp [reportLost, replyLost]

@[simp] theorem reportLost_stations (n : StationId) (lost : Option Badge) (s : State) :
    (reportLost n lost s).stations = s.stations := by
  cases lost <;> simp [reportLost, replyLost]

@[simp] theorem admitEntry_station_self (n : StationId) (e : StationEntry) (s : State) :
    (admitEntry n e s).station n = { s.station n with queue := admitted (s.station n).queue e } := by
  simp [admitEntry_eq]

/-- A queue after an admission holds nothing but its old entries and the new one. -/
theorem mem_of_mem_admitted {x e : StationEntry} {q : List StationEntry} (h : x ∈ admitted q e) : x ∈ q ∨ x = e := by
  unfold admitted at h
  split at h
  · obtain ⟨y, hy, rfl⟩ := List.mem_map.mp h
    split
    · exact .inr rfl
    · exact .inl hy
  · have happend : ∀ p : List StationEntry, (∀ y ∈ p, y ∈ q) → x ∈ p ++ [e] → x ∈ q ∨ x = e := by
      intro p hp hx
      simp only [List.mem_append, List.mem_singleton] at hx
      exact hx.imp (hp x) id
    split at h
    · exact happend q (fun _ hy => hy) h
    · split at h
      · split at h
        · exact happend _ (fun _ hy => List.mem_of_mem_eraseP hy) h
        · split at h
          · exact happend _ (fun _ hy => List.mem_of_mem_eraseP hy) h
          · exact .inl h
      · exact .inl h

/-- The first entry of a kind that is not this one's is not this one. -/
theorem mem_eraseP_of_kind_ne {x : StationEntry} {q : List StationEntry} {k : EntryKind} (h : x ∈ q) (hk : x.kind ≠ k) :
    x ∈ q.eraseP (·.kind == k) :=
  (List.mem_eraseP_of_neg (by simpa using hk)).mpr h

/-- A superseding entry that waits is dropped by no admission of another kind (R35, R36). -/
theorem mem_admitted_of_mem {x e : StationEntry} {q : List StationEntry} (h : x ∈ q)
    (hsup : x.kind.superseding = true) (hk : x.kind ≠ e.kind) : x ∈ admitted q e := by
  have hcab : x.kind ≠ .cabinetData := fun he => by rw [he] at hsup; exact absurd hsup (by decide)
  have hrep : x.kind ≠ .lockReply := fun he => by rw [he] at hsup; exact absurd hsup (by decide)
  unfold admitted
  split
  · exact List.mem_map.mpr ⟨x, h, if_neg hk⟩
  · split
    · exact List.mem_append_left _ h
    · split
      · split
        · exact List.mem_append_left _ (mem_eraseP_of_kind_ne h hcab)
        · split
          · exact List.mem_append_left _ (mem_eraseP_of_kind_ne h hrep)
          · exact h
      · exact h

/-- Where a place is free, whatever waits goes on waiting, unless it is superseded. -/
theorem mem_admitted_of_room {x e : StationEntry} {q : List StationEntry} (h : x ∈ q) (hk : x.kind ≠ e.kind ∨ e.kind.superseding = false)
    (hroom : q.length < 8) : x ∈ admitted q e := by
  unfold admitted
  split
  · next hs =>
    refine List.mem_map.mpr ⟨x, h, if_neg ?_⟩
    rcases hk with hk | hk
    · exact hk
    · rw [hk] at hs; simp at hs
  · rw [if_pos (by simpa [Config.stationQueueSize] using hroom)]
    exact List.mem_append_left _ h

/-- An admission makes a queue at most one entry longer. -/
theorem length_admitted_le (q : List StationEntry) (e : StationEntry) : (admitted q e).length ≤ q.length + 1 := by
  have herase := fun k : EntryKind => List.length_eraseP_le (l := q) (p := (·.kind == k))
  unfold admitted
  split
  · simp
  · split
    · simp
    · split
      · split
        · simpa using herase _
        · split
          · simpa using herase _
          · simp
      · simp

/-! ### The law of a queue (R33, R35) -/

theorem oldestReply_isSome_iff {q : List StationEntry} : (oldestReply q).isSome = true ↔ q.any (·.kind == .lockReply) = true := by
  induction q with
  | nil => simp [oldestReply]
  | cons x q ih =>
    cases x with
    | lockReply r => rfl
    | setpoint _ | heat | horn _ | pin _ | linkUp | cabinetData _ => exact ih

theorem countP_kind_append (q : List StationEntry) (e : StationEntry) (k : EntryKind) :
    (q ++ [e]).countP (fun x => x.kind == k) = q.countP (fun x => x.kind == k) + if e.kind = k then 1 else 0 := by
  simp [List.countP_append, List.countP_cons]

/-- Every entry is of one of the seven kinds. -/
theorem length_eq_countP_kinds (q : List StationEntry) :
    q.length = q.countP (·.kind == .setpoint) + q.countP (·.kind == .heat) + q.countP (·.kind == .horn)
      + q.countP (·.kind == .pin) + q.countP (·.kind == .linkUp) + q.countP (·.kind == .lockReply)
      + q.countP (·.kind == .cabinetData) := by
  induction q with
  | nil => rfl
  | cons x q ih =>
    rw [List.length_cons, ih]
    simp only [List.countP_cons]
    cases x <;> simp [StationEntry.kind] <;> omega

theorem countP_kind_eq_zero {q : List StationEntry} {k : EntryKind} (h : q.any (·.kind == k) = false) :
    q.countP (fun x => x.kind == k) = 0 := by
  rw [List.countP_eq_zero]
  intro x hx
  rw [List.any_eq_false] at h
  exact h x hx

/-- A full queue that keeps its law has an entry to evict for a superseding one of a kind that does not wait (R36). -/
theorem queueLaw.evictable {q : List StationEntry} {k : EntryKind} (h : queueLaw q) (hfull : ¬q.length < 8)
    (hsup : k.superseding = true) (habsent : q.any (·.kind == k) = false) (hcab : q.any (·.kind == .cabinetData) = false) :
    (oldestReply q).isSome = true := by
  rw [oldestReply_isSome_iff, ← Bool.not_eq_false]
  intro hrep
  obtain ⟨-, hone⟩ := h
  have hlen := length_eq_countP_kinds q
  have h0 := countP_kind_eq_zero habsent
  rw [countP_kind_eq_zero hcab, countP_kind_eq_zero hrep] at hlen
  have h1 := hone .setpoint rfl
  have h2 := hone .heat rfl
  have h3 := hone .horn rfl
  have h4 := hone .pin rfl
  have h5 := hone .linkUp rfl
  cases k <;> first | (simp [EntryKind.superseding] at hsup; done) | omega

/-- An admission keeps the law of a queue. -/
theorem queueLaw.admitted {q : List StationEntry} (h : queueLaw q) (e : StationEntry) : queueLaw (admitted q e) := by
  obtain ⟨hlen, hone⟩ := h
  have herase : ∀ j : EntryKind, q.any (·.kind == j) = true →
      (q.eraseP (·.kind == j)).length + 1 = q.length := by
    intro j hj
    obtain ⟨x, hx, hp⟩ := List.any_eq_true.mp hj
    have := List.length_eraseP_of_mem (p := fun y : StationEntry => y.kind == j) hx hp
    have := List.length_pos_of_mem hx
    omega
  have hle : ∀ (j k : EntryKind), (q.eraseP (·.kind == j)).countP (fun x => x.kind == k) ≤ q.countP (fun x => x.kind == k) :=
    fun j k => (List.eraseP_sublist).countP_le
  have happend : ∀ p : List StationEntry, p.length < 8 →
      (∀ k, p.countP (fun x => x.kind == k) ≤ q.countP (fun x => x.kind == k)) →
      (e.kind.superseding = true → q.any (·.kind == e.kind) = false) → queueLaw (p ++ [e]) := by
    intro p hp hcount hnone
    refine ⟨by simp; omega, fun k hk => ?_⟩
    rw [countP_kind_append]
    split
    · next he =>
      subst he
      have := countP_kind_eq_zero (hnone hk)
      have := hcount e.kind
      omega
    · exact (hcount k).trans (hone k hk)
  unfold Machine.admitted
  split
  · refine ⟨by simpa using hlen, fun k hk => ?_⟩
    rw [List.countP_map]
    refine le_trans (List.countP_mono_left fun x _ hx => ?_) (hone k hk)
    simp only [Function.comp] at hx
    split at hx
    · next he => rw [he]; exact hx
    · exact hx
  · next hs =>
    have hnone : e.kind.superseding = true → q.any (·.kind == e.kind) = false := by
      intro hk
      simpa [hk] using hs
    split
    · next hroom => exact happend q (by simpa [Config.stationQueueSize] using hroom) (fun _ => le_refl _) hnone
    · split
      · split
        · next hcab => exact happend _ (by have := herase _ hcab; omega) (hle _) hnone
        · split
          · next hrep => exact happend _ (by have := herase _ (oldestReply_isSome_iff.mp hrep); omega) (hle _) hnone
          · exact ⟨hlen, hone⟩
      · exact ⟨hlen, hone⟩

/-- A superseding entry that is admitted waits (R35, R36). -/
theorem mem_admitted_self {q : List StationEntry} {e : StationEntry} (h : queueLaw q) (hsup : e.kind.superseding = true) :
    e ∈ admitted q e := by
  unfold admitted
  split
  · next hs =>
    obtain ⟨x, hx, hk⟩ := List.any_eq_true.mp (Bool.and_eq_true_iff.mp hs).2
    exact List.mem_map.mpr ⟨x, hx, if_pos (by simpa using hk)⟩
  · next hs =>
    split
    · simp
    · next hroom =>
      split
      · simp
      · next hcab =>
        rw [if_pos (h.evictable (by simpa [Config.stationQueueSize] using hroom) hsup (by simpa [hsup] using hs) (by simpa using hcab))]
        simp

/-- Any entry is admitted where a place is free. -/
theorem mem_admitted_self_of_room {q : List StationEntry} {e : StationEntry} (hroom : q.length < 8) : e ∈ admitted q e := by
  unfold admitted
  split
  · next hs =>
    obtain ⟨x, hx, hk⟩ := List.any_eq_true.mp (Bool.and_eq_true_iff.mp hs).2
    exact List.mem_map.mpr ⟨x, hx, if_pos (by simpa using hk)⟩
  · rw [if_pos (by simpa [Config.stationQueueSize] using hroom)]
    simp

/-- Where a place is free, no LOCK_REPLY is lost. -/
theorem lostReply_of_room {q : List StationEntry} {e : StationEntry} (hroom : q.length < 8) : lostReply q e = none := by
  unfold lostReply
  split
  · rfl
  · rw [if_pos (by simpa [Config.stationQueueSize] using hroom)]

/-! ### The SETPOINT entries of a queue -/

@[simp] theorem mem_queuedSetpoints {sp : Setpoint} {q : List StationEntry} : sp ∈ queuedSetpoints q ↔ .setpoint sp ∈ q := by
  unfold queuedSetpoints
  rw [List.mem_filterMap]
  constructor
  · rintro ⟨e, he, hs⟩
    cases e <;> simp at hs
    exact hs ▸ he
  · exact fun h => ⟨_, h, rfl⟩

@[simp] theorem queuedSetpoints_nil : queuedSetpoints [] = [] := rfl

theorem queuedSetpoints_append (p q : List StationEntry) : queuedSetpoints (p ++ q) = queuedSetpoints p ++ queuedSetpoints q :=
  List.filterMap_append

theorem queuedSetpoints_singleton_of_ne {e : StationEntry} (h : e.kind ≠ .setpoint) : queuedSetpoints [e] = [] := by
  cases e <;> first | rfl | exact absurd rfl h

theorem queuedSetpoints_eraseP {q : List StationEntry} {k : EntryKind} (hk : k ≠ .setpoint) :
    queuedSetpoints (q.eraseP (·.kind == k)) = queuedSetpoints q := by
  induction q with
  | nil => rfl
  | cons x q ih =>
    have happend := queuedSetpoints_append [x]
    simp only [List.singleton_append] at happend
    by_cases hx : x.kind = k
    · have hx' : x.kind ≠ .setpoint := hx ▸ hk
      rw [List.eraseP_cons_of_pos (by simpa using hx), happend, queuedSetpoints_singleton_of_ne hx', List.nil_append]
    · rw [List.eraseP_cons_of_neg (by simpa using hx), happend (q.eraseP _), ih, ← happend]

/-- The admission of another entry leaves the SETPOINTs of a queue. -/
theorem queuedSetpoints_admitted {q : List StationEntry} {e : StationEntry} (h : e.kind ≠ .setpoint) :
    queuedSetpoints (admitted q e) = queuedSetpoints q := by
  have happend : ∀ p : List StationEntry, queuedSetpoints (p ++ [e]) = queuedSetpoints p := fun p => by
    rw [queuedSetpoints_append, queuedSetpoints_singleton_of_ne h, List.append_nil]
  unfold admitted
  split
  · unfold queuedSetpoints
    rw [List.filterMap_map]
    congr 1
    funext x
    by_cases hx : x.kind = e.kind
    · rw [Function.comp, if_pos hx]
      cases e <;> cases x <;> first | rfl | exact absurd rfl h | exact absurd hx (by simp)
    · rw [Function.comp, if_neg hx]
  · split
    · exact happend q
    · split
      · split
        · rw [happend, queuedSetpoints_eraseP (by decide)]
        · split
          · rw [happend, queuedSetpoints_eraseP (by decide)]
          · rfl
      · rfl

end Sys2Proof.Machine
end

section
/-! SUPPORT. Departures and offers as functions of the record (R33, R34), and what every event but a batch and a stow refresh
keeps of the queues: their laws, the soft limits of what waits, and that nothing that waits moves. -/

namespace Sys2Proof.Machine

/-! ### Departures and offers (R33, R34) -/

/-- The mask of the zones of a record that are ON. -/
def onMaskOf (st : Station) : BitVec 4 :=
  BitVec.ofNat 4 ((zoneNums.map fun z => if (st.zones.get z).state == .on then 2 ^ z.val else 0).sum)

theorem State.onMask_eq (s : State) (n : StationId) : s.onMask n = onMaskOf (s.station n) := rfl

/-- A record whose transmitter begins the frame of an entry (R34). -/
def Station.sends (node : Byte) (e : StationEntry) (st : Station) : Station :=
  match e with
  | .setpoint sp => { st with tx := some (.setpoint sp), lastSent := some (sp.azTarget, sp.elTarget) }
  | .heat => { st with
      tx := some (.heat (onMaskOf st))
      commandedMask := onMaskOf st
      zones := cancelChanged st.commandedMask (onMaskOf st) st.zones }
  | .horn on => { st with tx := some (.horn on) }
  | .pin inward => { st with tx := some (.pin inward) }
  | .linkUp => { st with tx := some (.linkUp node) }
  | .lockReply r => { st with tx := some (.lockReply r) }
  | .cabinetData f => { st with tx := some (.cabinetData f) }

/-- A record after the head of its queue leaves, where it may (R33). -/
def Station.departs (node : Byte) (st : Station) : Station :=
  match st.link.isUp, st.tx, st.queue with
  | true, none, e :: rest => { st with queue := rest }.sends node e
  | _, _, _ => st

/-- A record to which an entry is offered (R7, R33). -/
def Station.takes (node : Byte) (e : StationEntry) (st : Station) : Station :=
  if st.link.isUp then { st with queue := admitted st.queue e }.departs node else st

theorem beginFrame_eq (n : StationId) (e : StationEntry) (s : State) :
    beginFrame n e s = s.updStation n (Station.sends s.nodeAddress e) := by
  cases e <;> rfl

theorem State.updStation_updStation (s : State) (n : StationId) (f g : Station → Station) :
    (s.updStation n f).updStation n g = s.updStation n fun st => g (f st) := by
  have h : ((s.updStation n f).updStation n g).stations = (s.updStation n fun st => g (f st)).stations :=
    State.stations_ext fun m => by
      by_cases hm : m = n <;> simp [hm]
  exact congrArg (fun ts => { s with stations := ts }) h

theorem depart_eq (n : StationId) (s : State) : depart n s = s.updStation n (Station.departs s.nodeAddress) := by
  have hself : ∀ st : Station, st = s.station n →
      (∀ e rest, st.link.isUp = true → st.tx = none → st.queue ≠ e :: rest) →
      s.updStation n (Station.departs s.nodeAddress) = s := by
    rintro st rfl h
    refine State.updStation_self s n _ ?_
    unfold Station.departs
    split
    · next e rest hup htx hq => exact absurd hq (h e rest hup htx)
    · rfl
  unfold depart
  split
  · next e rest hup htx hq =>
    rw [beginFrame_eq, State.updStation_updStation]
    unfold State.updStation
    have hd : ({ s.station n with queue := rest }).sends s.nodeAddress e = (s.station n).departs s.nodeAddress := by
      simp [Station.departs, hup, htx, hq]
    exact congrArg (fun st => { s with stations := s.stations.set n st }) hd
  · next h => exact (hself _ rfl fun e rest hup htx hq => h e rest hup htx hq).symm

@[simp] theorem depart_station_self (n : StationId) (s : State) :
    (depart n s).station n = (s.station n).departs s.nodeAddress := by
  simp [depart_eq]

theorem checked_of_still (n : StationId) (s : State) {sp : Setpoint} (h : sp.moving = false) :
    checked n (.setpoint sp) s = .setpoint sp := by
  simp [checked, h]

@[simp] theorem offer_station_self (n : StationId) (e : StationEntry) (s : State) :
    (offer n e s).station n = (s.station n).takes s.nodeAddress (checked n e s) := by
  unfold offer Station.takes
  split
  · rw [depart_station_self, admitEntry_station_self, (admit_ports n _ s).only.nodeAddress]
  · rfl

@[simp] theorem offer_station_other {n m : StationId} (e : StationEntry) (s : State) (h : m ≠ n) :
    (offer n e s).station m = s.station m :=
  offer_station_ne n m e s h

/-- While a frame is being sent, an entry waits (R33). -/
theorem Station.takes_sending {node : Byte} {e : StationEntry} {st : Station} (hup : st.link.isUp = true)
    (htx : st.tx.isSome = true) : st.takes node e = { st with queue := admitted st.queue e } := by
  obtain ⟨frame, hframe⟩ := Option.isSome_iff_exists.mp htx
  simp [takes, departs, hup, hframe]

/-- An idle port with nothing waiting sends an entry at once (R33). -/
theorem Station.takes_idle {node : Byte} {e : StationEntry} {st : Station} (hup : st.link.isUp = true) (htx : st.tx = none)
    (hq : st.queue = []) : st.takes node e = st.sends node e := by
  cases st
  simp only at hup htx hq
  subst htx hq
  simp [takes, departs, hup, admitted, Config.stationQueueSize]

theorem Station.takes_down {node : Byte} {e : StationEntry} {st : Station} (hup : st.link.isUp = false) :
    st.takes node e = st := by
  simp [takes, hup]

@[simp] theorem Station.sends_queue (node : Byte) (e : StationEntry) (st : Station) : (st.sends node e).queue = st.queue := by
  cases e <;> rfl

@[simp] theorem Station.sends_link (node : Byte) (e : StationEntry) (st : Station) : (st.sends node e).link = st.link := by
  cases e <;> rfl

@[simp] theorem Station.sends_tx_isSome (node : Byte) (e : StationEntry) (st : Station) : (st.sends node e).tx.isSome = true := by
  cases e <;> rfl

@[simp] theorem Station.departs_link (node : Byte) (st : Station) : (st.departs node).link = st.link := by
  unfold departs
  split <;> simp

@[simp] theorem Station.takes_link (node : Byte) (e : StationEntry) (st : Station) : (st.takes node e).link = st.link := by
  unfold takes
  split <;> simp

/-- A departure takes at most the head of the queue. -/
theorem Station.departs_queue_suffix (node : Byte) (st : Station) : (st.departs node).queue <:+ st.queue := by
  unfold departs
  split
  · next e rest _ _ hq => rw [Station.sends_queue, hq]; exact List.suffix_cons e rest
  · exact List.suffix_rfl

theorem Station.mem_takes_queue {node : Byte} {e x : StationEntry} {st : Station} (h : x ∈ (st.takes node e).queue) :
    x ∈ st.queue ∨ x = e := by
  unfold takes at h
  split at h
  · exact mem_of_mem_admitted ((departs_queue_suffix _ _).subset h)
  · exact .inl h

/-- What waits after an offer waited before it, or is what the check let through. -/
theorem mem_offer_queue {n m : StationId} {e x : StationEntry} {s : State} (h : x ∈ ((offer n e s).station m).queue) :
    x ∈ (s.station m).queue ∨ (m = n ∧ x = checked n e s) := by
  by_cases hm : m = n
  · subst hm
    rw [offer_station_self] at h
    exact (Station.mem_takes_queue h).imp id fun hx => ⟨rfl, hx⟩
  · rw [offer_station_other e s hm] at h
    exact .inl h

/-! ### The laws of a port -/

theorem queueLaw.nil : queueLaw [] := ⟨by simp, fun _ _ => by simp⟩

theorem queueLaw.suffix {p q : List StationEntry} (h : queueLaw q) (hp : p <:+ q) : queueLaw p :=
  ⟨hp.length_le.trans h.1, fun k hk => (hp.sublist.countP_le).trans (h.2 k hk)⟩

/-- A queue whose entries are replaced by entries of the same kinds keeps its law. -/
theorem queueLaw.map {q : List StationEntry} (h : queueLaw q) (f : StationEntry → StationEntry)
    (hf : ∀ e, (f e).kind = e.kind) : queueLaw (q.map f) := by
  refine ⟨by simpa using h.1, fun k hk => ?_⟩
  rw [List.countP_map]
  simpa [Function.comp_def, hf] using h.2 k hk

/-- The law of a station's port: its queue keeps its law, and a DOWN link holds queue and transmitter empty. -/
def Station.portLaw (st : Station) : Prop :=
  queueLaw st.queue ∧ (st.link.isUp = false → st.queue = [] ∧ st.tx = none)

/-- A port whose link is UP. -/
theorem Station.portLaw_of_up {st : Station} (hq : queueLaw st.queue) (hup : st.link.isUp = true) : st.portLaw :=
  ⟨hq, fun hdown => absurd (hup.symm.trans hdown) (by simp)⟩

theorem Station.portLaw.takes {st : Station} (h : st.portLaw) (node : Byte) (e : StationEntry) : (st.takes node e).portLaw := by
  unfold Station.takes
  split
  · next hup =>
    exact portLaw_of_up ((h.1.admitted e).suffix (departs_queue_suffix _ _)) (by simpa using hup)
  · exact h

theorem Station.portLaw.departs {st : Station} (h : st.portLaw) (node : Byte) : (st.departs node).portLaw := by
  unfold Station.departs
  split
  · next e rest hup _ hq =>
    have hrest : queueLaw rest := h.1.suffix (hq ▸ List.suffix_cons e rest)
    exact portLaw_of_up (by simpa using hrest) (by simpa using hup)
  · exact h

theorem State.queuesLaw.updStation {s : State} (h : s.queuesLaw) {n : StationId} {f : Station → Station}
    (hf : (s.station n).portLaw → (f (s.station n)).portLaw) : (s.updStation n f).queuesLaw := by
  intro m
  rw [State.updStation_station]
  split
  · exact hf (h n)
  · exact h m

theorem State.queuesLaw.offer {s : State} (h : s.queuesLaw) (n : StationId) (e : StationEntry) :
    (offer n e s).queuesLaw := by
  intro m
  by_cases hm : m = n
  · subst hm; rw [offer_station_self]; exact Station.portLaw.takes (h m) _ _
  · rw [offer_station_other e s hm]; exact h m

/-! ### Soft limits and motion of what waits (R20, R21, R74) -/

/-- No SETPOINT of a queue moves. -/
def quietQueue (q : List StationEntry) : Prop := ∀ sp ∈ queuedSetpoints q, sp.moving = false

/-- Every SETPOINT of a queue lies within the soft limits of an entry. -/
def queueWithin (e : Envelope) (q : List StationEntry) : Prop :=
  ∀ sp ∈ queuedSetpoints q, withinSoft e sp.azTarget sp.elTarget = true

@[simp] theorem quietQueue_nil : quietQueue [] := by simp [quietQueue]

@[simp] theorem queueWithin_nil (e : Envelope) : queueWithin e [] := by simp [queueWithin]

theorem quietQueue.subset {p q : List StationEntry} (h : quietQueue q) (hp : ∀ e ∈ p, e ∈ q) : quietQueue p :=
  fun sp hsp => h sp (mem_queuedSetpoints.mpr (hp _ (mem_queuedSetpoints.mp hsp)))

theorem le_clampInt {lo hi : Int} (h : lo ≤ hi) (v : Int) : lo ≤ clampInt lo hi v := by
  unfold clampInt; split_ifs <;> omega

theorem clampInt_le {lo hi : Int} (h : lo ≤ hi) (v : Int) : clampInt lo hi v ≤ hi := by
  unfold clampInt; split_ifs <;> omega

/-- Clamped targets lie within limits that are in order (R26). -/
theorem withinSoft_clampInt {e : Envelope} (h : e.ordered) (az el : Int) :
    withinSoft e (clampInt e.azMin e.azMax az) (clampInt e.elMin e.elMax el) = true := by
  obtain ⟨haz, hel⟩ := h
  simp [withinSoft, le_clampInt haz.le, clampInt_le haz.le, le_clampInt hel.le, clampInt_le hel.le]

@[simp] theorem stopSetpoint_moving (s : State) (n : StationId) : (s.stopSetpoint n).moving = false := rfl

theorem stopSetpoint_within {s : State} (h : allOrdered s.settings.active) (n : StationId) :
    withinSoft (s.envelope n) (s.stopSetpoint n).azTarget (s.stopSetpoint n).elTarget = true :=
  withinSoft_clampInt (h n) _ _

/-- What the check lets through for a SETPOINT within the limits is within them. -/
theorem checked_within {n : StationId} {e : StationEntry} {s : State} {sp : Setpoint} (h : allOrdered s.settings.active)
    (he : ∀ sp, e = .setpoint sp → withinSoft (s.envelope n) sp.azTarget sp.elTarget = true)
    (hc : checked n e s = .setpoint sp) : withinSoft (s.envelope n) sp.azTarget sp.elTarget = true := by
  cases e with
  | setpoint x =>
    unfold checked at hc
    simp only at hc
    split at hc
    · obtain rfl := StationEntry.setpoint.inj hc
      exact stopSetpoint_within h n
    · exact he sp hc
  | heat | horn _ | pin _ | linkUp | lockReply _ | cabinetData _ => exact absurd hc (by simp [checked])

/-- What the check lets through to a station that may not move does not move (R21). -/
theorem checked_still {n : StationId} {e : StationEntry} {s : State} {sp : Setpoint}
    (ha : (s.authority n).permitting = false) (hc : checked n e s = .setpoint sp) : sp.moving = false := by
  cases e with
  | setpoint x =>
    unfold checked at hc
    simp only [ha] at hc
    split at hc
    · obtain rfl := StationEntry.setpoint.inj hc
      rfl
    · next hm =>
      obtain rfl := StationEntry.setpoint.inj hc
      simpa using hm
  | heat | horn _ | pin _ | linkUp | lockReply _ | cabinetData _ => exact absurd hc (by simp [checked])

theorem State.limitSafe.offer {s : State} (h : s.limitSafe) {n : StationId} {e : StationEntry}
    (he : ∀ sp, e = .setpoint sp → withinSoft (s.envelope n) sp.azTarget sp.elTarget = true) : (offer n e s).limitSafe := by
  obtain ⟨hact, hcopy, hq⟩ := h
  have honly := (offer_ports n e s).only
  refine ⟨by rw [honly.settings]; exact hact, by rw [honly.store]; exact hcopy, fun m sp hsp => ?_⟩
  rw [honly.envelope]
  rcases mem_offer_queue (mem_queuedSetpoints.mp hsp) with hold | ⟨rfl, hnew⟩
  · exact hq m sp (mem_queuedSetpoints.mpr hold)
  · exact checked_within hact he hnew.symm

/-! ### The upstream queue (R39, R40, R42, R179) -/

/-- The law of the upstream queue. -/
def upQueueLaw (q : List UpEntry) : Prop :=
  q.length ≤ 32 ∧ q.countP (·.isTraffic) ≤ 28 ∧ q.countP (·.isAlert) ≤ 1 ∧ ∀ n, q.countP (·.isTelemetryOf n) ≤ 1

theorem State.upstreamLaw_iff {s : State} : s.upstreamLaw ↔ upQueueLaw s.upQueue := Iff.rfl

/-- An entry appended where its own class has room. -/
theorem upQueueLaw.append {q : List UpEntry} {e : UpEntry} (h : upQueueLaw q) (hlen : q.length < 32)
    (htraffic : e.isTraffic = true → q.length < 28) (halert : e.isAlert = true → q.any (·.isAlert) = false)
    (htel : ∀ n, e.isTelemetryOf n = true → q.any (·.isTelemetryOf n) = false) : upQueueLaw (q ++ [e]) := by
  obtain ⟨-, h2, h3, h4⟩ := h
  have hzero : ∀ p : UpEntry → Bool, q.any p = false → q.countP p = 0 := fun p hp => by
    rw [List.countP_eq_zero]
    intro x hx
    rw [List.any_eq_false] at hp
    exact hp x hx
  have hle : ∀ p : UpEntry → Bool, q.countP p ≤ q.length := fun p => List.countP_le_length
  refine ⟨by simp; omega, ?_, ?_, fun n => ?_⟩
  · rw [List.countP_append, List.countP_singleton]
    split
    · next he => have := htraffic he; have := hle (·.isTraffic); omega
    · exact h2
  · rw [List.countP_append, List.countP_singleton]
    split
    · next he => have := hzero _ (halert he); omega
    · exact h3
  · rw [List.countP_append, List.countP_singleton]
    split
    · next he => have := hzero _ (htel n he); omega
    · exact h4 n

/-- Entries replaced by entries of the same classes. -/
theorem upQueueLaw.map {q : List UpEntry} (h : upQueueLaw q) (f : UpEntry → UpEntry) (h1 : ∀ e, (f e).isTraffic = e.isTraffic)
    (h2 : ∀ e, (f e).isAlert = e.isAlert) (h3 : ∀ n e, (f e).isTelemetryOf n = e.isTelemetryOf n) : upQueueLaw (q.map f) := by
  simpa [upQueueLaw, List.countP_map, Function.comp_def, h1, h2, h3] using h

theorem UpEntry.eq_telemetry {n : StationId} {x : UpEntry} (h : x.isTelemetryOf n = true) : ∃ g, x = .telemetry n g := by
  cases x <;> simp [isTelemetryOf] at h
  exact ⟨_, by rw [h]⟩

theorem UpEntry.eq_alert {x : UpEntry} (h : x.isAlert = true) : ∃ a, x = .alert a := by
  cases x <;> simp [isAlert] at h
  exact ⟨_, rfl⟩

theorem upQueueLaw.admitUp {q : List UpEntry} (h : upQueueLaw q) (e : UpEntry) : upQueueLaw (admitUp q e) := by
  cases e with
  | telemetry n f =>
    unfold Machine.admitUp
    simp only
    split
    · refine h.map _ (fun x => ?_) (fun x => ?_) (fun m x => ?_) <;> split
      all_goals first
        | rfl
        | (next hx => obtain ⟨g, rfl⟩ := UpEntry.eq_telemetry hx; rfl)
    · next hnone =>
      split
      · next hroom =>
        have hroom : q.length < 28 := hroom
        refine h.append (by omega) (fun _ => hroom) (fun he => absurd he (by simp [UpEntry.isAlert])) (fun m hm => ?_)
        obtain rfl : n = m := by simpa [UpEntry.isTelemetryOf] using hm
        simpa using hnone
      · exact h
  | cabinetData f =>
    unfold Machine.admitUp
    simp only
    split
    · next hroom =>
      have hroom : q.length < 28 := hroom
      exact h.append (by omega) (fun _ => hroom) (fun he => absurd he (by simp [UpEntry.isAlert]))
        (fun m hm => absurd hm (by simp [UpEntry.isTelemetryOf]))
    · exact h
  | mgmtResp tag code resp contents =>
    unfold Machine.admitUp
    simp only
    split
    · next hroom =>
      exact h.append hroom (fun he => absurd he (by simp [UpEntry.isTraffic])) (fun he => absurd he (by simp [UpEntry.isAlert]))
        (fun m hm => absurd hm (by simp [UpEntry.isTelemetryOf]))
    · exact h
  | alert a =>
    unfold Machine.admitUp
    simp only
    split
    · refine h.map _ (fun x => ?_) (fun x => ?_) (fun m x => ?_) <;> split
      all_goals first
        | rfl
        | (next hx => obtain ⟨g, rfl⟩ := UpEntry.eq_alert hx; rfl)
    · next hnone =>
      split
      · next hroom =>
        exact h.append hroom (fun he => absurd he (by simp [UpEntry.isTraffic])) (fun _ => by simpa using hnone)
          (fun m hm => absurd hm (by simp [UpEntry.isTelemetryOf]))
      · exact h

theorem upQueueLaw.tail {e : UpEntry} {q : List UpEntry} (h : upQueueLaw (e :: q)) : upQueueLaw q := by
  have hle : ∀ p : UpEntry → Bool, q.countP p ≤ (e :: q).countP p := fun p => (List.sublist_cons_self e q).countP_le
  obtain ⟨h1, h2, h3, h4⟩ := h
  exact ⟨by simp at h1; omega, (hle _).trans h2, (hle _).trans h3, fun n => (hle _).trans (h4 n)⟩

theorem departUp_upstream {s : State} (h : s.upstreamLaw) : (departUp s).upstreamLaw := by
  unfold departUp
  split
  · next e rest _ hq => rw [State.upstreamLaw_iff, hq] at h; exact h.tail
  · exact h

theorem offerUp_upstream {s : State} (h : s.upstreamLaw) (e : UpEntry) : (offerUp e s).upstreamLaw :=
  departUp_upstream (upQueueLaw.admitUp h e)

theorem examine_upstream {s : State} (h : s.upstreamLaw) : (examine s).upstreamLaw := by
  unfold examine
  split
  · next c _ _ =>
    exact offerUp_upstream (s := { s with attention := { raised := s.attention.raised.erase c, latched := some c } }) h _
  · exact h

end Sys2Proof.Machine
end

section
/-! SUPPORT. What the operations of the Sensor Scanner, the Melt Controller and the wind level leave of the station records
and of the stow: of a record the zones alone change, the refresh timer stands, and the cause set goes with the level (R133,
R135). -/

namespace Sys2Proof.Machine

/-- Of the station records only the zones and the clip logs have changed; the active table, the STORM input and the refresh
timer stand, a copy taken meanwhile holds the active table, and the cause set goes with the level. -/
structure SensorReach (s t : State) : Prop where
  record : ∀ n, t.station n = { s.station n with zones := (t.station n).zones, clipLog := (t.station n).clipLog }
  active : t.settings.active = s.settings.active
  copy : ∀ c, t.store.copy = some c → s.store.copy = some c ∨ c.active = s.settings.active
  stormInput : t.stormInput = s.stormInput
  refresh : t.wind.refresh = s.wind.refresh
  upstream : s.upstreamLaw → t.upstreamLaw
  causes : s.causeLaw → t.causeLaw

theorem SensorReach.refl (s : State) : SensorReach s s := ⟨fun _ => rfl, rfl, fun _ => .inl, rfl, rfl, id, id⟩

theorem SensorReach.trans {s t u : State} (h : SensorReach s t) (k : SensorReach t u) : SensorReach s u where
  record n := by rw [k.record n, h.record n]
  active := k.active.trans h.active
  copy c hc := (k.copy c hc).elim (h.copy c) fun hact => .inr (hact.trans h.active)
  stormInput := k.stormInput.trans h.stormInput
  refresh := k.refresh.trans h.refresh
  upstream := k.upstream ∘ h.upstream
  causes := k.causes ∘ h.causes

theorem SensorReach.foldl {α : Type} {f : State → α → State} (h : ∀ s a, SensorReach s (f s a)) (l : List α) (s : State) :
    SensorReach s (l.foldl f s) := by
  induction l generalizing s with
  | nil => exact .refl s
  | cons a l ih => exact (h s a).trans (ih _)

/-- A change of zones alone. -/
theorem SensorReach.of_only {s t : State} (h : OnlyStations s t)
    (record : ∀ n, t.station n = { s.station n with zones := (t.station n).zones, clipLog := (t.station n).clipLog }) :
    SensorReach s t where
  record := record
  active := by rw [h.settings]
  copy c hc := .inl (h.store ▸ hc)
  stormInput := h.stormInput
  refresh := by rw [h.wind]
  upstream hl := by rw [State.upstreamLaw_iff, h.upQueue]; exact hl
  causes hc := by unfold State.causeLaw at *; rw [h.wind, h.stormInput]; exact hc

/-- A change that leaves the stations, the tables and the wind state. -/
theorem SensorReach.of_same {s t : State} (hst : t.stations = s.stations) (hact : t.settings.active = s.settings.active)
    (hcopy : t.store.copy = s.store.copy) (hstorm : t.stormInput = s.stormInput) (hwind : t.wind = s.wind)
    (hup : s.upstreamLaw → t.upstreamLaw) : SensorReach s t where
  record n := by rw [State.station_congr hst n]
  active := hact
  copy c hc := .inl (hcopy ▸ hc)
  stormInput := hstorm
  refresh := by rw [hwind]
  upstream := hup
  causes hc := by unfold State.causeLaw at *; rw [hwind, hstorm]; exact hc

/-! ### Zones -/

theorem updZone_reach (s : State) (n : StationId) (z : ZoneNum) (f : Zone → Zone) : SensorReach s (s.updZone n z f) := by
  refine .of_only (s.updZone_only n z f) fun m => ?_
  rw [State.updZone_station]
  split
  · next h => subst h; rfl
  · rfl

theorem evalWant_reach (n : StationId) (z : ZoneNum) (s : State) : SensorReach s (evalWant n z s) := updZone_reach s n z _

theorem evalWants_reach (zs : List (StationId × ZoneNum)) (s : State) : SensorReach s (evalWants zs s) :=
  .foldl (fun s (p : StationId × ZoneNum) => evalWant_reach p.1 p.2 s) zs s

/-- An update of the zones of one record. -/
theorem updZones_reach (s : State) (n : StationId) (f : Station → Tab 4 Zone) :
    SensorReach s (s.updStation n fun st => { st with zones := f st }) := by
  refine .of_only (s.updStation_only n _) fun m => ?_
  rw [State.updStation_station]
  split
  · next h => subst h; rfl
  · rfl

theorem beginHeatBlock_reach (n : StationId) (s : State) : SensorReach s (beginHeatBlock n s) := updZones_reach s n _

theorem endHeatBlock_reach (n : StationId) (s : State) : SensorReach s (endHeatBlock n s) :=
  (updZones_reach s n _).trans (evalWants_reach _ _)

theorem settleHeatBlock_reach (n : StationId) (before : Bool) (s : State) : SensorReach s (settleHeatBlock n before s) := by
  unfold settleHeatBlock
  split
  · exact beginHeatBlock_reach n s
  · split
    · exact endHeatBlock_reach n s
    · exact .refl s

theorem contactorWatch_reach (n : StationId) (m : BitVec 4) (s : State) : SensorReach s (contactorWatch n m s) :=
  updZones_reach s n _

theorem raise_reach (c : Cause) (s : State) : SensorReach s (raise c s) := .of_only (raise_ports c s).only fun _ => rfl

theorem recordFault_reach (src : FaultSource) (r : FaultReason) (d : BitVec 32) (s : State) :
    SensorReach s (recordFault src r d s) :=
  .of_only (recordFault_ports src r d s).only fun n => by simp

theorem overtempCheck_reach (v : Int) (n : StationId) (z : ZoneNum) (s : State) :
    SensorReach s (overtempCheck v n z s) := by
  unfold overtempCheck
  split
  · exact (updZone_reach s n z _).trans (recordFault_reach _ _ _ _)
  · exact .refl s

theorem applySurface_reach (i : SlotId) (v : Int) (s : State) : SensorReach s (applySurface i v s) :=
  .foldl (fun s (p : StationId × ZoneNum) => (overtempCheck_reach v p.1 p.2 s).trans (evalWant_reach p.1 p.2 _)) _ s

theorem failContactor_reach (n : StationId) (z : ZoneNum) (s : State) : SensorReach s (failContactor n z s) :=
  (updZone_reach s n z _).trans (recordFault_reach _ _ _ _)

theorem clearZone_reach (n : StationId) (z : ZoneNum) (s : State) : SensorReach s (clearZone n z s) := by
  unfold clearZone
  simp only
  have h := (updZone_reach s n z fun zn => { zn with state := .off, faultReason := none }).trans (evalWant_reach n z _)
  split
  · exact h.trans (updZone_reach _ n z _)
  · exact h

theorem shedToBudget_reach (ps : List (StationId × ZoneNum)) (s : State) : SensorReach s (shedToBudget ps s) := by
  induction ps generalizing s with
  | nil => exact .refl s
  | cons p ps ih =>
    unfold shedToBudget
    split
    · exact .refl s
    · exact (updZone_reach s p.1 p.2 _).trans (ih _)

theorem admitZones_reach (ps : List (StationId × ZoneNum)) (room : Int) (s : State) :
    SensorReach s (admitZones ps room s) := by
  induction ps generalizing s room with
  | nil => exact .refl s
  | cons p ps ih =>
    unfold admitZones
    split
    · exact (updZone_reach s p.1 p.2 _).trans (ih _ _)
    · exact ih _ _

theorem shedUntil_reach (shortfall : Nat) (ps : List (StationId × ZoneNum)) (s : State) (count watts : Nat) :
    SensorReach s (shedUntil shortfall ps s count watts).1 := by
  induction ps generalizing s count watts with
  | nil => exact .refl s
  | cons p ps ih =>
    unfold shedUntil
    split
    · exact .refl s
    · exact (updZone_reach s p.1 p.2 _).trans (ih _ _ _)

theorem allocationShed_reach (k : AllocKind) (s : State) : SensorReach s (allocationShed k s).1 := by
  unfold allocationShed
  split
  · exact .refl s
  · exact shedUntil_reach _ _ s 0 0

theorem settleZoneWrite_reach (old : Tab 32 ZoneRecord) (p : StationId × ZoneNum) (s : State) :
    SensorReach s (settleZoneWrite old p s) := by
  unfold settleZoneWrite
  simp only
  split
  · exact ((updZone_reach s p.1 p.2 _).trans (updZone_reach _ p.1 p.2 _)).trans (evalWant_reach p.1 p.2 _)
  · exact updZone_reach s p.1 p.2 _

/-! ### The level and the melt condition -/

theorem setHoldDown_reach (t : Option Timer) (s : State) : SensorReach s (setHoldDown t s) :=
  ⟨fun _ => rfl, rfl, fun _ => .inl, rfl, rfl, id, id⟩

/-- A change of the level takes WIND into the cause set or out of it (R133, R135). -/
theorem setLevel_reach (l : WindLevel) (s : State) : SensorReach s (setLevel l s) := by
  unfold setLevel
  split
  · exact .refl s
  · exact ⟨fun _ => rfl, rfl, fun _ => .inl, rfl, rfl, id, fun h => ⟨rfl, h.2⟩⟩

theorem evalLevel_reach (s : State) : SensorReach s (evalLevel s) := by
  unfold evalLevel evalLevelAt
  simp only
  repeat' split
  all_goals first
    | exact (setLevel_reach _ s).trans (setHoldDown_reach _ _)
    | exact setHoldDown_reach _ s

theorem stepDown_reach (s : State) : SensorReach s (stepDown s) :=
  ((setHoldDown_reach none s).trans (setLevel_reach _ _)).trans (evalLevel_reach _)

theorem evalCondition_reach (s : State) : SensorReach s (evalCondition s) := by
  unfold evalCondition
  split
  · exact .refl s
  · refine SensorReach.trans ?_ (evalWants_reach allZones _)
    exact ⟨fun _ => rfl, rfl, fun _ => .inl, rfl, rfl, id, id⟩

theorem anemometerEntered_reach (before : Nat) (s : State) : SensorReach s (anemometerEntered before s) := by
  unfold anemometerEntered
  split
  · exact ⟨fun _ => rfl, rfl, fun _ => .inl, rfl, rfl, id, id⟩
  · exact .refl s

theorem anemometersLeft_reach (before : Nat) (s : State) : SensorReach s (anemometersLeft before s) := by
  unfold anemometersLeft
  split
  · split
    · exact .refl s
    · exact ⟨fun _ => rfl, rfl, fun _ => .inl, rfl, rfl, id, id⟩
  · exact evalLevel_reach s

theorem stampPrecip_reach (s : State) : SensorReach s (stampPrecip s) :=
  ⟨fun _ => rfl, rfl, fun _ => .inl, rfl, rfl, id, id⟩

theorem goBlind_reach (s : State) : SensorReach s (goBlind s) := by
  unfold goBlind
  refine SensorReach.trans ?_ (recordFault_reach _ _ _ _)
  exact ⟨fun _ => rfl, rfl, fun _ => .inl, rfl, rfl, id, id⟩

/-! ### Slots and passes -/

theorem updSlot_reach (s : State) (i : SlotId) (f : Slot → Slot) : SensorReach s (s.updSlot i f) :=
  ⟨fun _ => rfl, rfl, fun _ => .inl, rfl, rfl, id, id⟩

theorem updScanner_reach (s : State) (f : Scanner → Scanner) : SensorReach s (s.updScanner f) :=
  ⟨fun _ => rfl, rfl, fun _ => .inl, rfl, rfl, id, id⟩

theorem accept_reach (i : SlotId) (st : SlotState) (v : Int) (s : State) : SensorReach s (accept i st v s) := by
  unfold accept
  simp only
  have h := updSlot_reach s i fun t => t.accepted (s.slotRecord i) st v s.now
  split
  · refine SensorReach.trans ?_ (evalLevel_reach _)
    split
    · exact h
    · exact h.trans (anemometerEntered_reach _ _)
  · refine SensorReach.trans ?_ (evalCondition_reach _)
    split
    · exact h.trans (raise_reach _ _)
    · exact h
  · exact h.trans (applySurface_reach _ _ _)
  · refine SensorReach.trans ?_ (evalCondition_reach _)
    split
    · exact h.trans (stampPrecip_reach _)
    · exact h
  · exact h

theorem retire_reach (i : SlotId) (st : SlotState) (miss : Nat) (s : State) : SensorReach s (retire i st miss s) := by
  unfold retire
  simp only
  have h := updSlot_reach s i fun t => t.retired st miss
  split
  · split
    · exact h.trans (anemometersLeft_reach _ _)
    · exact h.trans (evalWants_reach _ _)
    · exact h.trans (evalCondition_reach _)
    · exact h.trans (evalCondition_reach _)
    · exact h
  · exact h

theorem loseSlot_reach (i : SlotId) (cause : Nat) (s : State) : SensorReach s (loseSlot i cause s) :=
  (retire_reach _ _ _ s).trans (recordFault_reach _ _ _ _)

theorem takeMiss_reach (cause : Nat) (i : SlotId) (s : State) : SensorReach s (takeMiss cause i s) := by
  have h : SensorReach s
      (if (s.slot i).miss < 2 then s.updSlot i fun t => { t with miss := t.miss + 1 } else loseSlot i cause s) := by
    split
    · exact updSlot_reach s i _
    · exact loseSlot_reach i cause s
  unfold takeMiss
  split <;> first | exact h | exact .refl s

theorem takeReading_reach (raw : Int) (i : SlotId) (s : State) : SensorReach s (takeReading raw i s) := by
  unfold takeReading
  simp only
  have h := updSlot_reach s i fun t => { t with latestRaw := some raw }
  split
  · exact h
  · split
    · exact h.trans (accept_reach _ _ _ _)
    · exact h.trans (takeMiss_reach _ _ _)

theorem deliverSubstitute_reach (i : SlotId) (s : State) : SensorReach s (deliverSubstitute i s) := by
  unfold deliverSubstitute
  split
  · exact .refl s
  · exact accept_reach _ _ _ s

theorem passEnd_reach (s : State) : SensorReach s (passEnd s) := by
  unfold passEnd
  split <;> exact updScanner_reach s _

theorem issue_reach (frame : PollFrame) (slots : List SlotId) (timeout next : Nat) (s : State) :
    SensorReach s (issue frame slots timeout next s) :=
  updScanner_reach s _

theorem walkSequential_reach (fuel i : Nat) (s : State) : SensorReach s (walkSequential fuel i s) := by
  induction fuel generalizing i s with
  | zero => exact passEnd_reach s
  | succ fuel ih =>
    unfold walkSequential
    split
    · split
      · split
        · exact (deliverSubstitute_reach _ s).trans (ih _ _)
        · exact issue_reach _ _ _ _ s
      · exact passEnd_reach s
    · exact passEnd_reach s

theorem walkPaired_reach (fuel p : Nat) (s : State) : SensorReach s (walkPaired fuel p s) := by
  induction fuel generalizing p s with
  | zero => exact passEnd_reach s
  | succ fuel ih =>
    unfold walkPaired
    simp only
    split
    · split
      · split
        · split
          · exact ((deliverSubstitute_reach _ s).trans (deliverSubstitute_reach _ _)).trans (ih _ _)
          · exact (deliverSubstitute_reach _ s).trans (issue_reach _ _ _ _ _)
        · split
          · exact (deliverSubstitute_reach _ s).trans (issue_reach _ _ _ _ _)
          · exact issue_reach _ _ _ _ s
      · exact passEnd_reach s
    · exact passEnd_reach s

theorem continuePass_reach (s : State) : SensorReach s (continuePass s) := by
  unfold continuePass
  split
  · exact walkSequential_reach _ _ s
  · exact walkPaired_reach _ _ s

theorem beginPass_reach (s : State) : SensorReach s (beginPass s) := (updScanner_reach s _).trans (continuePass_reach _)

theorem completeTransaction_reach (s : State) : SensorReach s (completeTransaction s) := by
  unfold completeTransaction
  simp only
  split
  · exact (updScanner_reach s _).trans (continuePass_reach _)
  · exact (updScanner_reach s _).trans (updScanner_reach _ _)

theorem takeSensorFrame_reach (address : Byte) (raw : Int) (s : State) : SensorReach s (takeSensorFrame address raw s) := by
  unfold takeSensorFrame
  split
  · exact recordFault_reach _ _ _ s
  · simp only
    split
    · exact recordFault_reach _ _ _ s
    · have h : ∀ (slots : List SlotId) (u : State), SensorReach u (slots.foldl (fun s i => takeReading raw i s) u) :=
        fun slots u => .foldl (fun s i => takeReading_reach raw i s) slots u
      split
      · exact ((updScanner_reach s _).trans (h _ _)).trans (completeTransaction_reach _)
      · exact (updScanner_reach s _).trans (h _ _)

theorem expireTransaction_reach (t : Transaction) (s : State) : SensorReach s (expireTransaction t s) :=
  (SensorReach.foldl (fun s i => takeMiss_reach 0 i s) _ s).trans (completeTransaction_reach _)

theorem autostart_reach (s : State) : SensorReach s (autostart s) := by
  unfold autostart
  split
  · exact (updScanner_reach s _).trans (beginPass_reach _)
  · exact .refl s

theorem substitute_reach (i : SlotId) (v : Int) (life : Nat) (s : State) : SensorReach s (substitute i v life s) :=
  (updSlot_reach s i _).trans (accept_reach _ _ _ _)

theorem settlePollWrite_reach (s0 : State) (written : SlotId → Bool) (s : State) :
    SensorReach s (settlePollWrite s0 written s) := by
  unfold settlePollWrite
  simp only
  refine SensorReach.trans ?_ (evalWants_reach _ _)
  refine SensorReach.trans ?_ (evalCondition_reach _)
  have h : SensorReach s (resetWritten written s) := ⟨fun _ => rfl, rfl, fun _ => .inl, rfl, rfl, id, id⟩
  split
  · exact h.trans (anemometersLeft_reach _ _)
  · exact h

/-! ### The upstream port -/

theorem offerUp_reach (e : UpEntry) (s : State) : SensorReach s (offerUp e s) := by
  refine .of_same ?_ ?_ ?_ ?_ ?_ fun h => offerUp_upstream h e <;> rw [offerUp_eq]

theorem examine_reach (s : State) : SensorReach s (examine s) := by
  refine .of_same ?_ ?_ ?_ ?_ ?_ examine_upstream <;> rw [examine_eq]

end Sys2Proof.Machine
end

section
/-! SUPPORT. The relation between a state and what follows it that keeps the laws of the queues, the soft limits of what waits,
and that nothing that waits moves: every operation but the offer of a granted setpoint is within it. -/

namespace Sys2Proof.Machine

/-! ### One record -/

/-- Between two records of a station: the queue keeps its law, its quiet and its limits, and a DOWN link its empty queue. -/
structure QueueCalm (e : Envelope) (a b : Station) : Prop where
  quiet : quietQueue a.queue → quietQueue b.queue
  within : e.ordered → queueWithin e a.queue → queueWithin e b.queue
  law : queueLaw a.queue → queueLaw b.queue
  away : (a.link.isUp = false → a.queue = []) → b.link.isUp = false → b.queue = []

/-- The same, and a DOWN link keeps its empty transmitter. -/
structure PortCalm (e : Envelope) (a b : Station) : Prop extends QueueCalm e a b where
  idle : (a.link.isUp = false → a.tx = none) → b.link.isUp = false → b.tx = none

section
variable {e : Envelope} {a b c : Station}

theorem QueueCalm.trans (h : QueueCalm e a b) (k : QueueCalm e b c) : QueueCalm e a c :=
  ⟨k.quiet ∘ h.quiet, fun ho => k.within ho ∘ h.within ho, k.law ∘ h.law, k.away ∘ h.away⟩

theorem PortCalm.trans (h : PortCalm e a b) (k : PortCalm e b c) : PortCalm e a c :=
  ⟨h.toQueueCalm.trans k.toQueueCalm, k.idle ∘ h.idle⟩

theorem QueueCalm.of_same (hq : b.queue = a.queue) (hup : b.link.isUp = a.link.isUp) : QueueCalm e a b := by
  constructor <;> rw [hq] <;> first | exact id | exact fun _ => id | (rw [hup]; exact id)

/-- A record whose port stands. -/
theorem PortCalm.of_same (hq : b.queue = a.queue) (hup : b.link.isUp = a.link.isUp) (htx : b.tx = a.tx) : PortCalm e a b :=
  ⟨.of_same hq hup, by rw [hup, htx]; exact id⟩

theorem PortCalm.refl : PortCalm e a a := .of_same rfl rfl rfl

/-- A queue that is a part of the old one. -/
theorem QueueCalm.of_sublist (hq : b.queue.Sublist a.queue) (hup : b.link.isUp = a.link.isUp ∨ b.link.isUp = true ∨ b.queue = []) :
    QueueCalm e a b where
  quiet h := h.subset hq.subset
  within _ h sp hsp := h sp (mem_queuedSetpoints.mpr (hq.subset (mem_queuedSetpoints.mp hsp)))
  law h := ⟨hq.length_le.trans h.1, fun k hk => hq.countP_le.trans (h.2 k hk)⟩
  away h hd := by
    rcases hup with hup | hup | hnil
    · rw [h (hup ▸ hd)] at hq
      exact List.sublist_nil.mp hq
    · exact absurd (hup.symm.trans hd) (by simp)
    · exact hnil

/-- An entry offered, where it does not move and lies within the limits. -/
theorem PortCalm.takes {node : Byte} {x : StationEntry} (hstill : ∀ sp, x = .setpoint sp → sp.moving = false)
    (hwithin : e.ordered → ∀ sp, x = .setpoint sp → withinSoft e sp.azTarget sp.elTarget = true) :
    PortCalm e a (a.takes node x) where
  quiet h sp hsp := by
    rcases Station.mem_takes_queue (mem_queuedSetpoints.mp hsp) with hold | hnew
    · exact h sp (mem_queuedSetpoints.mpr hold)
    · exact hstill sp hnew.symm
  within ho h sp hsp := by
    rcases Station.mem_takes_queue (mem_queuedSetpoints.mp hsp) with hold | hnew
    · exact h sp (mem_queuedSetpoints.mpr hold)
    · exact hwithin ho sp hnew.symm
  law h := by
    unfold Station.takes
    split
    · exact (h.admitted x).suffix (Station.departs_queue_suffix _ _)
    · exact h
  away h hd := by
    rw [Station.takes_link] at hd
    rw [Station.takes_down hd]
    exact h hd
  idle h hd := by
    rw [Station.takes_link] at hd
    rw [Station.takes_down hd]
    exact h hd

theorem PortCalm.departs (node : Byte) : PortCalm e a (a.departs node) where
  toQueueCalm := .of_sublist (Station.departs_queue_suffix _ _).sublist (.inl (by simp))
  idle h hd := by
    rw [Station.departs_link] at hd
    unfold Station.departs
    rw [hd]
    exact h hd

end

/-! ### Replaced SETPOINTs -/

theorem replaceSetpoints_kind (p : Setpoint → Bool) (stop : Setpoint) (e : StationEntry) :
    (match e with
      | .setpoint sp => if p sp then .setpoint stop else e
      | _ => e : StationEntry).kind = e.kind := by
  cases e with
  | setpoint sp => simp only; split <;> rfl
  | heat | horn _ | pin _ | linkUp | lockReply _ | cabinetData _ => rfl

/-- What stands in a queue after a replacement: an old SETPOINT that the test passed over, or the one put in. -/
theorem mem_queuedSetpoints_replace {p : Setpoint → Bool} {stop sp : Setpoint} {q : List StationEntry}
    (h : sp ∈ queuedSetpoints (replaceSetpoints p stop q)) : (sp ∈ queuedSetpoints q ∧ p sp = false) ∨ sp = stop := by
  rw [mem_queuedSetpoints, replaceSetpoints, List.mem_map] at h
  obtain ⟨e, he, hsp⟩ := h
  cases e with
  | setpoint x =>
    simp only at hsp
    split at hsp
    · exact .inr (StationEntry.setpoint.inj hsp).symm
    · next hp =>
      obtain rfl := StationEntry.setpoint.inj hsp
      exact .inl ⟨mem_queuedSetpoints.mpr he, by simpa using hp⟩
  | heat | horn _ | pin _ | linkUp | lockReply _ | cabinetData _ => exact absurd hsp (by simp)

/-- Once every moving SETPOINT is replaced by one that does not move, the queue is quiet (R20). -/
theorem quietQueue_replace_moving (q : List StationEntry) {stop : Setpoint} (hstop : stop.moving = false) :
    quietQueue (replaceSetpoints Setpoint.moving stop q) := by
  intro sp hsp
  rcases mem_queuedSetpoints_replace hsp with ⟨-, hp⟩ | rfl
  · exact hp
  · exact hstop

theorem quietQueue_replace_all (q : List StationEntry) {stop : Setpoint} (hstop : stop.moving = false) :
    quietQueue (replaceSetpoints (fun _ => true) stop q) := by
  intro sp hsp
  rcases mem_queuedSetpoints_replace hsp with ⟨-, hp⟩ | rfl
  · exact absurd hp (by simp)
  · exact hstop

/-- A record whose SETPOINTs are replaced, by a test, with a STOP. -/
theorem PortCalm.replace {e : Envelope} {a b : Station} {p : Setpoint → Bool} {stop : Setpoint}
    (hq : b.queue = replaceSetpoints p stop a.queue) (hup : b.link.isUp = a.link.isUp) (htx : b.tx = a.tx)
    (hstill : stop.moving = false) (hwithin : e.ordered → withinSoft e stop.azTarget stop.elTarget = true) :
    PortCalm e a b where
  quiet h sp hsp := by
    rw [hq] at hsp
    rcases mem_queuedSetpoints_replace hsp with ⟨hold, -⟩ | rfl
    · exact h sp hold
    · exact hstill
  within ho h sp hsp := by
    rw [hq] at hsp
    rcases mem_queuedSetpoints_replace hsp with ⟨hold, -⟩ | rfl
    · exact h sp hold
    · exact hwithin ho
  law h := by rw [hq]; exact h.map _ (replaceSetpoints_kind p stop)
  away h hd := by rw [hq, h (hup ▸ hd)]; rfl
  idle h hd := by rw [htx]; exact h (hup ▸ hd)

/-! ### The whole state -/

/-- Every queue is calm, the soft limits hold on, and the upstream queue keeps its law. -/
structure CalmQueues (s t : State) : Prop where
  quiet : ∀ n, quietQueue (s.station n).queue → quietQueue (t.station n).queue
  law : ∀ n, queueLaw (s.station n).queue → queueLaw (t.station n).queue
  away : ∀ n, ((s.station n).link.isUp = false → (s.station n).queue = []) →
    (t.station n).link.isUp = false → (t.station n).queue = []
  limits : s.limitSafe → t.limitSafe
  upstream : s.upstreamLaw → t.upstreamLaw

/-- Every port is calm, the soft limits hold on, and the upstream queue keeps its law. -/
structure Calm (s t : State) : Prop extends CalmQueues s t where
  idle : ∀ n, ((s.station n).link.isUp = false → (s.station n).tx = none) →
    (t.station n).link.isUp = false → (t.station n).tx = none

theorem CalmQueues.trans {s t u : State} (h : CalmQueues s t) (k : CalmQueues t u) : CalmQueues s u :=
  ⟨fun n => k.quiet n ∘ h.quiet n, fun n => k.law n ∘ h.law n, fun n => k.away n ∘ h.away n, k.limits ∘ h.limits,
    k.upstream ∘ h.upstream⟩

theorem Calm.refl (s : State) : Calm s s := ⟨⟨fun _ => id, fun _ => id, fun _ => id, id, id⟩, fun _ => id⟩

theorem Calm.trans {s t u : State} (h : Calm s t) (k : Calm t u) : Calm s u :=
  ⟨h.toCalmQueues.trans k.toCalmQueues, fun n => k.idle n ∘ h.idle n⟩

theorem Calm.queues {s t : State} (h : Calm s t) (hl : s.queuesLaw) : t.queuesLaw := fun n =>
  ⟨h.law n (hl n).1, fun hd => ⟨h.away n (fun hs => ((hl n).2 hs).1) hd, h.idle n (fun hs => ((hl n).2 hs).2) hd⟩⟩

theorem Calm.foldl {α : Type} {f : State → α → State} (h : ∀ s a, Calm s (f s a)) (l : List α) (s : State) :
    Calm s (l.foldl f s) := by
  induction l generalizing s with
  | nil => exact .refl s
  | cons a l ih => exact (h s a).trans (ih _)

/-- What is calm at every queue, with the active table, the store and the law of the upstream queue kept. -/
theorem CalmQueues.of_records {s t : State} (h : ∀ n, QueueCalm (s.envelope n) (s.station n) (t.station n))
    (hact : t.settings.active = s.settings.active)
    (hcopy : ∀ c, t.store.copy = some c → s.store.copy = some c ∨ c.active = s.settings.active)
    (hup : s.upstreamLaw → t.upstreamLaw) :
    CalmQueues s t where
  quiet n := (h n).quiet
  law n := (h n).law
  away n := (h n).away
  limits := by
    rintro ⟨hord, hstored, hq⟩
    refine ⟨by rw [hact]; exact hord, fun c hc => ?_, fun n => ?_⟩
    · rcases hcopy c hc with hold | hnew
      · exact hstored c hold
      · rw [hnew]; exact hord
    · rw [State.envelope, hact]
      exact (h n).within (hord n) (hq n)
  upstream := hup

/-- What is calm at every port, with the active table, the store and the law of the upstream queue kept. -/
theorem Calm.of_ports {s t : State} (h : ∀ n, PortCalm (s.envelope n) (s.station n) (t.station n))
    (hact : t.settings.active = s.settings.active)
    (hcopy : ∀ c, t.store.copy = some c → s.store.copy = some c ∨ c.active = s.settings.active)
    (hup : s.upstreamLaw → t.upstreamLaw) :
    Calm s t :=
  ⟨.of_records (fun n => (h n).toQueueCalm) hact hcopy hup, fun n => (h n).idle⟩

theorem SensorReach.calm {s t : State} (h : SensorReach s t) : Calm s t :=
  .of_ports (fun n => by rw [h.record n]; exact .of_same rfl rfl rfl) h.active h.copy
    h.upstream

/-- An update of one record whose port is calm. -/
theorem Calm.updStation (s : State) (n : StationId) (f : Station → Station)
    (hf : PortCalm (s.envelope n) (s.station n) (f (s.station n))) : Calm s (s.updStation n f) := by
  refine .of_ports (fun m => ?_) rfl (fun _ => .inl) id
  rw [State.updStation_station]
  split
  · next e => subst e; exact hf
  · exact .refl

/-- An update of one record that leaves its port alone. -/
theorem Calm.updBody (s : State) (n : StationId) (f : Station → Station)
    (hf : (f (s.station n)).queue = (s.station n).queue ∧ (f (s.station n)).link.isUp = (s.station n).link.isUp
      ∧ (f (s.station n)).tx = (s.station n).tx := by exact ⟨rfl, rfl, rfl⟩) : Calm s (s.updStation n f) :=
  .updStation s n f (.of_same hf.1 hf.2.1 hf.2.2)

/-- A change of the upstream port, the attention unit, the wind state and the like. -/
theorem Calm.of_upstream {s t : State} (hst : t.stations = s.stations) (hact : t.settings.active = s.settings.active)
    (hcopy : ∀ c, t.store.copy = some c → s.store.copy = some c ∨ c.active = s.settings.active)
    (hup : s.upstreamLaw → t.upstreamLaw) : Calm s t :=
  .of_ports (fun n => by rw [State.station_congr hst n]; exact .refl) hact hcopy hup

/-! ### Offers -/

/-- An offer of an entry that does not move and lies within the limits. -/
theorem Calm.offer {s : State} {n : StationId} {e : StationEntry} (hstill : ∀ sp, e = .setpoint sp → sp.moving = false)
    (hwithin : (s.envelope n).ordered → ∀ sp, e = .setpoint sp → withinSoft (s.envelope n) sp.azTarget sp.elTarget = true) :
    Calm s (offer n e s) := by
  have honly := (offer_ports n e s).only
  refine .of_ports (fun m => ?_) (by rw [honly.settings]) (fun _ hc => .inl (honly.store ▸ hc))
    (by rw [State.upstreamLaw_iff, State.upstreamLaw_iff, honly.upQueue]; exact id)
  have hc : checked n e s = e := by
    cases e with
    | setpoint sp => exact checked_of_still n s (hstill sp rfl)
    | heat | horn _ | pin _ | linkUp | lockReply _ | cabinetData _ => rfl
  by_cases hm : m = n
  · subst hm
    rw [offer_station_self, hc]
    exact .takes hstill hwithin
  · rw [offer_station_other e s hm]
    exact .refl

/-- An offer of an entry that is no SETPOINT. -/
theorem Calm.offer_of_ne (n : StationId) (e : StationEntry) (s : State) (h : e.kind ≠ .setpoint := by simp) :
    Calm s (Machine.offer n e s) :=
  .offer (fun _ he => absurd (by rw [he]; rfl) h) (fun _ _ he => absurd (by rw [he]; rfl) h)

theorem Calm.offerStop (n : StationId) (s : State) : Calm s (Machine.offerStop n s) :=
  .offer (fun _ he => by obtain rfl := StationEntry.setpoint.inj he; rfl)
    (fun ho _ he => by obtain rfl := StationEntry.setpoint.inj he; exact withinSoft_clampInt ho _ _)

theorem revokeMotion_calm (n : StationId) (s : State) : Calm s (revokeMotion n s) :=
  .updStation s n _ (.replace rfl rfl rfl rfl fun ho => withinSoft_clampInt ho _ _)

/-! ### Stations -/

theorem raise_calm (c : Cause) (s : State) : Calm s (raise c s) := (raise_reach c s).calm

theorem recordFault_calm (src : FaultSource) (r : FaultReason) (d : BitVec 32) (s : State) :
    Calm s (recordFault src r d s) := (recordFault_reach src r d s).calm

theorem setClip_calm (n : StationId) (c : ClipSet) (s : State) : Calm s (setClip n c s) :=
  .updBody s n _

theorem suspendWarning_calm (n : StationId) (s : State) : Calm s (suspendWarning n s) := by
  unfold suspendWarning
  split
  · exact (Calm.updBody s n _).trans (.offer_of_ne n _ _)
  · exact .refl s

theorem enterMoving_calm (n : StationId) (s : State) : Calm s (enterMoving n s) := .updBody s n _

theorem enterWarning_calm (n : StationId) (s : State) : Calm s (enterWarning n s) := by
  unfold enterWarning
  simp only
  have h : Calm s (offerStop n (s.updStation n fun st => { st with progress := .warning })) :=
    (Calm.updBody s n _).trans (.offerStop n _)
  split
  · exact h.trans (enterMoving_calm n _)
  · exact (h.trans (.offer_of_ne n _ _)).trans (.updBody _ n _)

theorem cancelClearing_calm (n : StationId) (s : State) : Calm s (cancelClearing n s) := by
  unfold cancelClearing
  split
  · exact ((Calm.updBody s n _).trans (.offer_of_ne n _ _)).trans (raise_calm _ _)
  · exact .refl s

theorem startClearing_calm (n : StationId) (was : Bool) (s : State) : Calm s (startClearing n was s) := by
  unfold startClearing
  split
  · exact ((Calm.updBody s n _).trans (.offer_of_ne n _ _)).trans (raise_calm _ _)
  · exact .refl s

theorem resumeStow_calm (n : StationId) (was : Bool) (s : State) : Calm s (resumeStow n was s) := by
  unfold resumeStow
  split
  · exact enterWarning_calm n s
  · exact .refl s

/-- The LOCK_REPLY of an event offered, where it has one (R90). -/
def answerLock (n : StationId) (reply : Option LockReply) (s : State) : State :=
  match reply with
  | none => s
  | some r => offer n (.lockReply r) s

/-- Whether the authority of a station turned from permitting to non-permitting (R20). -/
def State.turnedAt (s0 s : State) (n : StationId) : Bool := (s0.authority n).permitting && !(s.authority n).permitting

/-- What the change of a station's record brings about, up to the reply: the transition of R20, the LOCK_REPLY and the
suspended warning (R90, R140). -/
def settleMotion (n : StationId) (turned : Bool) (reply : Option LockReply) (s : State) : State :=
  if turned then suspendWarning n (answerLock n reply (revokeMotion n s)) else answerLock n reply s

/-- The stages of the settling of a station. -/
theorem settleStation_eq (n : StationId) (s0 : State) (reply : Option LockReply) (s : State) :
    settleStation n s0 reply s =
      settleHeatBlock n (heatBlock (s0.station n))
        (resumeStow n (s0.authority n).blocked
          (startClearing n (eligible (s0.station n))
            (cancelClearing n (settleMotion n (s0.turnedAt s n) reply s)))) := by
  unfold settleStation settleMotion answerLock State.turnedAt
  cases reply <;> cases ((s0.authority n).permitting && !(s.authority n).permitting) <;> rfl

theorem answerLock_ports (n : StationId) (reply : Option LockReply) (s : State) : OnlyPorts s (answerLock n reply s) := by
  cases reply with
  | none => exact .refl s
  | some r => exact offer_ports n _ s

theorem answerLock_calm (n : StationId) (reply : Option LockReply) (s : State) : Calm s (answerLock n reply s) := by
  cases reply with
  | none => exact .refl s
  | some r => exact .offer_of_ne n _ s

theorem settleMotion_calm (n : StationId) (turned : Bool) (reply : Option LockReply) (s : State) :
    Calm s (settleMotion n turned reply s) := by
  unfold settleMotion
  split
  · exact ((revokeMotion_calm n s).trans (answerLock_calm n reply _)).trans (suspendWarning_calm n _)
  · exact answerLock_calm n reply s

/-- What follows the transition of R20 and the reply. -/
theorem settleRest_calm (n : StationId) (before blocked able : Bool) (s : State) :
    Calm s (settleHeatBlock n before (resumeStow n blocked (startClearing n able (cancelClearing n s)))) :=
  (((cancelClearing_calm n s).trans (startClearing_calm n _ _)).trans (resumeStow_calm n _ _)).trans
    (settleHeatBlock_reach n _ _).calm

theorem settleStation_calm (n : StationId) (s0 : State) (reply : Option LockReply) (s : State) :
    Calm s (settleStation n s0 reply s) := by
  rw [settleStation_eq]
  exact (settleMotion_calm n _ reply s).trans (settleRest_calm n _ _ _ _)

/-- The link of a station comes UP or has its deadline started anew (R4). -/
theorem linkUp_calm (n : StationId) (d : Timer) (s : State) :
    Calm s (s.updStation n fun st => { st with link := .up d }) := by
  refine .updStation s n _ ⟨.of_sublist (List.Sublist.refl _) (.inr (.inl rfl)), fun _ hd => absurd hd (by simp [Link.isUp])⟩

theorem goodFrame_calm (n : StationId) (s : State) : Calm s (goodFrame n s) := by
  unfold goodFrame
  simp only
  split
  · exact linkUp_calm n _ s
  · exact ((linkUp_calm n _ s).trans (.offer_of_ne n _ _)).trans (.offer_of_ne n _ _)

theorem dropLink_calm (n : StationId) (s : State) : Calm s (dropLink n s) := by
  exact .updStation s n _ ⟨.of_sublist (List.nil_sublist _) (.inr (.inr rfl)), fun _ _ => rfl⟩

/-! ### The upstream port -/

theorem examine_calm (s : State) : Calm s (examine s) := (examine_reach s).calm

/-! ### The end of a frame and withheld departures (R33, R99) -/

theorem depart_calm (n : StationId) (s : State) : Calm s (depart n s) := by
  rw [depart_eq]
  exact .updStation s n _ (.departs _)

/-- A transmitter that ends its frame. -/
theorem clearTx_calm (n : StationId) (s : State) : Calm s (s.updStation n fun st => { st with tx := none }) :=
  .updStation s n _ ⟨.of_same rfl rfl, fun _ _ => rfl⟩

/-! ### The stow of the cluster (R138, R148) -/

theorem startWarning_calm (s : State) (n : StationId) : Calm s (startWarning s n) := by
  unfold startWarning
  split
  · exact enterWarning_calm n s
  · exact .refl s

theorem mapStations_activate_calm (s : State) : Calm s (s.mapStations fun n st => activateStation (s.stopSetpoint n) st) := by
  refine .of_ports (fun n => ?_) rfl (fun _ => .inl) id
  rw [State.mapStations_station]
  exact .replace rfl rfl rfl rfl fun ho => withinSoft_clampInt ho _ _

theorem mapStations_release_calm (s : State) : Calm s (s.mapStations fun _ st => releaseStation st) := by
  refine .of_ports (fun n => ?_) rfl (fun _ => .inl) id
  rw [State.mapStations_station]
  exact .of_same rfl rfl rfl

/-- The refresh timer set or stopped, and STOW_CHANGE raised. -/
theorem withRefresh_calm (t : Option Timer) (s : State) :
    Calm s (raise .stowChange { s with wind := { s.wind with refresh := t } }) :=
  .of_upstream rfl rfl (fun _ => .inl) id

theorem activate_calm (s : State) : Calm s (activate s) :=
  ((mapStations_activate_calm s).trans (.foldl startWarning_calm stationIds _)).trans (withRefresh_calm _ _)

theorem releaseOffers_calm (s : State) (n : StationId) : Calm s (releaseOffers s n) := by
  have h1 : Calm s (if (s.station n).progress = .moving then offerStop n s else s) := by
    split
    · exact .offerStop n s
    · exact .refl s
  have h2 : ∀ (p : Prop) (_ : Decidable p) (u : State), Calm u (if p then offer n (.horn false) u else u) := fun p _ u => by
    split
    · exact .offer_of_ne n _ u
    · exact .refl u
  have h3 : ∀ (p : Prop) (_ : Decidable p) (u : State), Calm u (if p then offer n (.pin false) u else u) := fun p _ u => by
    split
    · exact .offer_of_ne n _ u
    · exact .refl u
  exact (h1.trans (h2 _ _ _)).trans (h3 _ _ _)

theorem releaseStow_calm (s : State) : Calm s (releaseStow s) :=
  ((Calm.foldl releaseOffers_calm stationIds s).trans (mapStations_release_calm _)).trans (withRefresh_calm _ _)

theorem offerHeatMarkers_calm (s0 s : State) : Calm s (offerHeatMarkers s0 s) := by
  refine Calm.foldl (fun s n => ?_) stationIds s
  split
  · exact .refl s
  · exact .offer_of_ne n _ s

/-- Departures held back to the end of an event: meanwhile the transmitter counts as sending, whatever the link (R99). -/
theorem withheld_calm (n : StationId) (f : State → State) (hf : ∀ u, Calm u (f u)) (s : State) :
    Calm s (withheld n f s) := by
  unfold withheld
  split
  · exact hf s
  · simp only
    have hbusy : CalmQueues s (s.updStation n fun st => { st with tx := some (.horn false) }) := by
      refine .of_records (fun m => ?_) rfl (fun _ => .inl) id
      rw [State.updStation_station]
      split
      · next e => subst e; exact .of_same rfl rfl
      · exact .of_same rfl rfl
    have hend := fun u => (clearTx_calm n u).trans (depart_calm n _)
    refine ⟨(hbusy.trans (hf _).toCalmQueues).trans (hend _).toCalmQueues, fun m hm => (depart_calm n _).idle m ?_⟩
    rw [State.updStation_station]
    split
    · exact fun _ => rfl
    · next e => exact (hf _).idle m (by rw [State.updStation_station, if_neg e]; exact hm)

theorem endClearing_calm (n : StationId) (s : State) : Calm s (endClearing n s) :=
  withheld_calm n _ (fun u =>
    (((Calm.updBody u n _).trans (.offer_of_ne n _ _)).trans (raise_calm _ _)).trans (settleStation_calm n s none _)) s

end Sys2Proof.Machine
end

section
/-! SUPPORT. What the step of any command is made of: the event's own change (`Happens`) and the end of the event (`Ends`), so
that each law is proved over a dozen changes and not over 57 commands. -/

namespace Sys2Proof.Machine

/-! ### New active entries (R73, R74) -/

theorem Setpoint.within_still {sp : Setpoint} (e : Envelope) (h : sp.moving = false) : (sp.within e).moving = false := by
  simp only [Setpoint.moving, Bool.or_eq_false_iff, bne_eq_false_iff_eq] at h ⊢
  simp [Setpoint.within, h]

theorem StationEntry.within_kind (e : Envelope) (x : StationEntry) : (x.within e).kind = x.kind := by
  cases x <;> rfl

theorem mem_queuedSetpoints_within {e : Envelope} {sp : Setpoint} {q : List StationEntry}
    (h : sp ∈ queuedSetpoints (q.map (·.within e))) : ∃ x ∈ queuedSetpoints q, sp = x.within e := by
  rw [mem_queuedSetpoints, List.mem_map] at h
  obtain ⟨x, hx, hsp⟩ := h
  cases x with
  | setpoint y => exact ⟨y, mem_queuedSetpoints.mpr hx, (StationEntry.setpoint.inj hsp).symm⟩
  | heat | horn _ | pin _ | linkUp | lockReply _ | cabinetData _ => exact absurd hsp (by simp [StationEntry.within])

/-- The state with one active entry replaced and its station's record brought within it (R73, R74). -/
def State.putActive (s : State) (n : StationId) (e : Envelope) : State :=
  { s with settings := { s.settings with active := s.settings.active.set n e } }.updStation n fun st => st.underEnvelope e

theorem State.putActive_station (s : State) (n m : StationId) (e : Envelope) :
    (s.putActive n e).station m = if m = n then (s.station n).underEnvelope e else s.station m :=
  State.updStation_station _ n m _

theorem State.putActive_envelope (s : State) (n m : StationId) (e : Envelope) :
    (s.putActive n e).envelope m = if m = n then e else s.envelope m := by
  simp [State.putActive, State.envelope]

theorem writeActive_eq (n : StationId) (e : Envelope) (s : State) :
    writeActive n e s = settleStation n s none (settleInstalled n (s.station n).installed (s.putActive n e)) := rfl

theorem putActive_calm (s : State) (n : StationId) {e : Envelope} (he : e.ordered) : Calm s (s.putActive n e) where
  quiet m hq := by
    rw [State.putActive_station]
    split
    · next h =>
      subst h
      intro sp hsp
      obtain ⟨x, hx, rfl⟩ := mem_queuedSetpoints_within hsp
      exact Setpoint.within_still e (hq x hx)
    · exact hq
  law m hq := by
    rw [State.putActive_station]
    split
    · next h => subst h; exact hq.map _ (StationEntry.within_kind e)
    · exact hq
  away m := by
    rw [State.putActive_station]
    split
    · next h => subst h; intro ha hd; simp [Station.underEnvelope, ha hd]
    · exact id
  limits := by
    rintro ⟨hord, hcopy, hq⟩
    refine ⟨fun m => ?_, hcopy, fun m => ?_⟩
    · change ((s.settings.active.set n e).get m).ordered
      rw [Tab.get_set]
      split
      · exact he
      · exact hord m
    · rw [State.putActive_station, State.putActive_envelope]
      split
      · intro sp hsp
        obtain ⟨x, -, rfl⟩ := mem_queuedSetpoints_within hsp
        exact withinSoft_clampInt he _ _
      · exact hq m
  upstream := id
  idle m := by
    rw [State.putActive_station]
    split
    · next h => subst h; exact id
    · exact id

theorem uninstallStow_calm (n : StationId) (s : State) : Calm s (uninstallStow n s) := by
  unfold uninstallStow
  simp only
  split
  · exact (Calm.updBody s n _).trans (.offer_of_ne n _ _)
  · exact .updBody s n _

theorem settleInstalled_calm (n : StationId) (was : Bool) (s : State) : Calm s (settleInstalled n was s) := by
  unfold settleInstalled
  split
  · exact uninstallStow_calm n s
  · split
    · exact .updStation s n _ (.replace rfl rfl rfl rfl fun ho => withinSoft_clampInt ho _ _)
    · exact .refl s

theorem all_of_firstFailing {l : List Bool} (h : firstFailing l = none) : ∀ b ∈ l, b = true := by
  unfold firstFailing at h
  split at h
  · next hall => simpa using hall
  · exact absurd h (by simp)

/-- An entry that passes its checks has its limits in order (R69, checks 4 and 6). -/
theorem ordered_of_envelopeFailing {e : Envelope} (h : envelopeFailing e = none) : e.ordered := by
  have hall := all_of_firstFailing h
  exact ⟨of_decide_eq_true (hall (decide (e.azMin < e.azMax)) (by simp)),
    of_decide_eq_true (hall (decide (e.elMin < e.elMax)) (by simp))⟩

theorem defaultEnvelope_ordered : defaultEnvelope.ordered := ⟨by decide, by decide⟩

theorem State.applyOutcome_eq_applied {s : State} {n : StationId} (h : s.applyOutcome n = .applied) :
    envelopeFailing (s.shadow.get n) = none := by
  unfold State.applyOutcome at h
  simp only at h
  repeat' split at h
  all_goals first | assumption | exact absurd h (by simp)

/-! ### Resets (R193, R194) -/

theorem resetBlocks_station (installed : StationId → Bool) (s : State) (n : StationId) :
    (resetBlocks installed s).station n =
      resetStation (installed n) (Tab.ofFn fun z => resetZone (isYes (s.zoneRecord n z).enabled)) :=
  Tab.get_ofFn _ n

/-- After the values of either reset every queue is empty, and the limits of the tables are as before. -/
theorem resetBlocks_calm (installed : StationId → Bool) {s t : State}
    (hact : allOrdered s.settings.active → (∀ c, s.store.copy = some c → allOrdered c.active) → allOrdered t.settings.active)
    (hcopy : t.store.copy = s.store.copy) : Calm s (resetBlocks installed t) where
  quiet n _ := by rw [resetBlocks_station]; exact quietQueue_nil
  law n _ := by rw [resetBlocks_station]; exact queueLaw.nil
  away n _ _ := by rw [resetBlocks_station]; rfl
  limits := by
    rintro ⟨hord, hstored, -⟩
    refine ⟨hact hord hstored, fun c hc => hstored c (hcopy ▸ hc), fun n => ?_⟩
    rw [resetBlocks_station]
    exact queueWithin_nil _
  upstream _ := ⟨by simp [resetBlocks], by simp [resetBlocks], by simp [resetBlocks], fun _ => by simp [resetBlocks]⟩
  idle n _ _ := by rw [resetBlocks_station]; rfl

theorem sampleStorm_calm (storm : Bool) (s : State) : Calm s (sampleStorm storm s) := by
  have h : Calm s (stormLevel storm s) := .of_upstream rfl rfl (fun _ => .inl) id
  unfold sampleStorm
  split
  · exact h.trans (activate_calm _)
  · exact h

theorem finishReset_calm (storm : Bool) (s : State) : Calm s (finishReset storm s) :=
  ((sampleStorm_calm storm s).trans (autostart_reach _).calm).trans (examine_calm _)

theorem allOrdered_default : allOrdered defaultSettings.active := fun n => by
  change ((Tab.fill 8 defaultEnvelope).get n).ordered
  rw [Tab.get_fill]
  exact defaultEnvelope_ordered

theorem loads_eq_some {st : Store} {fails : Bool} {c : Settings} (h : st.loads fails = some c) : st.copy = some c := by
  unfold Store.loads at h
  split at h
  · exact h
  · exact absurd h (by simp)

theorem powerOn_calm (strap : Byte) (storm fails : Bool) (s : State) : Calm s (powerOn strap storm fails s) := by
  unfold powerOn
  simp only
  refine Calm.trans ?_ (finishReset_calm storm _)
  have hreport : ∀ u : State, Calm u (reportStore u) := fun u => by
    unfold reportStore
    split
    · exact recordFault_calm _ _ _ u
    · exact .refl u
  refine Calm.trans ?_ (hreport _)
  refine resetBlocks_calm _ (fun _ hstored => ?_) rfl
  change allOrdered ((s.store.loads fails).getD defaultSettings).active
  cases hl : s.store.loads fails with
  | none => exact allOrdered_default
  | some c => exact hstored c (loads_eq_some hl)

theorem warm_calm (strap : Byte) (s : State) : Calm s (warm strap s) := by
  unfold warm
  simp only
  refine Calm.trans ?_ (finishReset_calm _ _)
  refine resetBlocks_calm _ (fun hord _ => hord) ?_
  change s.store.warm.copy = s.store.copy
  unfold Store.warm
  split <;> rfl

/-! ### The gate of a record: what its motion authority and its stow rest on -/

/-- None of entries 1 to 5 of R18 holds. -/
def Station.free (st : Station) : Bool :=
  st.installed && st.link.isUp && st.lockReportSeen && driveCount st == 0 && st.clearing.isNone && st.faultLatch == .none

/-- Whether a stow progress leaves a station permitting. -/
def StowProgress.begun : StowProgress → Bool
  | .none | .pending => false
  | .warning | .moving | .stowed => true

/-- A station is blocked where one of entries 1 to 5 of R18 holds, and only there. -/
theorem authorityOf_blocked (stow : Bool) (st : Station) : (authorityOf stow st).blocked = !st.free := by
  unfold authorityOf Station.free
  cases st.installed <;> cases st.link.isUp <;> cases st.lockReportSeen <;> try rfl
  cases hd : driveCount st == 0 <;> simp only [bne, hd] <;> try rfl
  cases st.clearing <;> try rfl
  cases st.faultLatch <;> try rfl
  cases stow <;> cases st.progress <;> simp [Authority.blocked] <;> split_ifs <;> rfl

/-- A station is permitting where nothing blocks it and, under active stow, its stow has begun (R19). -/
theorem authorityOf_permitting (stow : Bool) (st : Station) :
    (authorityOf stow st).permitting = (st.free && (!stow || st.progress.begun)) := by
  unfold authorityOf Station.free
  cases st.installed <;> cases st.link.isUp <;> cases st.lockReportSeen <;> try rfl
  cases hd : driveCount st == 0 <;> simp only [bne, hd] <;> try rfl
  cases st.clearing <;> try rfl
  cases st.faultLatch <;> try rfl
  cases stow <;> cases st.progress <;> simp [Authority.permitting, StowProgress.begun] <;> split_ifs <;> rfl

end Sys2Proof.Machine
end

section
/-! SUPPORT. What an event's own change keeps (`Kept`), what a whole event keeps (`Laws`), and how the end of an event leads
from the one to the other: the stow decision, the HEAT markers, the response and the examination (R135, R168, R179). -/

namespace Sys2Proof.Machine

/-! ### Motion and stow of one record -/

/-- Whether a station may move, given whether the stow of the cluster is active (R19). -/
def Station.mayMove (stow : Bool) (st : Station) : Bool := st.free && (!stow || st.progress.begun)

/-- The stow law of one record, given whether the stow of the cluster is active (R11, R138). -/
def Station.stowLaw (stow : Bool) (st : Station) : Prop :=
  (st.progress = .none ↔ (stow = false ∨ st.installed = false)) ∧ (st.warnTimer.isSome = true → st.progress = .warning)

theorem State.authority_permitting (s : State) (n : StationId) :
    (s.authority n).permitting = (s.station n).mayMove s.stowActive := authorityOf_permitting _ _

theorem State.authority_blocked (s : State) (n : StationId) : (s.authority n).blocked = !(s.station n).free :=
  authorityOf_blocked _ _

/-- Nothing moves in the queue of a station, or it may move. -/
def Station.motionLaw (stow : Bool) (st : Station) : Prop := quietQueue st.queue ∨ st.mayMove stow = true

theorem State.motionSafe_iff {s : State} : s.motionSafe ↔ ∀ n, (s.station n).motionLaw s.stowActive := by
  refine forall_congr' fun n => ?_
  rw [s.authority_permitting, Station.motionLaw, or_comm, ← Bool.not_eq_false, imp_iff_not_or]
  rfl

theorem State.stowLaw_iff {s : State} :
    s.stowLaw ↔ s.wind.refresh.isSome = s.stowActive ∧ ∀ n, (s.station n).stowLaw s.stowActive := Iff.rfl

/-- Two records between which neither the gate nor the stow fields have changed. -/
structure SameGate (a b : Station) : Prop where
  free : b.free = a.free
  installed : b.installed = a.installed
  progress : b.progress = a.progress
  warnTimer : b.warnTimer = a.warnTimer

theorem SameGate.mayMove {a b : Station} (h : SameGate a b) (stow : Bool) : b.mayMove stow = a.mayMove stow := by
  rw [Station.mayMove, Station.mayMove, h.free, h.progress]

theorem SameGate.stowLaw {a b : Station} (h : SameGate a b) (stow : Bool) (hl : a.stowLaw stow) : b.stowLaw stow := by
  unfold Station.stowLaw
  rw [h.progress, h.installed, h.warnTimer]
  exact hl

theorem SameGate.trans {a b c : Station} (h : SameGate a b) (k : SameGate b c) : SameGate a c :=
  ⟨k.free.trans h.free, k.installed.trans h.installed, k.progress.trans h.progress, k.warnTimer.trans h.warnTimer⟩

theorem SameBody.sameGate {a b : Station} (h : SameBody a b) : SameGate a b where
  free := by
    simp [Station.free, h.installed, h.link, h.lockReportSeen, h.driveCount, h.clearing, h.faultLatch]
  installed := h.installed
  progress := h.progress
  warnTimer := h.warnTimer

/-- An update of a record that leaves its gate alone leaves every gate alone. -/
theorem SameGate.updStation {s : State} {n : StationId} {f : Station → Station}
    (hf : SameGate (s.station n) (f (s.station n))) (m : StationId) :
    SameGate (s.station m) ((s.updStation n f).station m) := by
  rw [State.updStation_station]
  split
  · next h => subst h; exact hf
  · exact ⟨rfl, rfl, rfl, rfl⟩

/-! ### What a change keeps -/

/-- A change within one event that keeps every law, told for the stow as it stood when the event began. -/
structure Kept (s x : State) : Prop where
  motion : ∀ n, (s.station n).motionLaw s.stowActive → (x.station n).motionLaw s.stowActive
  stow : ∀ n, (s.station n).stowLaw s.stowActive → (x.station n).stowLaw s.stowActive
  refresh : x.wind.refresh.isSome = s.wind.refresh.isSome
  causes : s.causeLaw → x.causeLaw
  queues : s.queuesLaw → x.queuesLaw
  limits : s.limitSafe → x.limitSafe
  upstream : s.upstreamLaw → x.upstreamLaw

theorem Kept.refl (s : State) : Kept s s := ⟨fun _ => id, fun _ => id, rfl, id, id, id, id⟩

theorem Kept.trans {s x y : State} (h : Kept s x) (k : Kept x y) (hs : x.stowActive = s.stowActive) : Kept s y where
  motion n := (hs ▸ k.motion n) ∘ h.motion n
  stow n := (hs ▸ k.stow n) ∘ h.stow n
  refresh := k.refresh.trans h.refresh
  causes := k.causes ∘ h.causes
  queues := k.queues ∘ h.queues
  limits := k.limits ∘ h.limits
  upstream := k.upstream ∘ h.upstream

/-- A calm change after which each station that could move still may, and the stow of each record still agrees. -/
theorem Kept.of_calm {s x : State} (hcalm : Calm s x)
    (hmove : ∀ n, (s.station n).mayMove s.stowActive = true → (x.station n).mayMove s.stowActive = true)
    (hstow : ∀ n, (s.station n).stowLaw s.stowActive → (x.station n).stowLaw s.stowActive)
    (hwind : x.wind = s.wind) (hstorm : x.stormInput = s.stormInput) : Kept s x where
  motion n h := h.imp (hcalm.quiet n) (hmove n)
  stow := hstow
  refresh := by rw [hwind]
  causes h := by unfold State.causeLaw at *; rw [hwind, hstorm]; exact h
  queues := hcalm.queues
  limits := hcalm.limits
  upstream := hcalm.upstream

/-- A calm change that leaves every gate alone. -/
theorem Kept.of_gate {s x : State} (hcalm : Calm s x) (hgate : ∀ n, SameGate (s.station n) (x.station n))
    (hwind : x.wind = s.wind) (hstorm : x.stormInput = s.stormInput) : Kept s x :=
  .of_calm hcalm (fun n h => by rw [(hgate n).mayMove]; exact h) (fun n => (hgate n).stowLaw _) hwind hstorm

theorem OnlyPorts.kept {s x : State} (h : OnlyPorts s x) (hcalm : Calm s x) : Kept s x :=
  .of_gate hcalm (fun n => (h.same n).sameGate) h.only.wind h.only.stormInput

theorem SensorReach.sameGate {s x : State} (h : SensorReach s x) (n : StationId) : SameGate (s.station n) (x.station n) := by
  rw [h.record n]
  exact ⟨rfl, rfl, rfl, rfl⟩

theorem SensorReach.kept {s x : State} (h : SensorReach s x) : Kept s x where
  motion n hm := hm.imp (h.calm.quiet n) fun hm => by rw [(h.sameGate n).mayMove]; exact hm
  stow n := (h.sameGate n).stowLaw _
  refresh := by rw [h.refresh]
  causes := h.causes
  queues := h.calm.queues
  limits := h.calm.limits
  upstream := h.upstream

/-! ### What a whole event keeps -/

/-- Each law that holds before holds after. -/
structure Laws (s t : State) : Prop where
  motion : s.motionSafe → t.motionSafe
  limits : s.limitSafe → t.limitSafe
  queues : s.queuesLaw → t.queuesLaw
  upstream : s.upstreamLaw → t.upstreamLaw
  causes : s.causeLaw → t.causeLaw
  stow : s.stowLaw → t.stowLaw

theorem Laws.trans {s t u : State} (h : Laws s t) (k : Laws t u) : Laws s u :=
  ⟨k.motion ∘ h.motion, k.limits ∘ h.limits, k.queues ∘ h.queues, k.upstream ∘ h.upstream, k.causes ∘ h.causes,
    k.stow ∘ h.stow⟩

/-- A change that leaves the stow of the cluster as it was. -/
theorem Kept.laws {s x : State} (h : Kept s x) (hs : x.stowActive = s.stowActive) : Laws s x where
  motion hm := by
    rw [State.motionSafe_iff] at hm ⊢
    intro n
    rw [hs]
    exact h.motion n (hm n)
  limits := h.limits
  queues := h.queues
  upstream := h.upstream
  causes := h.causes
  stow hm := by
    rw [State.stowLaw_iff] at hm ⊢
    rw [h.refresh, hs]
    exact ⟨hm.1, fun n => h.stow n (hm.2 n)⟩

theorem OnlyPorts.laws {s t : State} (h : OnlyPorts s t) (hcalm : Calm s t) : Laws s t :=
  (h.kept hcalm).laws h.only.stowActive

theorem stowActive_of_wind {s t : State} (h : t.wind = s.wind) : t.stowActive = s.stowActive := by
  rw [State.stowActive, h, State.stowActive]

/-- A change of what none of the laws speaks of. -/
theorem Laws.of_same {s t : State} (hst : t.stations = s.stations) (hact : t.settings.active = s.settings.active)
    (hcopy : t.store.copy = s.store.copy) (hstorm : t.stormInput = s.stormInput) (hwind : t.wind = s.wind)
    (hup : s.upstreamLaw → t.upstreamLaw) : Laws s t :=
  (SensorReach.of_same hst hact hcopy hstorm hwind hup).kept.laws (stowActive_of_wind hwind)

theorem examine_laws (s : State) : Laws s (examine s) := by
  refine .of_same ?_ ?_ ?_ ?_ ?_ examine_upstream <;> rw [examine_eq]

theorem offerUp_laws (e : UpEntry) (s : State) : Laws s (offerUp e s) := by
  refine .of_same ?_ ?_ ?_ ?_ ?_ fun h => offerUp_upstream h e <;> rw [offerUp_eq]

theorem offerHeatMarkers_laws (s0 s : State) : Laws s (offerHeatMarkers s0 s) :=
  (offerHeatMarkers_ports s0 s).laws (offerHeatMarkers_calm s0 s)

/-! ### Activation (R138) and release (R148) -/

theorem enterMoving_station (n m : StationId) (s : State) :
    (enterMoving n s).station m = if m = n then { s.station n with
      progress := .moving, warnTimer := none, stowStart := some s.now
      stowTimeout := some (s.timer s.settings.timing.stowTimeout) } else s.station m :=
  State.updStation_station s n m _

/-- Entry to WARNING, or at once to MOVING, leaves the other stations and takes a begun progress. -/
theorem enterWarning_gate (n : StationId) (s : State) :
    (∀ m, m ≠ n → (enterWarning n s).station m = s.station m)
      ∧ ((enterWarning n s).station n).free = (s.station n).free
      ∧ ((enterWarning n s).station n).installed = (s.station n).installed
      ∧ (((enterWarning n s).station n).progress = .warning
        ∨ ((enterWarning n s).station n).progress = .moving ∧ ((enterWarning n s).station n).warnTimer = none) := by
  have hstop := offerStop_ports n (s.updStation n fun st => { st with progress := .warning })
  have hstop_n := (hstop.same n)
  have hstop_gate := hstop_n.sameGate
  have hother : ∀ m, m ≠ n → (offerStop n (s.updStation n fun st => { st with progress := .warning })).station m
      = s.station m := fun m hm => by
    rw [offerStop, offer_station_ne n m _ _ hm, State.updStation_station, if_neg hm]
  rw [State.updStation_station, if_pos rfl] at hstop_gate
  unfold enterWarning
  simp only
  split
  · refine ⟨fun m hm => ?_, ?_, ?_, .inr ?_⟩
    · rw [enterMoving_station, if_neg hm, hother m hm]
    all_goals rw [enterMoving_station, if_pos rfl]
    · exact hstop_gate.free
    · exact hstop_gate.installed
    · exact ⟨rfl, rfl⟩
  · have hhorn := (offer_ports n (.horn true) (offerStop n (s.updStation n fun st => { st with progress := .warning }))).same n
    have hgate := hstop_gate.trans hhorn.sameGate
    refine ⟨fun m hm => ?_, ?_, ?_, .inl ?_⟩
    · rw [State.updStation_station, if_neg hm, offer_station_ne n m _ _ hm, hother m hm]
    all_goals rw [State.updStation_station, if_pos rfl]
    · exact hgate.free
    · exact hgate.installed
    · exact hgate.progress

/-- A station that is not NONE under active stow keeps the stow law when it enters WARNING. -/
theorem enterWarning_stowLaw (n m : StationId) (s : State) (hp : (s.station n).progress ≠ .none)
    (h : (s.station m).stowLaw true) : ((enterWarning n s).station m).stowLaw true := by
  obtain ⟨hother, -, hinst, hprog⟩ := enterWarning_gate n s
  by_cases hm : m = n
  · subst hm
    have hi : (s.station m).installed = true := by
      rw [← Bool.not_eq_false]
      exact fun hf => hp (h.1.mpr (.inr hf))
    unfold Station.stowLaw
    rw [hinst, hi]
    rcases hprog with hp | ⟨hp, hw⟩
    · simp [hp]
    · simp [hp, hw]
  · rw [hother m hm]
    exact h

theorem startWarning_stowLaw (s : State) (n m : StationId) (h : (s.station m).stowLaw true) :
    ((startWarning s n).station m).stowLaw true := by
  unfold startWarning
  split
  · next hp => exact enterWarning_stowLaw n m s (by rw [hp.1]; simp) h
  · exact h

theorem foldl_startWarning_stowLaw (l : List StationId) (s : State) (m : StationId) (h : (s.station m).stowLaw true) :
    ((l.foldl startWarning s).station m).stowLaw true := by
  induction l generalizing s with
  | nil => exact h
  | cons n l ih => exact ih _ (startWarning_stowLaw s n m h)

theorem withRefresh_station (t : Option Timer) (s : State) (n : StationId) :
    (raise .stowChange { s with wind := { s.wind with refresh := t } }).station n = s.station n := rfl

/-- The wind state after an activation: the refresh timer alone differs. -/
theorem activate_wind (s : State) : (activate s).wind = { s.wind with refresh := (activate s).wind.refresh }
    ∧ (activate s).wind.refresh.isSome = true := by
  have h := (s.mapStations_only fun n st => activateStation (s.stopSetpoint n) st).trans
    (OnlyStations.foldl startWarning_only stationIds _)
  unfold activate raise
  simp only [h.wind, Option.isSome_some, and_true]

/-- After an activation nothing that waits moves (R138 step 1). -/
theorem activate_quiet (s : State) (n : StationId) : quietQueue ((activate s).station n).queue := by
  unfold activate
  rw [withRefresh_station]
  refine (Calm.foldl startWarning_calm stationIds _).quiet n ?_
  rw [State.mapStations_station]
  exact quietQueue_replace_all _ rfl

theorem activate_stowLaw (s : State) (n : StationId) (h : (s.station n).stowLaw false) :
    ((activate s).station n).stowLaw true := by
  unfold activate
  rw [withRefresh_station]
  refine foldl_startWarning_stowLaw stationIds _ n ?_
  rw [State.mapStations_station]
  have hp : (s.station n).progress = .none := h.1.mpr (.inl rfl)
  have hw : (s.station n).warnTimer.isSome = false := by
    rw [← Bool.not_eq_true]
    exact fun hw => absurd (hp.symm.trans (h.2 hw)) (by simp)
  cases hi : (s.station n).installed <;> simp [Station.stowLaw, activateStation, clearDemand, hi, hw]

/-- The wind state after a release: the refresh timer is stopped. -/
theorem releaseStow_wind (s : State) : (releaseStow s).wind = { s.wind with refresh := none } := by
  have h := (OnlyPorts.foldl releaseOffers_ports stationIds s).only.trans
    (State.mapStations_only _ fun _ st => releaseStation st)
  unfold releaseStow raise
  simp only [h.wind]

/-- A release leaves every gate as it was but for the progress. -/
theorem releaseStow_station (s : State) (n : StationId) :
    ((releaseStow s).station n).free = (s.station n).free ∧ ((releaseStow s).station n).progress = .none
      ∧ ((releaseStow s).station n).warnTimer = none := by
  have h := ((OnlyPorts.foldl releaseOffers_ports stationIds s).same n).sameGate
  have hst : (releaseStow s).station n = releaseStation ((stationIds.foldl releaseOffers s).station n) := by
    unfold releaseStow
    rw [withRefresh_station, State.mapStations_station]
  rw [hst]
  generalize (stationIds.foldl releaseOffers s).station n = st at h
  exact ⟨h.free, rfl, rfl⟩

/-! ### The end of an event -/

/-- The stow decision after a change within the laws. -/
theorem Kept.settleStow {s x : State} (h : Kept s x) : Laws s (settleStow s x) := by
  cases hs : s.stowActive <;> cases hx : x.stowActive
  case false.false => rw [settleStow_same s x (hx.trans hs.symm)]; exact h.laws (hx.trans hs.symm)
  case true.true => rw [settleStow_same s x (hx.trans hs.symm)]; exact h.laws (hx.trans hs.symm)
  case false.true =>
    have he : Machine.settleStow s x = activate x := by simp [Machine.settleStow, hs, hx]
    have hcalm := activate_calm x
    obtain ⟨hwind, hrefresh⟩ := activate_wind x
    have hact : (activate x).stowActive = true := by rw [State.stowActive, hwind]; exact hx
    rw [he]
    refine ⟨fun _ => State.motionSafe_iff.mpr fun n => .inl (activate_quiet x n), hcalm.limits ∘ h.limits,
      hcalm.queues ∘ h.queues, hcalm.upstream ∘ h.upstream, fun hc => ?_, fun hl => ?_⟩
    · have := h.causes hc
      unfold State.causeLaw at *
      rw [hwind, (activate_only x).stormInput]
      exact this
    · rw [State.stowLaw_iff, hact]
      refine ⟨hrefresh, fun n => activate_stowLaw x n ?_⟩
      have := h.stow n (hl.2 n)
      rwa [hs] at this
  case true.false =>
    have he : Machine.settleStow s x = releaseStow x := by simp [Machine.settleStow, hs, hx]
    have hcalm := releaseStow_calm x
    have hwind := releaseStow_wind x
    have hact : (releaseStow x).stowActive = false := by rw [State.stowActive, hwind]; exact hx
    rw [he]
    refine ⟨fun hm => ?_, hcalm.limits ∘ h.limits, hcalm.queues ∘ h.queues, hcalm.upstream ∘ h.upstream,
      fun hc => ?_, fun _ => ?_⟩
    · rw [State.motionSafe_iff] at hm ⊢
      intro n
      refine (h.motion n (hm n)).imp (hcalm.quiet n) fun hmove => ?_
      rw [Station.mayMove, Bool.and_eq_true] at hmove
      rw [Station.mayMove, (releaseStow_station x n).1, hmove.1, hact]
      rfl
    · have := h.causes hc
      unfold State.causeLaw at *
      rw [hwind, (releaseStow_only x).stormInput]
      exact this
    · rw [State.stowLaw_iff, hact, hwind]
      refine ⟨rfl, fun n => ?_⟩
      obtain ⟨-, hp, hw⟩ := releaseStow_station x n
      simp [Station.stowLaw, hp, hw]

theorem Kept.closeEvent {s x : State} (h : Kept s x) : Laws s (closeEvent s x) :=
  (h.settleStow.trans (offerHeatMarkers_laws s _)).trans (examine_laws _)

theorem Kept.respond {s : State} {a : Answer} (h : Kept s a.state) (tag code : Byte) : Laws s (respond tag code s a) := by
  unfold Machine.respond
  refine Laws.trans ?_ (examine_laws _)
  refine Laws.trans ?_ (offerUp_laws _ _)
  refine (h.settleStow.trans (offerHeatMarkers_laws s _)).trans ?_
  exact .of_same rfl rfl rfl rfl rfl id

/-- A request whose execution is within the laws. -/
theorem manage_laws (tag code : Byte) {run : State → Answer} (hrun : ∀ u, Kept u (run u).state) (s : State) :
    Laws s (manage tag code run s) := by
  unfold manage
  split
  · exact (((recordFault_ports _ _ _ s).laws (recordFault_calm _ _ _ s))).trans (examine_laws _)
  · refine Kept.respond ?_ tag code
    have h0 : SensorReach s { s with responder := some (tag, code) } := .of_same rfl rfl rfl rfl rfl id
    exact h0.kept.trans (hrun _) rfl

end Sys2Proof.Machine
end

section
/-! SUPPORT. Every operation on one station keeps the laws: what a change of a station's record brings about, and the frames,
timers and requests that bring it. -/

namespace Sys2Proof.Machine

/-! ### Other stations -/

theorem revokeMotion_station_ne (n m : StationId) (s : State) (h : m ≠ n) : (revokeMotion n s).station m = s.station m := by
  rw [revokeMotion, State.updStation_station, if_neg h]

theorem answerLock_station_ne (n m : StationId) (reply : Option LockReply) (s : State) (h : m ≠ n) :
    (answerLock n reply s).station m = s.station m := by
  cases reply with
  | none => rfl
  | some r => exact offer_station_ne n m _ s h

theorem suspendWarning_station_ne (n m : StationId) (s : State) (h : m ≠ n) :
    (suspendWarning n s).station m = s.station m := by
  unfold suspendWarning
  split
  · rw [offer_station_ne n m _ _ h, State.updStation_station, if_neg h]
  · rfl

theorem settleMotion_station_ne (n m : StationId) (turned : Bool) (reply : Option LockReply) (s : State) (h : m ≠ n) :
    (settleMotion n turned reply s).station m = s.station m := by
  unfold settleMotion
  split
  · rw [suspendWarning_station_ne n m _ h, answerLock_station_ne n m _ _ h, revokeMotion_station_ne n m _ h]
  · rw [answerLock_station_ne n m _ _ h]

theorem cancelClearing_station_ne (n m : StationId) (s : State) (h : m ≠ n) :
    (cancelClearing n s).station m = s.station m := by
  unfold cancelClearing
  split
  · rw [raise_station, offer_station_ne n m _ _ h, State.updStation_station, if_neg h]
  · rfl

theorem startClearing_station_ne (n m : StationId) (able : Bool) (s : State) (h : m ≠ n) :
    (startClearing n able s).station m = s.station m := by
  unfold startClearing
  split
  · rw [raise_station, offer_station_ne n m _ _ h, State.updStation_station, if_neg h]
  · rfl

theorem enterWarning_station_ne (n m : StationId) (s : State) (h : m ≠ n) : (enterWarning n s).station m = s.station m :=
  (enterWarning_gate n s).1 m h

theorem resumeStow_station_ne (n m : StationId) (blocked : Bool) (s : State) (h : m ≠ n) :
    (resumeStow n blocked s).station m = s.station m := by
  unfold resumeStow
  split
  · exact enterWarning_station_ne n m s h
  · rfl

theorem evalWants_station_ne (n m : StationId) (zs : List ZoneNum) (s : State) (h : m ≠ n) :
    (evalWants (zs.map fun z => (n, z)) s).station m = s.station m := by
  induction zs generalizing s with
  | nil => rfl
  | cons z zs ih =>
    exact (ih _).trans ((State.updZone_station s n m z _).trans (if_neg h))

theorem settleHeatBlock_station_ne (n m : StationId) (before : Bool) (s : State) (h : m ≠ n) :
    (settleHeatBlock n before s).station m = s.station m := by
  unfold settleHeatBlock beginHeatBlock endHeatBlock
  split
  · rw [State.updStation_station, if_neg h]
  · split
    · rw [evalWants_station_ne n m _ _ h, State.updStation_station, if_neg h]
    · rfl

theorem settleStation_station_ne (n m : StationId) (s0 : State) (reply : Option LockReply) (s : State) (h : m ≠ n) :
    (settleStation n s0 reply s).station m = s.station m := by
  rw [settleStation_eq, settleHeatBlock_station_ne n m _ _ h, resumeStow_station_ne n m _ _ h,
    startClearing_station_ne n m _ _ h, cancelClearing_station_ne n m _ h, settleMotion_station_ne n m _ _ _ h]

theorem goodFrame_station_ne (n m : StationId) (s : State) (h : m ≠ n) : (goodFrame n s).station m = s.station m := by
  unfold goodFrame
  simp only
  split
  · rw [State.updStation_station, if_neg h]
  · rw [offer_station_ne n m _ _ h, offer_station_ne n m _ _ h, State.updStation_station, if_neg h]

/-! ### The stow fields of the station itself -/

/-- Two records with the same stow fields that the stow law reads. -/
structure SameStow (a b : Station) : Prop where
  installed : b.installed = a.installed
  progress : b.progress = a.progress
  warnTimer : b.warnTimer = a.warnTimer

theorem SameStow.refl (a : Station) : SameStow a a := ⟨rfl, rfl, rfl⟩

theorem SameStow.trans {a b c : Station} (h : SameStow a b) (k : SameStow b c) : SameStow a c :=
  ⟨k.installed.trans h.installed, k.progress.trans h.progress, k.warnTimer.trans h.warnTimer⟩

theorem SameStow.stowLaw {a b : Station} (h : SameStow a b) {stow : Bool} (hl : a.stowLaw stow) : b.stowLaw stow := by
  unfold Station.stowLaw
  rw [h.progress, h.installed, h.warnTimer]
  exact hl

theorem SameGate.sameStow {a b : Station} (h : SameGate a b) : SameStow a b := ⟨h.installed, h.progress, h.warnTimer⟩

theorem SameBody.sameStow {a b : Station} (h : SameBody a b) : SameStow a b := h.sameGate.sameStow

theorem SameStow.updStation {s : State} {n : StationId} {f : Station → Station}
    (hf : SameStow (s.station n) (f (s.station n))) (m : StationId) :
    SameStow (s.station m) ((s.updStation n f).station m) := by
  rw [State.updStation_station]
  split
  · next h => subst h; exact hf
  · exact .refl _

theorem offer_sameStow (n m : StationId) (e : StationEntry) (s : State) :
    SameStow (s.station m) ((offer n e s).station m) := ((offer_ports n e s).same m).sameStow

theorem cancelClearing_sameStow (n m : StationId) (s : State) : SameStow (s.station m) ((cancelClearing n s).station m) := by
  unfold cancelClearing
  split
  · rw [raise_station]
    exact (SameStow.updStation (f := fun st => { st with clearing := none }) ⟨rfl, rfl, rfl⟩ m).trans (offer_sameStow n m _ _)
  · exact .refl _

theorem startClearing_sameStow (n m : StationId) (able : Bool) (s : State) :
    SameStow (s.station m) ((startClearing n able s).station m) := by
  unfold startClearing
  split
  · rw [raise_station]
    exact (SameStow.updStation (f := fun st => { st with clearing := some (s.timer s.settings.timing.clearDelay) })
      ⟨rfl, rfl, rfl⟩ m).trans (offer_sameStow n m _ _)
  · exact .refl _

theorem suspendWarning_stowLaw (n m : StationId) (s : State) {stow : Bool} (h : (s.station m).stowLaw stow) :
    ((suspendWarning n s).station m).stowLaw stow := by
  unfold suspendWarning
  split
  · refine (offer_sameStow n m _ _).stowLaw ?_
    rw [State.updStation_station]
    split
    · next hm => subst hm; exact ⟨h.1, fun hw => absurd hw (by simp)⟩
    · exact h
  · exact h

theorem settleMotion_stowLaw (n m : StationId) (turned : Bool) (reply : Option LockReply) (s : State) {stow : Bool}
    (h : (s.station m).stowLaw stow) : ((settleMotion n turned reply s).station m).stowLaw stow := by
  unfold settleMotion
  split
  · refine suspendWarning_stowLaw n m _ (((answerLock_ports n reply _).same m).sameStow.stowLaw ?_)
    exact (SameStow.updStation ⟨rfl, rfl, rfl⟩ m).stowLaw h
  · exact ((answerLock_ports n reply s).same m).sameStow.stowLaw h

theorem resumeStow_stowLaw (n m : StationId) (blocked : Bool) (s : State) (h : (s.station m).stowLaw s.stowActive) :
    ((resumeStow n blocked s).station m).stowLaw s.stowActive := by
  unfold resumeStow
  split
  · next hc =>
    simp only [Bool.and_eq_true, Bool.or_eq_true, beq_iff_eq] at hc
    obtain ⟨⟨⟨-, hactive⟩, -⟩, hp⟩ := hc
    rw [hactive] at h ⊢
    exact enterWarning_stowLaw n m s (by rcases hp with hp | hp <;> rw [hp] <;> simp) h
  · exact h

theorem settleStation_stowLaw (n m : StationId) (s0 : State) (reply : Option LockReply) (s : State)
    (h : (s.station m).stowLaw s.stowActive) : ((settleStation n s0 reply s).station m).stowLaw s.stowActive := by
  have hmotion : OnlyStations s (settleMotion n (s0.turnedAt s n) reply s) := by
    unfold settleMotion
    split
    · exact ((revokeMotion_only n s).trans (answerLock_ports n reply _).only).trans (suspendWarning_only n _)
    · exact (answerLock_ports n reply s).only
  have hactive := ((hmotion.trans (cancelClearing_only n _)).trans (startClearing_only n (eligible (s0.station n)) _)).stowActive
  have hl := settleMotion_stowLaw n m (s0.turnedAt s n) reply s h
  rw [settleStation_eq]
  refine ((settleHeatBlock_reach n _ _).sameGate m).sameStow.stowLaw ?_
  rw [← hactive] at hl ⊢
  refine resumeStow_stowLaw n m _ _ ?_
  exact (startClearing_sameStow n m _ _).stowLaw ((cancelClearing_sameStow n m _).stowLaw hl)

/-! ### The settling of a station -/

/-- An event's own change of one station's record, before what follows from it. -/
structure Edit (n : StationId) (s y : State) : Prop where
  calm : Calm s y
  others : ∀ m, m ≠ n → y.station m = s.station m
  wind : y.wind = s.wind
  storm : y.stormInput = s.stormInput
  stow : (s.station n).stowLaw s.stowActive → (y.station n).stowLaw s.stowActive

/-- A station that may move is free of all that blocks it. -/
theorem Station.free_of_mayMove {stow : Bool} {st : Station} (h : st.mayMove stow = true) : st.free = true := by
  rw [Station.mayMove, Bool.and_eq_true] at h
  exact h.1

theorem Station.eligible_of_free {st : Station} (h : st.free = true) : eligible st = true := by
  simp only [Station.free, Bool.and_eq_true] at h
  simp [eligible, h]

theorem Station.clearing_of_free {st : Station} (h : st.free = true) : st.clearing = none := by
  simp only [Station.free, Bool.and_eq_true, Option.isNone_iff_eq_none] at h
  exact h.1.2

theorem cancelClearing_of_none {n : StationId} {s : State} (h : (s.station n).clearing = none) : cancelClearing n s = s := by
  simp [cancelClearing, h]

theorem startClearing_of_able (n : StationId) (s : State) : startClearing n true s = s := by
  simp [startClearing]

theorem resumeStow_of_free (n : StationId) (s : State) : resumeStow n false s = s := by
  simp [resumeStow]

/-- A station that was and is permitting is left by the settling as the reply leaves it, but for its zones. -/
theorem settleStation_moving {n : StationId} {s0 s : State} (reply : Option LockReply)
    (h0 : (s0.authority n).permitting = true) (h : (s.authority n).permitting = true) :
    settleStation n s0 reply s = settleHeatBlock n (heatBlock (s0.station n)) (answerLock n reply s) := by
  have hfree0 : (s0.station n).free = true := Station.free_of_mayMove (s0.authority_permitting n ▸ h0)
  have hfree : (s.station n).free = true := Station.free_of_mayMove (s.authority_permitting n ▸ h)
  have hbody := (answerLock_ports n reply s).same n
  rw [settleStation_eq, State.turnedAt, h0, h, s0.authority_blocked, hfree0, Station.eligible_of_free hfree0]
  simp only [Bool.not_true, Bool.and_false, settleMotion, Bool.false_eq_true, if_false]
  rw [cancelClearing_of_none (by rw [hbody.clearing]; exact Station.clearing_of_free hfree), startClearing_of_able,
    resumeStow_of_free]

/-- After the settling of a station that turned non-permitting nothing that waits for it moves (R20). -/
theorem settleStation_turned {n : StationId} {s0 s : State} (reply : Option LockReply) (h : s0.turnedAt s n = true) :
    quietQueue ((settleStation n s0 reply s).station n).queue := by
  rw [settleStation_eq, h]
  refine (settleRest_calm n _ _ _ _).quiet n ?_
  refine ((answerLock_calm n reply _).trans (suspendWarning_calm n _)).quiet n ?_
  rw [revokeMotion, State.updStation_station, if_pos rfl]
  exact quietQueue_replace_moving _ rfl

theorem Edit.kept {n : StationId} {s y : State} (h : Edit n s y) (reply : Option LockReply) :
    Kept s (settleStation n s reply y) := by
  have hactive : y.stowActive = s.stowActive := stowActive_of_wind h.wind
  have honly := settleStation_only n s reply y
  have hcalm := h.calm.trans (settleStation_calm n s reply y)
  refine ⟨fun m hm => ?_, fun m hm => ?_, by rw [honly.wind, h.wind], fun hc => ?_, hcalm.queues, hcalm.limits,
    hcalm.upstream⟩
  · by_cases hmn : m = n
    · subst hmn
      rcases hm with hq | hmove
      · exact .inl (hcalm.quiet m hq)
      · have h0 : (s.authority m).permitting = true := (s.authority_permitting m).trans hmove
        cases hy : (y.authority m).permitting with
        | false => exact .inl (settleStation_turned reply (by simp [State.turnedAt, h0, hy]))
        | true =>
          right
          have hgate := ((answerLock_ports m reply y).same m).sameGate.trans
            ((settleHeatBlock_reach m (heatBlock (s.station m)) (answerLock m reply y)).sameGate m)
          rw [settleStation_moving reply h0 hy, hgate.mayMove, ← hactive, ← y.authority_permitting]
          exact hy
    · rw [settleStation_station_ne n m s reply y hmn, h.others m hmn]
      exact hm
  · have hy : (y.station m).stowLaw s.stowActive := by
      by_cases hmn : m = n
      · subst hmn; exact h.stow hm
      · rw [h.others m hmn]; exact hm
    rw [← hactive] at hy ⊢
    exact settleStation_stowLaw n m s reply y hy
  · unfold State.causeLaw at *
    rw [honly.wind, honly.stormInput, h.wind, h.storm]
    exact hc

/-- A change of one record that leaves its port and its stow fields alone. -/
theorem Edit.body (n : StationId) (s : State) (f : Station → Station)
    (hport : (f (s.station n)).queue = (s.station n).queue ∧ (f (s.station n)).link.isUp = (s.station n).link.isUp
      ∧ (f (s.station n)).tx = (s.station n).tx := by exact ⟨rfl, rfl, rfl⟩)
    (hstow : SameStow (s.station n) (f (s.station n)) := by exact ⟨rfl, rfl, rfl⟩) : Edit n s (s.updStation n f) where
  calm := .updBody s n f hport
  others m hm := by rw [State.updStation_station, if_neg hm]
  wind := rfl
  storm := rfl
  stow := (SameStow.updStation hstow n).stowLaw

theorem Edit.trans {n : StationId} {s y x : State} (h : Edit n s y) (k : Edit n y x) : Edit n s x where
  calm := h.calm.trans k.calm
  others m hm := (k.others m hm).trans (h.others m hm)
  wind := k.wind.trans h.wind
  storm := k.storm.trans h.storm
  stow hs := by
    have hactive : y.stowActive = s.stowActive := stowActive_of_wind h.wind
    exact hactive ▸ k.stow (hactive ▸ h.stow hs)

/-- A fault report or a raised cause is no change of the record. -/
theorem Edit.of_stations {n : StationId} {s y : State} (honly : OnlyStations s y) (hst : y.stations = s.stations) : Edit n s y where
  calm := .of_upstream hst (by rw [honly.settings]) (fun _ hc => .inl (honly.store ▸ hc))
    (fun h => by rw [State.upstreamLaw_iff, honly.upQueue]; exact h)
  others m _ := State.station_congr hst m
  wind := honly.wind
  storm := honly.stormInput
  stow h := by rw [State.station_congr hst n]; exact h

theorem Edit.refl (n : StationId) (s : State) : Edit n s s := .of_stations (.refl s) rfl

theorem Edit.fault (n : StationId) (src : FaultSource) (r : FaultReason) (d : BitVec 32) (s : State) :
    Edit n s (recordFault src r d s) := .of_stations (recordFault_ports src r d s).only (recordFault_stations src r d s)

theorem Edit.raise (n : StationId) (c : Cause) (s : State) : Edit n s (raise c s) := .of_stations (raise_ports c s).only rfl

theorem goodFrame_sameStow (n m : StationId) (s : State) : SameStow (s.station m) ((goodFrame n s).station m) := by
  unfold goodFrame
  simp only
  have h : SameStow (s.station m) ((s.updStation n fun st =>
      { st with link := .up (s.timer s.settings.timing.linkTimeout) }).station m) := .updStation ⟨rfl, rfl, rfl⟩ m
  split
  · exact h
  · exact (h.trans (offer_sameStow n m _ _)).trans (offer_sameStow n m _ _)

theorem Edit.goodFrame (n : StationId) (s : State) : Edit n s (goodFrame n s) where
  calm := goodFrame_calm n s
  others m hm := goodFrame_station_ne n m s hm
  wind := (goodFrame_only n s).wind
  storm := (goodFrame_only n s).stormInput
  stow := (goodFrame_sameStow n n s).stowLaw

/-! ### Frames from a cabinet -/

theorem changeHolders_kept {n : StationId} {s y : State} (h : Edit n s y) (hs : List Holder) (reply : Option LockReply) :
    Kept s (changeHolders n s hs reply y) := by
  unfold changeHolders
  simp only
  have hy : Edit n s (y.updStation n fun st => { st with holders := hs }) := h.trans (.body n y _)
  split
  · exact hy.kept reply
  · exact (hy.trans (.raise n _ _)).kept reply

theorem takeLock_kept {n : StationId} {s y : State} (h : Edit n s y) (b : Badge) (sc : Scope) :
    Kept s (takeLock n s b sc y) := by
  have hf : ∀ out : LockOutcome,
      Edit n s (if out = .full then recordFault (.station n) .lockFull (badgeDetail b) y else y) := fun out => by
    split
    · exact h.trans (.fault n _ _ _ y)
    · exact h
  unfold takeLock
  simp only
  exact changeHolders_kept (hf _) _ _

theorem takeUnlock_kept {n : StationId} {s y : State} (h : Edit n s y) (b : Badge) (sc : Scope) :
    Kept s (takeUnlock n s b sc y) := by
  have hf : ∀ out : LockOutcome,
      Edit n s (if out = .notHolder then recordFault (.station n) .notHolder (badgeDetail b) y else y) := fun out => by
    split
    · exact h.trans (.fault n _ _ _ y)
    · exact h
  unfold takeUnlock
  simp only
  exact changeHolders_kept (hf _) _ _

theorem takeReport_kept {n : StationId} {s y : State} (h : Edit n s y) (es : List ReportEntry) :
    Kept s (takeReport n s es y) := by
  unfold takeReport
  simp only
  have hy : Edit n s (y.updStation n fun st =>
      { st with holders := (rebuild (y.station n).holders es).1, lockReportSeen := true }) := h.trans (.body n y _)
  refine Edit.kept (Edit.trans ?_ (.raise n _ _)) _
  split
  · exact hy
  · exact hy.trans (.fault n _ _ _ _)

theorem Station.free_up {st : Station} (h : st.free = true) : st.link.isUp = true := by
  simp only [Station.free, Bool.and_eq_true] at h
  exact h.1.1.1.1.2

/-- A good frame takes the motion of no station. -/
theorem goodFrame_kept (n : StationId) (s : State) : Kept s (goodFrame n s) := by
  have honly := goodFrame_only n s
  refine .of_calm (goodFrame_calm n s) (fun m hmove => ?_) (fun m => (goodFrame_sameStow n m s).stowLaw) honly.wind
    honly.stormInput
  by_cases hm : m = n
  · subst hm
    have hup := Station.free_up (Station.free_of_mayMove hmove)
    have hg : goodFrame m s = s.updStation m fun st => { st with link := .up (s.timer s.settings.timing.linkTimeout) } := by
      simp [goodFrame, hup]
    rw [hg, State.updStation_station, if_pos rfl]
    rw [Station.mayMove, Station.free, hup] at hmove
    exact hmove
  · rw [goodFrame_station_ne n m s hm]
    exact hmove

theorem handleReport_kept (n : StationId) (es : List ReportEntry) (s : State) : Kept s (handleReport n es s) := by
  unfold handleReport
  split
  · exact (goodFrame_kept n s).trans (recordFault_reach _ _ _ _).kept (goodFrame_only n s).stowActive
  · exact takeReport_kept (.goodFrame n s) es

/-! ### Stow progress -/

theorem authorityOf_stowMoving {stow : Bool} {st : Station} (h : authorityOf stow st = .stowMoving) :
    stow = true ∧ st.progress = .moving := by
  unfold authorityOf at h
  repeat' split at h
  all_goals first
    | exact ⟨by assumption, by assumption⟩
    | exact absurd h (by simp)

theorem authorityOf_stowStowed {stow : Bool} {st : Station} (h : authorityOf stow st = .stowStowed) :
    stow = true ∧ st.progress = .stowed := by
  unfold authorityOf at h
  repeat' split at h
  all_goals first
    | exact ⟨by assumption, by assumption⟩
    | exact absurd h (by simp)

/-- A change of one station's progress under active stow from one that is begun, without a warn-expiry time, to another. -/
theorem Kept.of_progress {s x : State} {n : StationId} (hcalm : Calm s x) (hother : ∀ m, m ≠ n → SameGate (s.station m) (x.station m))
    (hfree : (x.station n).free = (s.station n).free) (hinst : (x.station n).installed = (s.station n).installed)
    (hbegun : (x.station n).progress.begun = true)
    (hwarn : (s.station n).stowLaw s.stowActive → (x.station n).warnTimer.isSome = true → (x.station n).progress = .warning)
    (hwas : (s.station n).stowLaw s.stowActive → (s.station n).progress ≠ .none)
    (hwind : x.wind = s.wind) (hstorm : x.stormInput = s.stormInput) : Kept s x := by
  refine .of_calm hcalm (fun m hm => ?_) (fun m hl => ?_) hwind hstorm
  · by_cases hmn : m = n
    · subst hmn
      rw [Station.mayMove, Bool.and_eq_true] at hm ⊢
      rw [hfree, hbegun, Bool.or_true]
      exact ⟨hm.1, rfl⟩
    · rw [(hother m hmn).mayMove]
      exact hm
  · by_cases hmn : m = n
    · subst hmn
      have hnone := hwas hl
      refine ⟨?_, hwarn hl⟩
      rw [hinst, ← hl.1]
      refine iff_of_false (fun h => ?_) hnone
      rw [h] at hbegun
      exact absurd hbegun (by simp [StowProgress.begun])
    · exact (hother m hmn).stowLaw _ hl

theorem enterMoving_free (n : StationId) (s : State) : ((enterMoving n s).station n).free = (s.station n).free := by
  rw [enterMoving_station, if_pos rfl]; rfl

theorem enterMoving_kept {n : StationId} {s : State} (h : (s.station n).stowLaw s.stowActive → (s.station n).progress ≠ .none) :
    Kept s (enterMoving n s) := by
  refine .of_progress (n := n) (enterMoving_calm n s) (fun m hm => ?_) (enterMoving_free n s) ?_ ?_ ?_ h rfl rfl
  · rw [enterMoving_station, if_neg hm]; exact ⟨rfl, rfl, rfl, rfl⟩
  all_goals rw [enterMoving_station, if_pos rfl]
  · rfl
  · exact fun _ hw => absurd hw (by simp)

/-- The stow test moves only a station that is MOVING or STOWED (R144, R145). -/
theorem stowTest_kept (n : StationId) (t : Telemetry) (s : State) : Kept s (stowTest n t s) := by
  unfold stowTest
  simp only
  split
  · next ha =>
    obtain ⟨hact, hp⟩ := authorityOf_stowMoving ha
    split
    · split
      · refine .of_progress (n := n) (.updBody s n _) (fun m hm => ?_) ?_ ?_ ?_ ?_ (fun _ => by rw [hp]; simp) rfl rfl
        · rw [State.updStation_station, if_neg hm]; exact ⟨rfl, rfl, rfl, rfl⟩
        all_goals rw [State.updStation_station, if_pos rfl]
        · rfl
        · rfl
        · exact fun hl hw => absurd (hp.symm.trans (hl.2 hw)) (by simp)
      · exact (offer_ports n _ s).kept (.offer_of_ne n _ s)
    · exact .refl s
  · next ha =>
    obtain ⟨hact, hp⟩ := authorityOf_stowStowed ha
    split
    · exact .refl s
    · exact enterMoving_kept fun _ => by rw [hp]; simp
  · exact .refl s

end Sys2Proof.Machine
end

section
/-! SUPPORT. The rest of what a command does to one station: telemetry, timers, the requests on locks and latches, and a new
active entry. -/

namespace Sys2Proof.Machine

/-! ### Telemetry and link loss (R6, R15) -/

theorem Edit.latch (n : StationId) (l : FaultLatch) (r : FaultReason) (d : BitVec 32) (s : State) :
    Edit n s (latch n l r d s) :=
  (Edit.body n s _).trans (.fault n _ _ _ _)

theorem Edit.checkTelemetry (n : StationId) (t : Telemetry) (s : State) : Edit n s (checkTelemetry n t s) := by
  unfold Machine.checkTelemetry
  simp only
  split
  · split
    · exact .latch n _ _ _ s
    · split
      · exact .latch n _ _ _ s
      · split
        · exact .latch n _ _ _ s
        · exact .refl n s
  · exact .refl n s

theorem Kept.foldl_of {α : Type} {f : State → α → State} {P : State → α → Prop} (hkept : ∀ s a, P s a → Kept s (f s a))
    (hstow : ∀ s a, (f s a).stowActive = s.stowActive) (hP : ∀ s a b, P s b → P (f s a) b) (l : List α) (s : State)
    (h : ∀ a ∈ l, P s a) : Kept s (l.foldl f s) := by
  induction l generalizing s with
  | nil => exact .refl s
  | cons a l ih =>
    refine (hkept s a (h a (by simp))).trans (ih _ fun b hb => hP s a b (h b (by simp [hb]))) (hstow s a)

theorem Kept.foldl {α : Type} {f : State → α → State} (hkept : ∀ s a, Kept s (f s a))
    (hstow : ∀ s a, (f s a).stowActive = s.stowActive) (l : List α) (s : State) : Kept s (l.foldl f s) :=
  .foldl_of (P := fun _ _ => True) (fun s a _ => hkept s a) hstow (fun _ _ _ => id) l s fun _ _ => trivial

theorem takeTelemetry_kept (n : StationId) (f : TelemetryFrame) (s : State) : Kept s (takeTelemetry n f s) := by
  unfold takeTelemetry
  simp only
  have hedit : Edit n s (checkTelemetry n (telemetryOf f s.now) (storeTelemetry n (telemetryOf f s.now) (goodFrame n s))) :=
    ((Edit.goodFrame n s).trans (.body n _ _)).trans (.checkTelemetry n _ _)
  have hactive : (settleStation n s none
      (checkTelemetry n (telemetryOf f s.now) (storeTelemetry n (telemetryOf f s.now) (goodFrame n s)))).stowActive
      = s.stowActive :=
    (settleStation_only n s none _).stowActive.trans (stowActive_of_wind hedit.wind)
  have htest := (stowTest_only n (telemetryOf f s.now) (settleStation n s none
      (checkTelemetry n (telemetryOf f s.now) (storeTelemetry n (telemetryOf f s.now) (goodFrame n s))))).stowActive
  have hkept := (hedit.kept none).trans (stowTest_kept n (telemetryOf f s.now) _) hactive
  have hwatch := hkept.trans (contactorWatch_reach n (telemetryOf f s.now).contactors _).kept (htest.trans hactive)
  exact hwatch.trans (offerUp_reach _ _).kept (((contactorWatch_only n _ _).stowActive.trans htest).trans hactive)

theorem Edit.dropLink (n : StationId) (s : State) : Edit n s (dropLink n s) where
  calm := dropLink_calm n s
  others m hm := by rw [Machine.dropLink, State.updStation_station, if_neg hm]
  wind := rfl
  storm := rfl
  stow := (SameStow.updStation ⟨rfl, rfl, rfl⟩ n).stowLaw

theorem loseLink_kept (n : StationId) (t : Time) (s : State) : Kept s (loseLink n t s) := by
  unfold loseLink
  simp only
  have h := (Edit.dropLink n s).trans (.fault n (.station n) .linkLost t _)
  refine Edit.kept ?_ none
  split
  · exact h.trans (.raise n _ _)
  · exact h

/-! ### The timers of a station (R31, R99, R141, R146) -/

/-- A station with a clearing in progress may not move. -/
theorem Station.mayMove_of_clearing {stow : Bool} {st : Station} (h : st.clearing.isSome = true) : st.mayMove stow = false := by
  rw [← Bool.not_eq_true]
  intro hm
  rw [Station.clearing_of_free (Station.free_of_mayMove hm)] at h
  exact absurd h (by simp)

theorem withheld_station_ne {n m : StationId} {f : State → State} (hf : ∀ u, (f u).station m = u.station m) (s : State)
    (h : m ≠ n) : (withheld n f s).station m = s.station m := by
  unfold withheld
  split
  · exact hf s
  · simp only
    rw [depart_station_ne n m _ h, State.updStation_station, if_neg h, hf, State.updStation_station, if_neg h]

/-- What a change keeps of the stow of a record it keeps with the departures held back. -/
theorem withheld_stowLaw {n m : StationId} {stow : Bool} {f : State → State}
    (hf : ∀ u, u.stowActive = stow → (u.station m).stowLaw stow → ((f u).station m).stowLaw stow) {s : State}
    (hs : s.stowActive = stow) (h : (s.station m).stowLaw stow) : ((withheld n f s).station m).stowLaw stow := by
  unfold withheld
  split
  · exact hf s hs h
  · simp only
    have hbusy := (SameStow.updStation (s := s) (n := n) (f := fun st => { st with tx := some (.horn false) })
      ⟨rfl, rfl, rfl⟩ m).stowLaw h
    refine ((depart_ports n _).same m).sameStow.stowLaw ?_
    exact (SameStow.updStation ⟨rfl, rfl, rfl⟩ m).stowLaw (hf _ hs hbusy)

theorem endClearing_kept {n : StationId} {s : State} (h : (s.station n).clearing.isSome = true) :
    Kept s (endClearing n s) := by
  have honly := endClearing_only n s
  have hother : ∀ m, m ≠ n → (endClearing n s).station m = s.station m := fun m hm =>
    withheld_station_ne (fun u => by
      rw [settleStation_station_ne n m _ _ _ hm, raise_station, offer_station_ne n m _ _ hm, State.updStation_station,
        if_neg hm]) s hm
  refine .of_calm (endClearing_calm n s) (fun m hmove => ?_) (fun m hl => ?_) honly.wind honly.stormInput
  · by_cases hm : m = n
    · subst hm
      rw [Station.mayMove_of_clearing h] at hmove
      exact absurd hmove (by simp)
    · rw [hother m hm]
      exact hmove
  · refine withheld_stowLaw (fun u hu hul => ?_) rfl hl
    have hactive : (raise .lockChange (offer n (.horn false) (u.updStation n fun st => { st with clearing := none }))).stowActive
        = s.stowActive := ((offer_ports n _ _).only.stowActive).trans hu
    rw [← hactive]
    refine settleStation_stowLaw n m s none _ ?_
    rw [hactive, raise_station]
    refine (offer_sameStow n m _ _).stowLaw ?_
    exact (SameStow.updStation (f := fun st => { st with clearing := none }) ⟨rfl, rfl, rfl⟩ m).stowLaw hul

theorem timerDue_isSome {t : Option Timer} {now : Time} (h : timerDue t now = true) : t.isSome = true := by
  cases t with
  | none => exact absurd h (by simp [timerDue])
  | some t => rfl

theorem warnExpiry_kept {n : StationId} {s : State} (h : (s.station n).warnTimer.isSome = true) :
    Kept s (enterMoving n (offer n (.horn false) s)) := by
  have hports := offer_ports n (.horn false) s
  refine (hports.kept (.offer_of_ne n _ s)).trans (enterMoving_kept fun hl => ?_) hports.only.stowActive
  rw [hl.2 (by rw [(hports.same n).warnTimer]; exact h)]
  simp

theorem freshnessExpiry_kept (n : StationId) (s : State) :
    Kept s (setClip n { noClip with stale := true } (offerStop n (s.updStation n goStale))) := by
  have honly := ((s.updStation_only n goStale).trans (offerStop_ports n _).only).trans (setClip_only n { noClip with stale := true } _)
  refine .of_gate (((Calm.updBody s n goStale).trans (.offerStop n _)).trans (setClip_calm n _ _)) (fun m => ?_) honly.wind
    honly.stormInput
  have hstale : SameGate (s.station m) ((s.updStation n goStale).station m) := .updStation ⟨rfl, rfl, rfl, rfl⟩ m
  refine (hstale.trans ((offerStop_ports n _).same m).sameGate).trans ?_
  exact SameGate.updStation ⟨rfl, rfl, rfl, rfl⟩ m

theorem stowTimeoutExpiry_kept (n : StationId) (d : BitVec 32) (s : State) :
    Kept s (recordFault (.station n) .stowTimeout d (s.updStation n fun st => { st with stowTimeout := none })) := by
  refine Kept.trans (x := s.updStation n fun st => { st with stowTimeout := none }) ?_ (recordFault_reach _ _ _ _).kept rfl
  exact .of_gate (.updBody s n _) (fun m => SameGate.updStation ⟨rfl, rfl, rfl, rfl⟩ m) rfl rfl

theorem stationFrameEnd_kept (n : StationId) (s : State) :
    Kept s (depart n (s.updStation n fun st => { st with tx := none })) := by
  have honly := (s.updStation_only n fun st => { st with tx := none }).trans (depart_ports n _).only
  refine .of_gate ((clearTx_calm n s).trans (depart_calm n _)) (fun m => ?_) honly.wind honly.stormInput
  exact (SameGate.updStation ⟨rfl, rfl, rfl, rfl⟩ m).trans ((depart_ports n _).same m).sameGate

theorem offer_kept_of_ne (n : StationId) (e : StationEntry) (s : State) (h : e.kind ≠ .setpoint) : Kept s (offer n e s) :=
  (offer_ports n e s).kept (.offer_of_ne n e s h)

/-- Cabinet data toward the cabinets moves nothing (R44). -/
theorem routeCabinet_kept (f : CabinetFrame) (s : State) : Kept s (routeCabinet f s) := by
  unfold routeCabinet
  split
  · exact .foldl (fun s n => offer_kept_of_ne n _ s (by simp)) (fun s n => (offer_ports n _ s).only.stowActive) _ s
  · split
    · exact offer_kept_of_ne _ _ s (by simp)
    · split
      · exact (recordFault_reach _ _ _ s).kept
      · exact .refl s

/-! ### A new active entry (R73, R74) -/

theorem putActive_stowLaw {n : StationId} {e : Envelope} {s : State} (h : (s.station n).stowLaw s.stowActive) :
    ((settleInstalled n (s.station n).installed (s.putActive n e)).station n).stowLaw s.stowActive := by
  have hput : (s.putActive n e).station n = (s.station n).underEnvelope e := by rw [State.putActive_station, if_pos rfl]
  have hactive : (s.putActive n e).stowActive = s.stowActive := rfl
  obtain ⟨hnone, hwarn⟩ := h
  unfold settleInstalled
  rw [hput, hactive]
  cases hwas : (s.station n).installed <;> cases hnow : ((s.station n).underEnvelope e).installed
  case true.false =>
    simp only [Bool.not_false, Bool.and_self, if_true]
    have hup : ∀ u : State, (u.station n).progress = .none → (u.station n).installed = false → (u.station n).warnTimer = none →
        (u.station n).stowLaw s.stowActive := fun u hp hi hw => by simp [Station.stowLaw, hp, hi, hw]
    unfold uninstallStow
    simp only
    split
    · refine (offer_sameStow n n _ _).stowLaw (hup _ ?_ ?_ ?_) <;> rw [State.updStation_station, if_pos rfl]
      rw [hput]; exact hnow
    · refine hup _ ?_ ?_ ?_ <;> rw [State.updStation_station, if_pos rfl]
      rw [hput]; exact hnow
  case false.true =>
    have hp : (s.station n).progress = .none := hnone.mpr (.inr hwas)
    have hw : (s.station n).warnTimer.isSome = false := by
      rw [← Bool.not_eq_true]
      exact fun hw => absurd (hp.symm.trans (hwarn hw)) (by simp)
    cases hstow : s.stowActive with
    | true =>
      simp only [Bool.not_true, Bool.false_eq_true, if_false, Bool.not_false, Bool.and_self, if_true]
      rw [State.updStation_station, if_pos rfl, hput]
      have hw' : ((s.station n).underEnvelope e).warnTimer.isSome = false := hw
      simp [Station.stowLaw, activateStation, clearDemand, hnow, hw']
    | false =>
      simp only [Bool.not_true, Bool.and_false, Bool.false_eq_true, if_false]
      rw [hput]
      refine ⟨⟨fun _ => .inl rfl, fun _ => hp⟩, fun hw' => ?_⟩
      rw [show ((s.station n).underEnvelope e).warnTimer = (s.station n).warnTimer from rfl, hw] at hw'
      exact absurd hw' (by simp)
  all_goals
    simp only [Bool.not_false, Bool.not_true, Bool.and_false, Bool.false_and, Bool.false_eq_true, if_false]
    rw [hput]
    refine ⟨?_, hwarn⟩
    rw [hwas] at hnone
    rw [hnow]
    exact hnone

theorem settleInstalled_station_ne (n m : StationId) (was : Bool) (s : State) (h : m ≠ n) :
    (settleInstalled n was s).station m = s.station m := by
  unfold settleInstalled uninstallStow
  simp only
  split
  · split
    · rw [offer_station_ne n m _ _ h, State.updStation_station, if_neg h]
    · rw [State.updStation_station, if_neg h]
  · split
    · rw [State.updStation_station, if_neg h]
    · rfl

theorem Edit.newEntry (n : StationId) {e : Envelope} (he : e.ordered) (s : State) :
    Edit n s (settleInstalled n (s.station n).installed (s.putActive n e)) where
  calm := (putActive_calm s n he).trans (settleInstalled_calm n _ _)
  others m hm := by rw [settleInstalled_station_ne n m _ _ hm, State.putActive_station, if_neg hm]
  wind := (settleInstalled_only n _ _).wind
  storm := (settleInstalled_only n _ _).stormInput
  stow := putActive_stowLaw

theorem writeActive_kept (n : StationId) {e : Envelope} (he : e.ordered) (s : State) : Kept s (writeActive n e s) := by
  rw [writeActive_eq]
  exact (Edit.newEntry n he s).kept none

theorem writeActive_stowActive (n : StationId) (e : Envelope) (s : State) : (writeActive n e s).stowActive = s.stowActive := by
  rw [writeActive_eq]
  exact ((settleInstalled_only n _ _).trans (settleStation_only n s none _)).stowActive

theorem applyStation_kept (s : State) (n : StationId) : Kept s (applyStation s n) := by
  unfold applyStation
  split
  · next h => exact writeActive_kept n (ordered_of_envelopeFailing (State.applyOutcome_eq_applied h)) s
  · exact .refl s

theorem applyStation_stowActive (s : State) (n : StationId) : (applyStation s n).stowActive = s.stowActive := by
  unfold applyStation
  split
  · exact writeActive_stowActive n _ s
  · rfl

theorem clearEnvelopes_kept (s : State) : Kept s (clearEnvelopes s) := by
  have hshadow : SensorReach s { s with shadow := Tab.fill 8 defaultEnvelope } := .of_same rfl rfl rfl rfl rfl id
  refine hshadow.kept.trans (.foldl (fun s n => ?_) (fun s n => ?_) stationIds _) rfl
  · exact writeActive_kept n defaultEnvelope_ordered s
  · exact writeActive_stowActive n _ s

end Sys2Proof.Machine
end

section
/-! SUPPORT. Batches, stow refreshes and the two resets keep the laws; then every command does. -/

namespace Sys2Proof.Machine

/-! ### Demand and grants (R25 to R30, R51, R58, R142, R143) -/

/-- The demand targets of a station lie within its limits, where those are in order. -/
def State.demandWithin (s : State) (n : StationId) : Prop :=
  (s.envelope n).ordered → withinSoft (s.envelope n) (s.station n).demand.azTarget (s.station n).demand.elTarget = true

theorem State.demandWithin_congr {s t : State} {n : StationId} (he : t.envelope n = s.envelope n)
    (hd : (t.station n).demand = (s.station n).demand) : t.demandWithin n ↔ s.demandWithin n := by
  unfold State.demandWithin
  rw [he, hd]

theorem OnlyPorts.demandWithin {s t : State} (h : OnlyPorts s t) (n : StationId) : t.demandWithin n ↔ s.demandWithin n :=
  State.demandWithin_congr (h.only.envelope n) (h.same n).demand

theorem SensorReach.demandWithin {s t : State} (h : SensorReach s t) (n : StationId) : t.demandWithin n ↔ s.demandWithin n :=
  State.demandWithin_congr (by unfold State.envelope; rw [h.active]) (by rw [h.record n])

theorem setClip_demandWithin (m n : StationId) (c : ClipSet) (s : State) :
    (setClip m c s).demandWithin n ↔ s.demandWithin n := by
  refine State.demandWithin_congr rfl ?_
  rw [setClip, State.updStation_station]
  split
  · next h => subst h; rfl
  · rfl

theorem setClip_kept (n : StationId) (c : ClipSet) (s : State) : Kept s (setClip n c s) :=
  .of_gate (setClip_calm n c s) (fun m => SameGate.updStation ⟨rfl, rfl, rfl, rfl⟩ m) rfl rfl

/-- An offer keeps the laws where a SETPOINT offered lies within the limits: the enqueue check sees to the motion (R21). -/
theorem offer_kept {n : StationId} {e : StationEntry} {s : State}
    (h : (s.envelope n).ordered → ∀ sp, e = .setpoint sp → withinSoft (s.envelope n) sp.azTarget sp.elTarget = true) :
    Kept s (offer n e s) := by
  have hports := offer_ports n e s
  refine ⟨fun m hm => ?_, fun m => (hports.same m).sameGate.stowLaw _, by rw [hports.only.wind], fun hc => ?_,
    fun hq => hq.offer n e, fun hl => hl.offer (h (hl.1 n)), fun hu => ?_⟩
  · cases hmove : (s.station m).mayMove s.stowActive with
    | true => exact .inr ((hports.same m).sameGate.mayMove _ ▸ hmove)
    | false =>
      have hquiet : quietQueue (s.station m).queue := hm.resolve_right (by rw [hmove]; simp)
      refine .inl fun sp hsp => ?_
      rcases mem_offer_queue (mem_queuedSetpoints.mp hsp) with hold | ⟨rfl, hnew⟩
      · exact hquiet sp (mem_queuedSetpoints.mpr hold)
      · exact checked_still ((s.authority_permitting m).trans hmove) hnew.symm
  · unfold State.causeLaw at *
    rw [hports.only.wind, hports.only.stormInput]
    exact hc
  · rw [State.upstreamLaw_iff, hports.only.upQueue]
    exact hu

theorem offerGrant_kept {s : State} {n : StationId} (h : s.demandWithin n) : Kept s (offerGrant s n) :=
  offer_kept fun ho sp he => by obtain rfl := StationEntry.setpoint.inj he; exact h ho

/-! ### Batch entries -/

theorem fitDemand_demandWithin {s t : State} {n : StationId} {az el : Int} {azSpeed elSpeed : Nat}
    (he : t.envelope n = s.envelope n) (hd : (t.station n).demand = (s.fitDemand n az el azSpeed elSpeed).1) : t.demandWithin n := by
  intro ho
  rw [he] at ho ⊢
  rw [hd]
  exact withinSoft_clampInt ho _ _

theorem writeEntry_station_self (n : StationId) (b : BatchEntry) (s : State) :
    ((writeEntry n b s).station n).demand
        = (s.fitDemand n b.azTarget.toInt b.elTarget.toInt b.azSpeed.toNat b.elSpeed.toNat).1
      ∧ ((writeEntry n b s).station n).stale = false := by
  unfold writeEntry setClip
  simp only [State.updStation_station, if_true, and_self]

theorem writeEntry_station_ne (n m : StationId) (b : BatchEntry) (s : State) (h : m ≠ n) :
    (writeEntry n b s).station m = s.station m := by
  unfold writeEntry setClip
  simp only [State.updStation_station, if_neg h]

theorem writeEntry_demandWithin (n : StationId) (b : BatchEntry) (s : State) : (writeEntry n b s).demandWithin n :=
  fitDemand_demandWithin ((writeEntry_only n b s).envelope n) (writeEntry_station_self n b s).1

theorem writeEntry_kept (n : StationId) (b : BatchEntry) (s : State) : Kept s (writeEntry n b s) := by
  have hdemand : Kept s (s.updStation n fun st =>
      { st with demand := (s.fitDemand n b.azTarget.toInt b.elTarget.toInt b.azSpeed.toNat b.elSpeed.toNat).1
                freshness := some (s.timer s.settings.timing.setpointDeadline), stale := false }) :=
    .of_gate (.updBody s n _) (fun m => SameGate.updStation ⟨rfl, rfl, rfl, rfl⟩ m) rfl rfl
  exact hdemand.trans (setClip_kept n _ _) rfl

theorem handleEntry_kept (s : State) (b : BatchEntry) : Kept s (handleEntry s b) := by
  unfold handleEntry
  simp only
  split
  · exact writeEntry_kept _ b s
  · split
    · exact setClip_kept _ _ s
    · exact .refl s

theorem handleEntry_demandWithin {s : State} {n : StationId} (b : BatchEntry) (h : s.demandWithin n) :
    (handleEntry s b).demandWithin n := by
  unfold handleEntry
  simp only
  split
  · by_cases hn : n = entryStation b
    · subst hn; exact writeEntry_demandWithin _ b s
    · refine (State.demandWithin_congr ((writeEntry_only _ b s).envelope n) ?_).mpr h
      rw [writeEntry_station_ne _ n b s hn]
  · split
    · exact (setClip_demandWithin _ n _ s).mpr h
    · exact h

/-- An authority takes entries where nothing blocks the station and no stow is active (R25). -/
theorem authorityOf_takes (stow : Bool) (st : Station) : (authorityOf stow st).takes = (st.free && !stow) := by
  unfold authorityOf Station.free
  cases st.installed <;> cases st.link.isUp <;> cases st.lockReportSeen <;> try rfl
  cases hd : driveCount st == 0 <;> simp only [bne, hd] <;> try rfl
  cases st.clearing <;> try rfl
  cases st.faultLatch <;> try rfl
  cases stow <;> cases st.progress <;> simp [Authority.takes] <;> split_ifs <;> rfl

theorem handleEntry_gate (s : State) (b : BatchEntry) (n : StationId) :
    SameGate (s.station n) ((handleEntry s b).station n) := by
  unfold handleEntry writeEntry
  simp only
  have hclip : ∀ (m : StationId) (c : ClipSet) (u : State), SameGate (u.station n) ((setClip m c u).station n) :=
    fun m c u => .updStation ⟨rfl, rfl, rfl, rfl⟩ n
  split
  · exact SameGate.trans (SameGate.updStation ⟨rfl, rfl, rfl, rfl⟩ n) (hclip _ _ _)
  · split
    · exact hclip _ _ s
    · exact ⟨rfl, rfl, rfl, rfl⟩

theorem handleEntry_takes (s : State) (b : BatchEntry) (n : StationId) :
    ((handleEntry s b).authority n).takes = (s.authority n).takes := by
  unfold State.authority
  rw [authorityOf_takes, authorityOf_takes, (handleEntry_only s b).stowActive, (handleEntry_gate s b n).free]

/-- A station whose entry was taken has its demand within its limits. -/
theorem foldl_handleEntry_demandWithin {n : StationId} (es : List BatchEntry) (s : State)
    (h : s.demandWithin n ∨ ∃ b ∈ es, entryStation b = n ∧ (s.authority n).takes = true) :
    (es.foldl handleEntry s).demandWithin n := by
  induction es generalizing s with
  | nil => exact h.resolve_right (by simp)
  | cons b es ih =>
    refine ih _ ?_
    rcases h with h | ⟨c, hc, hn, htakes⟩
    · exact .inl (handleEntry_demandWithin b h)
    · rcases List.mem_cons.mp hc with rfl | hc
      · left
        subst hn
        unfold handleEntry
        simp only [htakes, if_true]
        exact writeEntry_demandWithin _ c s
      · exact .inr ⟨c, hc, hn, (handleEntry_takes s b n).trans htakes⟩

/-! ### The refresh of demand -/

theorem refreshDemand_station_ne (s : State) (n m : StationId) (h : m ≠ n) : (refreshDemand s n).station m = s.station m := by
  unfold refreshDemand setClip
  simp only
  split
  · rw [State.updStation_station, if_neg h, State.updStation_station, if_neg h]
  · rfl

theorem refreshDemand_member {s : State} {n : StationId} (h : s.memberOf .batch n = true) :
    (refreshDemand s n).demandWithin n := by
  have hfit : ((refreshDemand s n).station n).demand = (s.fitDemand n (s.station n).demand.azTarget
      (s.station n).demand.elTarget (s.station n).demand.azSpeed (s.station n).demand.elSpeed).1 := by
    unfold refreshDemand setClip
    simp only [h, if_true, State.updStation_station]
  exact fitDemand_demandWithin ((refreshDemand_only s n).envelope n) hfit

/-- The refresh keeps what is within limits, and brings every member it comes to within them. -/
theorem refreshDemand_demandWithin {s : State} {n : StationId} (m : StationId) (h : s.demandWithin n) :
    (refreshDemand s m).demandWithin n := by
  by_cases hn : n = m
  · subst hn
    cases hmem : s.memberOf .batch n with
    | true => exact refreshDemand_member hmem
    | false =>
      unfold refreshDemand
      simpa [hmem] using h
  · exact (State.demandWithin_congr ((refreshDemand_only s m).envelope n) (by rw [refreshDemand_station_ne s m n hn])).mpr h

theorem refreshDemand_memberOf (s : State) (n m : StationId) :
    (refreshDemand s m).memberOf .batch n = true → s.memberOf .batch n = true := by
  by_cases hn : n = m
  · subst hn
    unfold refreshDemand
    simp only
    split
    · next h => exact fun _ => h
    · exact id
  · unfold State.memberOf
    rw [refreshDemand_station_ne s m n hn]
    exact id

theorem foldl_refreshDemand_demandWithin {n : StationId} (l : List StationId) (s : State)
    (h : s.demandWithin n ∨ (n ∈ l ∧ (l.foldl refreshDemand s).memberOf .batch n = true)) :
    (l.foldl refreshDemand s).demandWithin n := by
  have hback : ∀ (l : List StationId) (u : State), (l.foldl refreshDemand u).memberOf .batch n = true → u.memberOf .batch n = true := by
    intro l
    induction l with
    | nil => exact fun _ => id
    | cons m l ih => exact fun u hu => refreshDemand_memberOf u n m (ih _ hu)
  induction l generalizing s with
  | nil => exact h.resolve_right (by simp)
  | cons m l ih =>
    refine ih _ ?_
    rcases h with h | ⟨hmem, hlast⟩
    · exact .inl (refreshDemand_demandWithin m h)
    · rcases List.mem_cons.mp hmem with rfl | hmem
      · exact .inl (refreshDemand_member (hback (n :: l) s hlast))
      · exact .inr ⟨hmem, hlast⟩

theorem refreshDemand_kept (s : State) (n : StationId) : Kept s (refreshDemand s n) := by
  unfold refreshDemand
  simp only
  split
  · refine Kept.trans (x := s.updStation n fun st => { st with demand := (s.fitDemand n (s.station n).demand.azTarget
      (s.station n).demand.elTarget (s.station n).demand.azSpeed (s.station n).demand.elSpeed).1 }) ?_ (setClip_kept n _ _) rfl
    exact .of_gate (.updBody s n _) (fun m => SameGate.updStation ⟨rfl, rfl, rfl, rfl⟩ m) rfl rfl
  · exact .refl s

/-! ### The allocation -/

theorem granted_gate (st : Station) (k : AllocKind) (member : Bool) (scale : Nat) (held : Bool) :
    SameGate st (st.granted k member scale held) := by
  unfold Station.granted
  split <;> exact ⟨rfl, rfl, rfl, rfl⟩

theorem granted_port (st : Station) (k : AllocKind) (member : Bool) (scale : Nat) (held : Bool) (e : Envelope) :
    PortCalm e st (st.granted k member scale held) := by
  unfold Station.granted
  split <;> exact .of_same rfl rfl rfl

theorem granted_demand (st : Station) (k : AllocKind) (member : Bool) (scale : Nat) (held : Bool) :
    (st.granted k member scale held).demand = st.demand ∧ (st.granted k member scale held).stale = st.stale := by
  unfold Station.granted
  split <;> exact ⟨rfl, rfl⟩

theorem mapStations_granted_kept (s : State) (k : AllocKind) (member : StationId → Bool) (scale : Nat) (held : Bool) :
    Kept s (s.mapStations fun n st => st.granted k (member n) scale held) := by
  refine .of_gate (.of_ports (fun n => ?_) rfl (fun _ => .inl) id) (fun n => ?_) rfl rfl
  · rw [State.mapStations_station]; exact granted_port _ _ _ _ _ _
  · rw [State.mapStations_station]; exact granted_gate _ _ _ _ _

/-- What an allocation leaves: the laws, the demands and whether they are stale. -/
structure Allocated (s t : State) : Prop where
  kept : Kept s t
  stow : t.stowActive = s.stowActive
  envelope : ∀ n, t.envelope n = s.envelope n
  demand : ∀ n, (t.station n).demand = (s.station n).demand ∧ (t.station n).stale = (s.station n).stale

theorem Allocated.trans {s t u : State} (h : Allocated s t) (k : Allocated t u) : Allocated s u where
  kept := h.kept.trans k.kept h.stow
  stow := k.stow.trans h.stow
  envelope n := (k.envelope n).trans (h.envelope n)
  demand n := ⟨(k.demand n).1.trans (h.demand n).1, (k.demand n).2.trans (h.demand n).2⟩

theorem SensorReach.allocated {s t : State} (h : SensorReach s t) (honly : OnlyStations s t) : Allocated s t where
  kept := h.kept
  stow := honly.stowActive
  envelope := honly.envelope
  demand n := by rw [h.record n]; exact ⟨rfl, rfl⟩

theorem OnlyPorts.allocated {s t : State} (h : OnlyPorts s t) (hcalm : Calm s t) : Allocated s t where
  kept := h.kept hcalm
  stow := h.only.stowActive
  envelope := h.only.envelope
  demand n := ⟨(h.same n).demand, (h.same n).stale⟩

theorem mapStations_granted_allocated (s : State) (k : AllocKind) (member : StationId → Bool) (scale : Nat) (held : Bool) :
    Allocated s (s.mapStations fun n st => st.granted k (member n) scale held) where
  kept := mapStations_granted_kept s k member scale held
  stow := rfl
  envelope _ := rfl
  demand n := by rw [State.mapStations_station]; exact granted_demand _ _ _ _ _

theorem withAlloc_allocated (a : AllocRecord) (s : State) : Allocated s { s with alloc := a } where
  kept := (SensorReach.of_same rfl rfl rfl rfl rfl id : SensorReach s { s with alloc := a }).kept
  stow := rfl
  envelope _ := rfl
  demand _ := ⟨rfl, rfl⟩

theorem allocate_allocated (k : AllocKind) (s : State) : Allocated s (allocate k s) := by
  have hshed := (allocationShed_reach k s).allocated (allocationShed_only k s)
  have hadmit := fun (ps : List (StationId × ZoneNum)) (room : Int) (u : State) =>
    (admitZones_reach ps room u).allocated (admitZones_only ps room u)
  have hmarkers := fun u : State => (offerHeatMarkers_ports s u).allocated (offerHeatMarkers_calm s u)
  exact (((hshed.trans (mapStations_granted_allocated _ k _ _ _)).trans (withAlloc_allocated _ _)).trans (hadmit _ _ _)).trans
    (hmarkers _)

theorem Allocated.demandWithin {s t : State} (h : Allocated s t) (n : StationId) : t.demandWithin n ↔ s.demandWithin n :=
  State.demandWithin_congr (h.envelope n) (h.demand n).1

/-! ### Batches and stow refreshes -/

theorem offerGrant_demandWithin (s : State) (n m : StationId) (h : s.demandWithin m) : (offerGrant s n).demandWithin m :=
  ((offerGrant_ports s n).demandWithin m).mpr h

theorem mem_batchOffers {taken : List StationId} {before after : State} {n : StationId} (h : n ∈ batchOffers taken before after) :
    n ∈ taken ∨ after.memberOf .batch n = true := by
  unfold batchOffers at h
  rw [List.mem_filter, Bool.or_eq_true, List.contains_iff_mem, Bool.and_eq_true] at h
  exact h.2.imp id fun h => h.1

theorem runBatch_kept (es : List BatchEntry) (s : State) : Kept s (runBatch es s) := by
  unfold runBatch
  simp only
  have hentries : Kept s (es.foldl handleEntry s) := .foldl handleEntry_kept (fun u b => (handleEntry_only u b).stowActive) es s
  have hentries_stow := (OnlyStations.foldl handleEntry_only es s).stowActive
  have hrefresh : Kept s (stationIds.foldl refreshDemand (es.foldl handleEntry s)) :=
    hentries.trans (.foldl refreshDemand_kept (fun u n => (refreshDemand_only u n).stowActive) stationIds _) hentries_stow
  have hrefresh_stow := (OnlyStations.foldl refreshDemand_only stationIds (es.foldl handleEntry s)).stowActive.trans hentries_stow
  have halloc := allocate_allocated .batch (stationIds.foldl refreshDemand (es.foldl handleEntry s))
  refine (hrefresh.trans halloc.kept hrefresh_stow).trans ?_ (halloc.stow.trans hrefresh_stow)
  refine .foldl_of (P := fun u n => u.demandWithin n) (fun u n => offerGrant_kept)
    (fun u n => (offerGrant_ports u n).only.stowActive) offerGrant_demandWithin _ _ fun n hn => ?_
  rw [halloc.demandWithin]
  refine foldl_refreshDemand_demandWithin stationIds _ ?_
  rcases mem_batchOffers hn with htaken | hmember
  · left
    obtain ⟨b, hb, hbn⟩ := List.mem_map.mp htaken
    obtain ⟨hmem, htakes⟩ := List.mem_filter.mp hb
    exact foldl_handleEntry_demandWithin es s (.inr ⟨b, hmem, hbn, hbn ▸ htakes⟩)
  · refine .inr ⟨by simp, ?_⟩
    unfold State.memberOf at hmember ⊢
    rwa [(halloc.demand n).1, (halloc.demand n).2] at hmember

theorem takeBatch_kept (es : List BatchEntry) (s : State) : Kept s (takeBatch es s) := by
  unfold takeBatch
  split
  · exact (recordFault_reach _ _ _ s).kept
  · split
    · refine .foldl (fun u b => ?_) (fun u b => (overrideEntry_only u b).stowActive) es s
      unfold overrideEntry
      split
      · exact setClip_kept _ _ u
      · exact .refl u
    · exact runBatch_kept es s

theorem writeStowDemand_station (s : State) (n : StationId) :
    (writeStowDemand s).station n
      = if s.memberOf .stow n then { s.station n with demand := s.stowDemand n } else s.station n := by
  unfold writeStowDemand
  rw [State.mapStations_station]

theorem writeStowDemand_kept (s : State) : Kept s (writeStowDemand s) := by
  refine .of_gate (.of_ports (fun n => ?_) rfl (fun _ => .inl) id) (fun n => ?_) rfl rfl <;>
    rw [writeStowDemand_station] <;> split
  · exact .of_same rfl rfl rfl
  · exact .refl
  · exact ⟨rfl, rfl, rfl, rfl⟩
  · exact ⟨rfl, rfl, rfl, rfl⟩

theorem writeStowDemand_demandWithin {s : State} {n : StationId} (h : s.memberOf .stow n = true) :
    (writeStowDemand s).demandWithin n := by
  intro ho
  rw [writeStowDemand_station, if_pos h]
  exact withinSoft_clampInt ho _ _

theorem offerStow_kept (clamped : StationId → Bool) {s : State} {n : StationId} (h : s.demandWithin n) :
    Kept s (offerStow clamped s n) := by
  unfold offerStow
  simp only
  split
  · exact (setClip_kept n _ s).trans (offerGrant_kept ((setClip_demandWithin n n _ s).mpr h)) rfl
  · exact offerGrant_kept h

theorem offerStow_demandWithin (clamped : StationId → Bool) (s : State) (n m : StationId) (h : s.demandWithin m) :
    (offerStow clamped s n).demandWithin m := by
  unfold offerStow
  simp only
  split
  · exact offerGrant_demandWithin _ n m ((setClip_demandWithin n m _ s).mpr h)
  · exact offerGrant_demandWithin s n m h

theorem runStowRefresh_kept (s : State) : Kept s (runStowRefresh s) := by
  unfold runStowRefresh
  simp only
  have halloc := allocate_allocated .stow (writeStowDemand s)
  have hstow := halloc.stow.trans (writeStowDemand_only s).stowActive
  refine ((writeStowDemand_kept s).trans halloc.kept (writeStowDemand_only s).stowActive).trans ?_ hstow
  refine .foldl_of (P := fun u n => u.demandWithin n) (fun u n => offerStow_kept _)
    (fun u n => (offerStow_only _ u n).stowActive) (offerStow_demandWithin _) _ _ fun n hn => ?_
  rw [halloc.demandWithin]
  exact writeStowDemand_demandWithin (List.mem_filter.mp hn).2

end Sys2Proof.Machine
end

section
/-! SUPPORT. The two resets and the steps of all 57 commands: every law that holds before holds after. -/

namespace Sys2Proof.Machine

/-! ### Resets (R193, R194) -/

/-- What either reset finds before the STORM input is sampled: nothing waits, no stow, level CALM, no substitute. -/
structure State.Fresh (r : State) : Prop where
  quiet : ∀ n, quietQueue (r.station n).queue
  progress : ∀ n, (r.station n).progress = .none ∧ (r.station n).warnTimer = none
  level : r.wind.level = .calm
  causes : r.wind.causes = noCauses
  refresh : r.wind.refresh = none
  slots : ∀ i, (r.slot i).state ≠ .substituted

theorem resetBlocks_fresh (installed : StationId → Bool) (s : State) : (resetBlocks installed s).Fresh where
  quiet n := by rw [resetBlocks_station]; exact quietQueue_nil
  progress n := by rw [resetBlocks_station]; exact ⟨rfl, rfl⟩
  level := rfl
  causes := rfl
  refresh := rfl
  slots i := by
    rw [show (resetBlocks installed s).slot i = (Tab.fill 16 resetSlot).get i from rfl, Tab.get_fill]
    decide

theorem State.Fresh.recordFault {r : State} (h : r.Fresh) (src : FaultSource) (rsn : FaultReason) (d : BitVec 32) :
    (recordFault src rsn d r).Fresh where
  quiet n := by rw [recordFault_station]; exact h.quiet n
  progress n := by rw [recordFault_station]; exact h.progress n
  level := by rw [(recordFault_ports src rsn d r).only.wind]; exact h.level
  causes := by rw [(recordFault_ports src rsn d r).only.wind]; exact h.causes
  refresh := by rw [(recordFault_ports src rsn d r).only.wind]; exact h.refresh
  slots i := by rw [(recordFault_ports src rsn d r).only.slot]; exact h.slots i

/-- A pass over slots of which none is substituted reads none of them. -/
theorem walkSequential_wind {s : State} (h : ∀ i, (s.slot i).state ≠ .substituted) (fuel i : Nat) :
    (walkSequential fuel i s).wind = s.wind := by
  have hend : (passEnd s).wind = s.wind := by unfold passEnd; split <;> rfl
  cases fuel with
  | zero => exact hend
  | succ fuel =>
    unfold walkSequential
    split
    · rw [if_neg (h _)]
      split
      · rfl
      · exact hend
    · exact hend

theorem walkPaired_wind {s : State} (h : ∀ i, (s.slot i).state ≠ .substituted) (fuel p : Nat) :
    (walkPaired fuel p s).wind = s.wind := by
  have hend : (passEnd s).wind = s.wind := by unfold passEnd; split <;> rfl
  cases fuel with
  | zero => exact hend
  | succ fuel =>
    unfold walkPaired
    simp only
    split
    · rw [if_neg (h _), if_neg (h _)]
      split
      · rfl
      · exact hend
    · exact hend

theorem autostart_wind {s : State} (h : ∀ i, (s.slot i).state ≠ .substituted) : (autostart s).wind = s.wind := by
  unfold autostart beginPass continuePass
  split
  · split
    · exact walkSequential_wind (s := State.updScanner (State.updScanner s _) _) h _ _
    · exact walkPaired_wind (s := State.updScanner (State.updScanner s _) _) h _ _
  · rfl

theorem activate_slots (s : State) : (activate s).slots = s.slots := by
  rw [(activate_only s).slots]

theorem sampleStorm_slot (storm : Bool) (r : State) (i : SlotId) : (sampleStorm storm r).slot i = r.slot i := by
  unfold sampleStorm State.slot
  split
  · rw [activate_slots, stormLevel_slots]
  · rw [stormLevel_slots]

/-- Either reset ends with every law but that of the limits and the queues in force. -/
theorem finishReset_fresh {r : State} (h : r.Fresh) (storm : Bool) :
    (finishReset storm r).motionSafe ∧ (finishReset storm r).causeLaw ∧ (finishReset storm r).stowLaw := by
  have hwind := autostart_wind (s := sampleStorm storm r) fun i => by rw [sampleStorm_slot]; exact h.slots i
  have hlaws : Laws (sampleStorm storm r) (finishReset storm r) :=
    ((autostart_reach _).kept.laws (stowActive_of_wind hwind)).trans (examine_laws _)
  have hquiet : (sampleStorm storm r).motionSafe :=
    State.motionSafe_iff.mpr fun n => .inl ((sampleStorm_calm storm r).quiet n (h.quiet n))
  have hclear : ∀ n, ((stormLevel storm r).station n).stowLaw false := fun n => by
    obtain ⟨hp, hw⟩ := h.progress n
    have hst : (stormLevel storm r).station n = r.station n := rfl
    simp [Station.stowLaw, hst, hp, hw]
  have hcause : (stormLevel storm r).causeLaw := by
    unfold State.causeLaw stormLevel
    simp only [h.causes, h.level]
    exact ⟨rfl, trivial⟩
  have hactive : (stormLevel storm r).stowActive = storm := by
    unfold State.stowActive stormLevel
    simp [h.causes, noCauses, StowCauses.active]
  refine ⟨hlaws.motion hquiet, hlaws.causes ?_, hlaws.stow ?_⟩
  · unfold sampleStorm
    split
    · unfold State.causeLaw at *
      rw [(activate_wind _).1, (activate_only _).stormInput]
      exact hcause
    · exact hcause
  · rw [State.stowLaw_iff]
    unfold sampleStorm
    cases storm with
    | true =>
      rw [if_pos rfl]
      have hact : (activate (stormLevel true r)).stowActive = true := by
        rw [State.stowActive, (activate_wind _).1]; exact hactive
      rw [hact]
      exact ⟨(activate_wind _).2, fun n => activate_stowLaw _ n (hclear n)⟩
    | false =>
      rw [if_neg (by simp), hactive]
      exact ⟨by rw [stormLevel, h.refresh]; rfl, hclear⟩

theorem Laws.of_reset {s r : State} (hcalm : Calm s (finishReset storm r)) (h : r.Fresh) : Laws s (finishReset storm r) := by
  obtain ⟨hmotion, hcauses, hstow⟩ := finishReset_fresh h storm
  exact ⟨fun _ => hmotion, hcalm.limits, hcalm.queues, hcalm.upstream, fun _ => hcauses, fun _ => hstow⟩

theorem powerOn_laws (strap : Byte) (storm fails : Bool) (s : State) : Laws s (powerOn strap storm fails s) := by
  refine .of_reset (powerOn_calm strap storm fails s) ?_
  unfold reportStore
  split
  · exact (resetBlocks_fresh _ _).recordFault _ _ _
  · exact resetBlocks_fresh _ _

theorem warm_laws (strap : Byte) (s : State) : Laws s (warm strap s) :=
  .of_reset (warm_calm strap s) (resetBlocks_fresh _ _)

/-! ### Requests -/

@[simp] theorem done_state (contents : List Byte) (s : State) : (done contents s).state = s := rfl

@[simp] theorem refuse_state (code : RespCode) (s : State) : (refuse code s).state = s := rfl

@[simp] theorem refuseInvalid_state (p : Nat × Nat) (s : State) : (refuseInvalid p s).state = s := rfl

/-- A table replaced that is not the active one. -/
theorem withSettings_reach (s : State) (t : Settings) (h : t.active = s.settings.active) :
    SensorReach s { s with settings := t } := .of_same rfl h rfl rfl rfl id

theorem writeShadow_kept (first count : Nat) (bs : List Byte) (s : State) : Kept s (writeShadow first count bs s).state := by
  unfold writeShadow
  repeat' split
  · exact .refl s
  · exact .refl s
  · rw [done_state]
    exact SensorReach.kept (.of_same rfl rfl rfl rfl rfl id)

theorem writeBudget_kept (count : Nat) (bs : List Byte) (s : State) : Kept s (writeBudget count bs s).state := by
  unfold writeBudget
  simp only
  repeat' split
  · exact .refl s
  · exact .refl s
  · rw [done_state]
    refine SensorReach.kept (.trans ?_ (shedToBudget_reach _ _))
    exact withSettings_reach s _ rfl

theorem writeWind_kept (first count : Nat) (bs : List Byte) (s : State) : Kept s (writeWind first count bs s).state := by
  unfold writeWind
  simp only
  repeat' split
  · exact .refl s
  · exact .refl s
  · exact .refl s
  · rw [done_state]
    refine SensorReach.kept (.trans ?_ (evalLevel_reach _))
    exact withSettings_reach s _ rfl

theorem writeTiming_kept (count : Nat) (bs : List Byte) (s : State) : Kept s (writeTiming count bs s).state := by
  unfold writeTiming
  simp only
  repeat' split
  · exact .refl s
  · exact .refl s
  · rw [done_state]
    exact SensorReach.kept (withSettings_reach s _ rfl)

theorem writePoll_kept (first count : Nat) (bs : List Byte) (s : State) : Kept s (writePoll first count bs s).state := by
  unfold writePoll
  simp only
  repeat' split
  · exact .refl s
  · exact .refl s
  · exact .refl s
  · rw [done_state]
    refine SensorReach.kept (.trans ?_ (settlePollWrite_reach s _ _))
    exact withSettings_reach s _ rfl

theorem writeZones_kept (first count : Nat) (bs : List Byte) (s : State) : Kept s (writeZones first count bs s).state := by
  unfold writeZones
  simp only
  repeat' split
  · exact .refl s
  · exact .refl s
  · exact .refl s
  · rw [done_state]
    refine SensorReach.kept (.trans ?_ (.foldl (fun u p => settleZoneWrite_reach s.settings.zones p u) _ _))
    exact withSettings_reach s _ rfl

theorem runTableWrite_kept (params : List Byte) (s : State) : Kept s (runTableWrite params s).state := by
  unfold runTableWrite writeTable
  split
  · split
    · exact .refl s
    · split
      · exact writeShadow_kept _ _ _ s
      · exact writeBudget_kept _ _ s
      · exact writeWind_kept _ _ _ s
      · exact writeTiming_kept _ _ s
      · exact writePoll_kept _ _ _ s
      · exact writeZones_kept _ _ _ s
  · exact .refl s

theorem bare_kept {run : State → Answer} {s : State} (params : List Byte) (h : Kept s (run s).state) :
    Kept s (bare params run s).state := by
  unfold bare
  split
  · exact h
  · exact .refl s

theorem runSettingsSave_kept (s : State) : Kept s (runSettingsSave s).state := by
  unfold runSettingsSave
  repeat' split
  · exact .refl s
  · exact .refl s
  · have hsave : SensorReach s { s with store := { s.store with copy := some s.settings, state := .saving } } :=
      ⟨fun _ => rfl, rfl, fun _ hc => .inr (Option.some.inj hc ▸ rfl), rfl, rfl, id, id⟩
    exact hsave.kept

theorem runEnvelopeApply_kept (params : List Byte) (s : State) : Kept s (runEnvelopeApply params s).state := by
  unfold runEnvelopeApply
  repeat' split
  · exact .refl s
  · exact .refl s
  · exact .refl s
  · simp only
    rw [done_state]
    exact .foldl applyStation_kept applyStation_stowActive _ s
  · exact .refl s

theorem runEnvelopeClearAll_kept (s : State) : Kept s (runEnvelopeClearAll s).state := by
  unfold runEnvelopeClearAll
  repeat' split
  · exact .refl s
  · exact .refl s
  · exact .refl s
  · rw [done_state]
    exact clearEnvelopes_kept s

theorem runLockdownSet_kept (s : State) : Kept s (runLockdownSet s).state := by
  unfold runLockdownSet
  split
  · exact .refl s
  · rw [done_state]
    exact (SensorReach.of_same rfl rfl rfl rfl rfl id : SensorReach s { s with lockdown := true }).kept

/-- The cause MANUAL is in neither of the laws of the cause set. -/
theorem setManual_kept (on : Bool) (s : State) : Kept s (setManual on s).state := by
  have h : SensorReach s { s with wind := { s.wind with causes := { s.wind.causes with manual := on } } } :=
    ⟨fun _ => rfl, rfl, fun _ => .inl, rfl, rfl, id, id⟩
  exact h.kept

theorem withClaim_kept {run : StationId → Scope → State → Answer} {s : State} (params : List Byte)
    (h : ∀ n scope, Kept s (run n scope s).state) : Kept s (withClaim params run s).state := by
  unfold withClaim
  repeat' split
  · exact .refl s
  · exact h _ _
  · exact .refl s
  · exact .refl s

theorem runRemoteLock_kept (n : StationId) (scope : Scope) (s : State) : Kept s (runRemoteLock n scope s).state := by
  unfold runRemoteLock
  simp only
  split
  · exact .refl s
  · rw [changeRoom, done_state]
    exact changeHolders_kept (.refl n s) _ _

theorem runRemoteUnlock_kept (n : StationId) (scope : Scope) (s : State) : Kept s (runRemoteUnlock n scope s).state := by
  unfold runRemoteUnlock
  simp only
  split
  · exact .refl s
  · rw [changeRoom, done_state]
    exact changeHolders_kept (.refl n s) _ _

theorem runStationResume_kept (params : List Byte) (s : State) : Kept s (runStationResume params s).state := by
  unfold runStationResume
  repeat' split
  · exact .refl s
  · exact .refl s
  · rw [done_state]
    exact (Edit.body _ s _).kept none
  · exact .refl s

theorem clearLogs_kept (p : StationId → Bool) (s : State) : Kept s (clearLogs p s) := by
  refine SensorReach.kept (.of_only (s.mapStations_only _) fun n => ?_)
  rw [clearLogs, State.mapStations_station]
  split <;> rfl

theorem runClipLogClear_kept (params : List Byte) (s : State) : Kept s (runClipLogClear params s).state := by
  unfold runClipLogClear
  repeat' split
  · exact clearLogs_kept _ s
  · exact clearLogs_kept _ s
  · exact .refl s
  · exact .refl s

theorem runScanStart_kept (params : List Byte) (s : State) : Kept s (runScanStart params s).state := by
  unfold runScanStart
  split
  · split
    · exact .refl s
    · split
      · exact .refl s
      · rw [done_state]
        exact SensorReach.kept (.trans (updScanner_reach s _) (beginPass_reach _))
  · exact .refl s

theorem runSlotSubstitute_kept (params : List Byte) (s : State) : Kept s (runSlotSubstitute params s).state := by
  have hrun : ∀ (i : SlotId) (v : Int) (life : Nat), Kept s (runSubstitute i v life s).state := fun i v life => by
    unfold runSubstitute
    simp only
    generalize (if life = 0 then s.settings.timing.substituteLife else life) = span
    repeat' split
    · exact .refl s
    · exact .refl s
    · exact .refl s
    · rw [done_state]
      exact (substitute_reach i v span s).kept
  unfold runSlotSubstitute
  repeat' split
  · exact .refl s
  · exact .refl s
  · exact hrun _ _ _

theorem runSlotRestore_kept (params : List Byte) (s : State) : Kept s (runSlotRestore params s).state := by
  unfold runSlotRestore
  repeat' split
  · exact .refl s
  · exact .refl s
  · exact .refl s
  · exact (retire_reach _ _ _ s).kept
  · exact (retire_reach _ _ _ s).kept
  · exact .refl s

theorem runFaultRead_kept (s : State) : Kept s (runFaultRead s).state := by
  have h : SensorReach s { s with faults := s.faults.markSeen, freeCount := s.freeCount + 8 * faultBody } :=
    .of_same rfl rfl rfl rfl rfl id
  exact h.kept

theorem withFaults_kept (s : State) (t : FaultTable) : Kept s { s with faults := t } :=
  (SensorReach.of_same rfl rfl rfl rfl rfl id : SensorReach s { s with faults := t }).kept

theorem runFaultClear_kept (params : List Byte) (s : State) : Kept s (runFaultClear params s).state := by
  unfold runFaultClear clearEntry clearOverflow
  repeat' split
  all_goals first | exact .refl s | exact withFaults_kept s _

theorem runAlertAck_kept (params : List Byte) (s : State) : Kept s (runAlertAck params s).state := by
  unfold runAlertAck
  repeat' split
  · exact (SensorReach.of_same rfl rfl rfl rfl rfl id :
      SensorReach s { s with attention := { s.attention with latched := none } }).kept
  · exact .refl s
  · exact .refl s

theorem runZoneFaultClear_kept (params : List Byte) (s : State) : Kept s (runZoneFaultClear params s).state := by
  unfold runZoneFaultClear
  repeat' split
  · exact .refl s
  · exact .refl s
  · exact (clearZone_reach _ _ s).kept
  · exact .refl s

theorem runMeltModeSet_kept (params : List Byte) (s : State) : Kept s (runMeltModeSet params s).state := by
  unfold runMeltModeSet
  repeat' split
  · exact .refl s
  · simp only
    rw [done_state]
    refine SensorReach.kept (.trans ?_ (evalCondition_reach _))
    exact .of_same rfl rfl rfl rfl rfl id
  · exact .refl s

theorem readTable_kept (table first count : Nat) (s : State) : Kept s (readTable table first count s).state := by
  unfold readTable
  split <;> exact .refl s

theorem runTableRead_kept (params : List Byte) (s : State) : Kept s (runTableRead params s).state := by
  unfold runTableRead
  split
  · exact readTable_kept _ _ _ s
  · exact .refl s

theorem runStationRead_kept (params : List Byte) (s : State) : Kept s (runStationRead params s).state := by
  unfold runStationRead
  repeat' split
  all_goals exact .refl s

/-! ### Every command -/

/-- An event that is only examined, and changes no stow. -/
theorem Kept.examine {s x : State} (h : Kept s x) (hs : x.stowActive = s.stowActive) : Laws s (examine x) :=
  (h.laws hs).trans (examine_laws x)

theorem Laws.refl (s : State) : Laws s s := ⟨id, id, id, id, id, id⟩

theorem Laws.of_due {s t : State} {due : Bool} (h : due = true → Laws s t) : Laws s (if due then t else s) := by
  split
  · next hdue => exact h hdue
  · exact .refl s

theorem takeBatch_stowActive (es : List BatchEntry) (s : State) : (takeBatch es s).stowActive = s.stowActive := by
  unfold takeBatch runBatch
  split
  · exact (recordFault_ports _ _ _ s).only.stowActive
  · split
    · exact (OnlyStations.foldl overrideEntry_only es s).stowActive
    · exact ((OnlyPorts.foldl offerGrant_ports _ _).only.stowActive.trans (allocate_allocated .batch _).stow).trans
        ((OnlyStations.foldl handleEntry_only es s).trans (OnlyStations.foldl refreshDemand_only stationIds _)).stowActive

theorem runStowRefresh_stowActive (s : State) : (runStowRefresh s).stowActive = s.stowActive :=
  ((OnlyStations.foldl (offerStow_only _) _ _).stowActive.trans (allocate_allocated .stow _).stow).trans
    (writeStowDemand_only s).stowActive

theorem stowRefreshExpiry_laws {s : State} (h : s.wind.refresh.isSome = true) :
    Laws s (examine (runStowRefresh
      { s with wind := { s.wind with refresh := some (s.timer s.settings.timing.stowRefresh) } })) := by
  have hrefresh : Kept s { s with wind := { s.wind with refresh := some (s.timer s.settings.timing.stowRefresh) } } :=
    ⟨fun _ => id, fun _ => id, h.symm, id, id, id, id⟩
  exact (hrefresh.trans (runStowRefresh_kept _) rfl).examine (runStowRefresh_stowActive _)

theorem routeCabinet_stowActive (f : CabinetFrame) (s : State) : (routeCabinet f s).stowActive = s.stowActive := by
  unfold routeCabinet
  split
  · exact (OnlyPorts.foldl (fun s n => offer_ports n (.cabinetData f) s) stationIds s).only.stowActive
  · split
    · exact (offer_ports _ _ s).only.stowActive
    · split
      · exact (recordFault_ports _ _ _ s).only.stowActive
      · rfl

theorem dropUnhandled_kept (link : RxLink) (f : Frame) (s : State) :
    Kept s (dropUnhandled link f s) ∧ (dropUnhandled link f s).stowActive = s.stowActive := by
  unfold dropUnhandled
  split
  · split
    · exact ⟨(recordFault_reach _ _ _ s).kept, (recordFault_ports _ _ _ s).only.stowActive⟩
    · exact ⟨.refl s, rfl⟩
  · exact ⟨(goodFrame_kept _ s).trans (recordFault_reach _ _ _ _).kept (goodFrame_only _ s).stowActive,
      (recordFault_ports _ _ _ _).only.stowActive.trans (goodFrame_only _ s).stowActive⟩
  · exact ⟨(recordFault_reach _ _ _ s).kept, (recordFault_ports _ _ _ s).only.stowActive⟩

theorem upstreamFrameEnd_laws (s : State) : Laws s (departUp { s with upTx := none }) := by
  have hdepart : Laws { s with upTx := none } (departUp { s with upTx := none }) := by
    refine .of_same ?_ ?_ ?_ ?_ ?_ departUp_upstream <;> unfold departUp <;> split <;> rfl
  exact (Laws.of_same rfl rfl rfl rfl rfl id : Laws s { s with upTx := none }).trans hdepart

theorem precipHoldExpiry_reach (s : State) :
    SensorReach s (evalCondition { s with melt := { s.melt with hold := none } }) :=
  (SensorReach.of_same rfl rfl rfl rfl rfl id : SensorReach s { s with melt := { s.melt with hold := none } }).trans
    (evalCondition_reach _)

theorem saveCompletion_laws (s : State) : Laws s (if s.store.state = .saving then examine (completeSave s) else s) := by
  split
  · exact (Laws.of_same rfl rfl rfl rfl rfl id : Laws s (completeSave s)).trans (examine_laws _)
  · exact .refl s

theorem warmReset_laws (tag : Byte) (params : List Byte) (strap : Byte) (s : State) :
    Laws s (if s.upstreamShort || params != [] then manage tag 0x19 (refuse .badRequest) s else warm strap s) := by
  split
  · exact manage_laws tag _ (fun u => .refl u) s
  · exact warm_laws strap s

theorem stormLevel_kept (asserted : Bool) (s : State) : Kept s (stormLevel asserted s) :=
  ⟨fun _ => id, fun _ => id, rfl, fun h => ⟨h.1, rfl⟩, id, id, id⟩

end Sys2Proof.Machine
end

section
/-! SUPPORT. The laws that every step keeps: the motion of what waits, the soft limits, the queues and the stow (O8, O9, O11,
O12). -/

namespace Sys2Proof.Machine

/-- Every command keeps every law that holds before it. -/
theorem exec_laws (c : Instr) {s t : State} (h : exec c s = .next t) : Laws s t := by
  cases c with
  | powerOnReset strap storm fails => obtain rfl := Host.Outcome.next.inj h; exact powerOn_laws strap storm fails s
  | stormInputChange asserted => obtain rfl := Host.Outcome.next.inj h; exact (stormLevel_kept asserted s).closeEvent
  | pointingBatch es => obtain rfl := Host.Outcome.next.inj h; exact (takeBatch_kept es s).examine (takeBatch_stowActive es s)
  | cabinetDataFromUpstream f =>
    obtain rfl := Host.Outcome.next.inj h; exact (routeCabinet_kept f s).examine (routeCabinet_stowActive f s)
  | telemetry n f => obtain rfl := Host.Outcome.next.inj h; exact (takeTelemetry_kept n f s).closeEvent
  | lock n b sc => obtain rfl := Host.Outcome.next.inj h; exact (takeLock_kept (.goodFrame n s) b sc).closeEvent
  | unlock n b sc => obtain rfl := Host.Outcome.next.inj h; exact (takeUnlock_kept (.goodFrame n s) b sc).closeEvent
  | lockReport n es => obtain rfl := Host.Outcome.next.inj h; exact (handleReport_kept n es s).closeEvent
  | cabinetDataFromStation n f =>
    obtain rfl := Host.Outcome.next.inj h
    exact (((goodFrame_kept n s).laws (goodFrame_only n s).stowActive).trans (offerUp_laws _ _)).trans (examine_laws _)
  | reading address raw => obtain rfl := Host.Outcome.next.inj h; exact (takeSensorFrame_reach address _ s).kept.closeEvent
  | stationFrameEnd n =>
    obtain rfl := Host.Outcome.next.inj h
    exact (stationFrameEnd_kept n s).laws (((State.updStation_only s n _).trans (depart_ports n _).only).stowActive)
  | upstreamFrameEnd => obtain rfl := Host.Outcome.next.inj h; exact upstreamFrameEnd_laws s
  | livenessDeadlineExpiry n =>
    change execLivenessDeadlineExpiry n s = _ at h
    unfold execLivenessDeadlineExpiry at h
    split at h <;> obtain rfl := Host.Outcome.next.inj h
    · exact .refl s
    · exact .of_due fun _ => (loseLink_kept n _ s).closeEvent
  | freshnessExpiry n =>
    obtain rfl := Host.Outcome.next.inj h
    exact .of_due fun _ => (freshnessExpiry_kept n s).examine
      (((s.updStation_only n goStale).trans (offerStop_ports n _).only).trans (setClip_only n _ _)).stowActive
  | clearingExpiry n =>
    obtain rfl := Host.Outcome.next.inj h
    exact .of_due fun hdue => (endClearing_kept (timerDue_isSome hdue)).closeEvent
  | warnExpiry n =>
    obtain rfl := Host.Outcome.next.inj h
    exact .of_due fun hdue => (warnExpiry_kept (timerDue_isSome hdue)).examine
      ((offer_ports n _ s).only.trans (enterMoving_only n _)).stowActive
  | stowRefreshExpiry =>
    obtain rfl := Host.Outcome.next.inj h
    exact .of_due fun hdue => stowRefreshExpiry_laws (timerDue_isSome hdue)
  | stowTimeoutExpiry n =>
    obtain rfl := Host.Outcome.next.inj h
    exact .of_due fun _ => (stowTimeoutExpiry_kept n _ s).examine (recordFault_ports _ _ _ _).only.stowActive
  | holdDownExpiry => obtain rfl := Host.Outcome.next.inj h; exact .of_due fun _ => (stepDown_reach s).kept.closeEvent
  | blindTimerExpiry => obtain rfl := Host.Outcome.next.inj h; exact .of_due fun _ => (goBlind_reach s).kept.closeEvent
  | transactionDeadlineExpiry =>
    change execTransactionDeadlineExpiry s = _ at h
    unfold execTransactionDeadlineExpiry at h
    split at h <;> obtain rfl := Host.Outcome.next.inj h
    · exact .refl s
    · exact .of_due fun _ => (expireTransaction_reach _ s).kept.closeEvent
  | passGapExpiry => obtain rfl := Host.Outcome.next.inj h; exact .of_due fun _ => (beginPass_reach s).kept.closeEvent
  | substituteLifeExpiry i =>
    change execSubstituteLifeExpiry i s = _ at h
    unfold execSubstituteLifeExpiry at h
    split at h <;> obtain rfl := Host.Outcome.next.inj h
    · exact .refl s
    · exact .of_due fun _ => (loseSlot_reach i 2 s).kept.closeEvent
  | precipHoldExpiry => obtain rfl := Host.Outcome.next.inj h; exact .of_due fun _ => (precipHoldExpiry_reach s).kept.closeEvent
  | minOnExpiry n z =>
    obtain rfl := Host.Outcome.next.inj h
    exact .of_due fun _ => ((updZone_reach s n z _).trans (evalWant_reach n z _)).kept.closeEvent
  | minOffExpiry n z =>
    obtain rfl := Host.Outcome.next.inj h
    exact .of_due fun _ => ((updZone_reach s n z _).trans (evalWant_reach n z _)).kept.closeEvent
  | mismatchDeadlineExpiry n z =>
    obtain rfl := Host.Outcome.next.inj h; exact .of_due fun _ => (failContactor_reach n z s).kept.closeEvent
  | saveCompletion => obtain rfl := Host.Outcome.next.inj h; exact saveCompletion_laws s
  | statusRead tag params => obtain rfl := Host.Outcome.next.inj h; exact manage_laws tag _ (fun u => bare_kept params (.refl u)) s
  | stationRead tag params => obtain rfl := Host.Outcome.next.inj h; exact manage_laws tag _ (runStationRead_kept params) s
  | identify tag params => obtain rfl := Host.Outcome.next.inj h; exact manage_laws tag _ (fun u => bare_kept params (.refl u)) s
  | tableRead tag params => obtain rfl := Host.Outcome.next.inj h; exact manage_laws tag _ (runTableRead_kept params) s
  | tableWrite tag params => obtain rfl := Host.Outcome.next.inj h; exact manage_laws tag _ (runTableWrite_kept params) s
  | envelopeApply tag params => obtain rfl := Host.Outcome.next.inj h; exact manage_laws tag _ (runEnvelopeApply_kept params) s
  | envelopeClearAll tag params =>
    obtain rfl := Host.Outcome.next.inj h; exact manage_laws tag _ (fun u => bare_kept params (runEnvelopeClearAll_kept u)) s
  | lockdownSet tag params =>
    obtain rfl := Host.Outcome.next.inj h; exact manage_laws tag _ (fun u => bare_kept params (runLockdownSet_kept u)) s
  | settingsSave tag params =>
    obtain rfl := Host.Outcome.next.inj h; exact manage_laws tag _ (fun u => bare_kept params (runSettingsSave_kept u)) s
  | stowRequest tag params =>
    obtain rfl := Host.Outcome.next.inj h; exact manage_laws tag _ (fun u => bare_kept params (setManual_kept true u)) s
  | stowRelease tag params =>
    obtain rfl := Host.Outcome.next.inj h; exact manage_laws tag _ (fun u => bare_kept params (setManual_kept false u)) s
  | remoteLock tag params =>
    obtain rfl := Host.Outcome.next.inj h
    exact manage_laws tag _ (fun u => withClaim_kept params fun n sc => runRemoteLock_kept n sc u) s
  | remoteUnlock tag params =>
    obtain rfl := Host.Outcome.next.inj h
    exact manage_laws tag _ (fun u => withClaim_kept params fun n sc => runRemoteUnlock_kept n sc u) s
  | stationResume tag params => obtain rfl := Host.Outcome.next.inj h; exact manage_laws tag _ (runStationResume_kept params) s
  | scanStart tag params => obtain rfl := Host.Outcome.next.inj h; exact manage_laws tag _ (runScanStart_kept params) s
  | scanStop tag params =>
    obtain rfl := Host.Outcome.next.inj h
    exact manage_laws tag _ (fun u => bare_kept params (updScanner_reach u Scanner.stopped).kept) s
  | slotSubstitute tag params => obtain rfl := Host.Outcome.next.inj h; exact manage_laws tag _ (runSlotSubstitute_kept params) s
  | slotRestore tag params => obtain rfl := Host.Outcome.next.inj h; exact manage_laws tag _ (runSlotRestore_kept params) s
  | faultRead tag params =>
    obtain rfl := Host.Outcome.next.inj h; exact manage_laws tag _ (fun u => bare_kept params (runFaultRead_kept u)) s
  | faultClear tag params => obtain rfl := Host.Outcome.next.inj h; exact manage_laws tag _ (runFaultClear_kept params) s
  | alertAck tag params => obtain rfl := Host.Outcome.next.inj h; exact manage_laws tag _ (runAlertAck_kept params) s
  | clipLogClear tag params => obtain rfl := Host.Outcome.next.inj h; exact manage_laws tag _ (runClipLogClear_kept params) s
  | zoneFaultClear tag params => obtain rfl := Host.Outcome.next.inj h; exact manage_laws tag _ (runZoneFaultClear_kept params) s
  | meltModeSet tag params => obtain rfl := Host.Outcome.next.inj h; exact manage_laws tag _ (runMeltModeSet_kept params) s
  | warmReset tag params strap => obtain rfl := Host.Outcome.next.inj h; exact warmReset_laws tag params strap s
  | receivedFrameFailingChecks link bytes byteError =>
    obtain rfl := Host.Outcome.next.inj h
    exact (recordFault_reach _ _ _ s).kept.examine (recordFault_ports _ _ _ s).only.stowActive
  | goodFrameOfUnhandledKind link f =>
    obtain rfl := Host.Outcome.next.inj h
    exact (dropUnhandled_kept link f s).1.examine (dropUnhandled_kept link f s).2
  | unknownRequestCode tag code params => obtain rfl := Host.Outcome.next.inj h; exact manage_laws tag code (fun u => .refl u) s
  | millisecondCountAdvance => obtain rfl := Host.Outcome.next.inj h; exact .of_same rfl rfl rfl rfl rfl id

theorem step_laws {s t : State} (h : step s = .next t) : Laws s t := by
  unfold step at h
  split at h
  · obtain rfl := Host.Outcome.next.inj h
    exact .refl s
  · next c rest _ =>
    have hqueue : Laws s { s with pending := rest } := .of_same rfl rfl rfl rfl rfl id
    exact hqueue.trans (exec_laws c h)

/-- Settles O8: every command keeps `Kept.motion` up to its end, and the stow decision ends or freezes motion. -/
theorem motionLawKept : Obligations.MotionLawKept := fun _ _ hs h => (step_laws h).motion hs

/-- Settles O9: what is offered is clamped when its demand is taken, refreshed or written, and when an envelope is applied. -/
theorem softLimitLawKept : Obligations.SoftLimitLawKept := fun _ _ hs h => (step_laws h).limits hs

/-- Settles O11: every admission keeps the law of its queue, and a DOWN link admits nothing. -/
theorem queueLawsKept : Obligations.QueueLawsKept := fun _ _ h => ⟨(step_laws h).queues, (step_laws h).upstream⟩

/-- Settles O12: WIND and STORM_LINE go with the level and the input; activation and release set the rest. -/
theorem stowLawsKept : Obligations.StowLawsKept := fun _ _ h => ⟨(step_laws h).causes, (step_laws h).stow⟩

end Sys2Proof.Machine
end

section
/-! SUPPORT. Frames toward the cabinets and cabinet data in both directions: what a departure composes and what an offer and a
good frame leave (O26, O33). -/

namespace Sys2Proof.Machine

/-! ### Records and updates -/

/-- Records of one body differ by no more than a departure writes. -/
theorem SameBody.sameButPort {a b : Station} (h : SameBody a b) : a.sameButPort b := by
  refine ⟨?_, fun z => ?_⟩
  · obtain ⟨h1, h2, h3, h4, h5, h6, h7, h8, h9, h10, h11, h12, h13, h14, h15, h16, h17, -, -, -, -, -⟩ := h
    cases a
    cases b
    simp only at h1 h2 h3 h4 h5 h6 h7 h8 h9 h10 h11 h12 h13 h14 h15 h16 h17
    subst h1 h2 h3 h4 h5 h6 h7 h8 h9 h10 h11 h12 h13 h14 h15 h16 h17
    rfl
  · obtain ⟨-, -, -, -, -, -, -, -, -, -, -, -, -, -, -, -, -, hstate, hon, hmin, hoff, hreason⟩ := h
    simp only
    rw [← hstate z, ← hon z, ← hmin z, ← hoff z, ← hreason z]

theorem State.updStation_congr {s : State} {n : StationId} {f g : Station → Station} (h : f (s.station n) = g (s.station n)) :
    s.updStation n f = s.updStation n g := by
  unfold State.updStation
  change { s with stations := s.stations.set n (f (s.station n)) } = { s with stations := s.stations.set n (g (s.station n)) }
  rw [h]

/-- An offer that the check lets through and that evicts no LOCK_REPLY is an update of one record. -/
theorem offer_eq_updStation {n : StationId} {e : StationEntry} {s : State} (hc : checked n e s = e)
    (hl : lostReply (s.station n).queue e = none) : offer n e s = s.updStation n (Station.takes s.nodeAddress e) := by
  unfold offer
  rw [hc, admitEntry_eq, hl]
  split
  · next hup =>
    rw [reportLost_none, setQueue, depart_eq, State.updStation_updStation]
    exact State.updStation_congr (by simp [Station.takes, hup])
  · next hup =>
    exact (State.updStation_self s n _ (Station.takes_down (by simpa using hup))).symm

theorem lostReply_cabinetData (q : List StationEntry) (f : CabinetFrame) : lostReply q (.cabinetData f) = none := by
  unfold lostReply
  split
  · rfl
  · split <;> rfl

theorem lostReply_nil (e : StationEntry) : lostReply [] e = none := lostReply_of_room (by simp)

theorem offer_cabinetData (n : StationId) (f : CabinetFrame) (s : State) :
    offer n (.cabinetData f) s = s.updStation n (Station.takes s.nodeAddress (.cabinetData f)) :=
  offer_eq_updStation rfl (lostReply_cabinetData _ f)

theorem admitted_cabinetData (q : List StationEntry) (f : CabinetFrame) :
    admitted q (.cabinetData f) = if q.length < 8 then q ++ [.cabinetData f] else q := by
  simp [admitted, EntryKind.superseding, Config.stationQueueSize]

theorem admitted_nil (e : StationEntry) : admitted [] e = [e] := by simp [admitted, Config.stationQueueSize]

/-! ### Departures (R33, R34) -/

/-- Bit z of the mask of the zones that are ON is that of zone z. -/
theorem onMaskOf_getLsbD (st : Station) (z : ZoneNum) :
    (onMaskOf st).getLsbD z.val = ((st.zones.get z).state == .on) := by
  have hbits : ∀ a b c d : Bool, ∀ z : Fin 4,
      (BitVec.ofNat 4 [if a then 2 ^ 0 else 0, if b then 2 ^ 1 else 0, if c then 2 ^ 2 else 0, if d then 2 ^ 3 else 0].sum).getLsbD
        z.val = [a, b, c, d].getD z.val false := by decide
  have h := hbits ((st.zones.get 0).state == .on) ((st.zones.get 1).state == .on) ((st.zones.get 2).state == .on)
    ((st.zones.get 3).state == .on) z
  refine Eq.trans h ?_
  match z with
  | 0 | 1 | 2 | 3 => rfl

theorem cancelChanged_mismatch {old new : BitVec 4} {zones : Tab 4 Zone} {z : ZoneNum} (h : new.getLsbD z.val ≠ old.getLsbD z.val) :
    ((cancelChanged old new zones).get z).mismatch = none := by
  rw [cancelChanged, Tab.get_ofFn, if_neg (Ne.symm h)]

/-- The frame that an entry other than a HEAT marker becomes (R34). -/
def StationEntry.frame (node : Byte) : StationEntry → Option StationFrame
  | .setpoint sp => some (.setpoint sp)
  | .heat => none
  | .horn on => some (.horn on)
  | .pin inward => some (.pin inward)
  | .linkUp => some (.linkUp node)
  | .lockReply r => some (.lockReply r)
  | .cabinetData f => some (.cabinetData f)

theorem Station.sends_tx {node : Byte} {e : StationEntry} {frame : StationFrame} (st : Station) (h : e.frame node = some frame) :
    (st.sends node e).tx = some frame := by
  cases e <;> first | exact h | exact absurd h (by simp [StationEntry.frame])

/-- A departure changes the body of no record. -/
theorem Station.sends_same (node : Byte) (e : StationEntry) (st : Station) : SameBody st (st.sends node e) := by
  cases e with
  | heat =>
    constructor <;> first
      | rfl
      | (intro z
         simp only [sends, cancelChanged, Tab.get_ofFn]
         split <;> rfl)
  | setpoint _ | horn _ | pin _ | linkUp | lockReply _ | cabinetData _ =>
    constructor <;> first | rfl | exact fun _ => rfl

/-- The end of a frame toward a cabinet: the transmitter is idle, and the head of the queue leaves (R33). -/
theorem stationFrameEnd_eq {n : StationId} {e : StationEntry} {rest : List StationEntry} {s : State}
    (hup : (s.station n).link.isUp = true) (hq : (s.station n).queue = e :: rest) :
    exec (.stationFrameEnd n) s
      = .next (s.updStation n fun st => { st with tx := none, queue := rest }.sends s.nodeAddress e) := by
  change Host.Outcome.next (depart n (s.updStation n fun st => { st with tx := none })) = _
  rw [depart_eq, State.updStation_updStation]
  exact congrArg _ (State.updStation_congr (by simp [Station.departs, hup, hq]))

/-- Settles O33: the head is composed from the record as it stands at its departure. -/
theorem frameEnds : Obligations.FrameEnds := by
  refine ⟨fun n e rest s hup hq => ?_, fun n s hq => ?_, fun e rest s hq => ?_, fun s hq => ?_⟩
  case refine_1 =>
    refine ⟨_, stationFrameEnd_eq hup hq, rfl, fun m hm => by rw [State.updStation_station, if_neg hm], ?_⟩
    have hzone : ∀ z, (s.updStation n fun st => { st with tx := none, queue := rest }.sends s.nodeAddress e).zone n z
        = (({ s.station n with tx := none, queue := rest }.sends s.nodeAddress e).zones.get z) := fun z => by
      unfold State.zone
      rw [State.updStation_station, if_pos rfl]
    simp only [State.updStation_station, if_true, hzone]
    have hframe := fun frame => Station.sends_tx (node := s.nodeAddress) (e := e) (frame := frame)
      { s.station n with tx := none, queue := rest }
    have hbody : SameBody (s.station n) ({ s.station n with tx := none, queue := rest }.sends s.nodeAddress e) := by
      refine SameBody.trans ?_ (Station.sends_same _ _ _)
      constructor <;> first | rfl | exact fun _ => rfl
    refine ⟨Station.sends_queue _ _ _, hbody.sameButPort, ?_, ?_, fun on he => hframe _ (by rw [he]; rfl),
      fun inward he => hframe _ (by rw [he]; rfl), fun he => hframe _ (by rw [he]; rfl), fun r he => hframe _ (by rw [he]; rfl),
      fun f he => hframe _ (by rw [he]; rfl)⟩
    · rintro sp rfl
      exact ⟨rfl, rfl⟩
    · rintro rfl
      refine ⟨onMaskOf { s.station n with tx := none, queue := rest }, rfl, rfl, fun z => ⟨?_, fun h => cancelChanged_mismatch h⟩⟩
      rw [onMaskOf_getLsbD]
      exact beq_iff_eq
  case refine_2 =>
    change Host.Outcome.next (depart n (s.updStation n fun st => { st with tx := none })) = _
    rw [depart_eq, State.updStation_self]
    simp [Station.departs, hq]
  case refine_3 =>
    change Host.Outcome.next (departUp { s with upTx := none }) = _
    simp [departUp, hq]
  case refine_4 =>
    change Host.Outcome.next (departUp { s with upTx := none }) = _
    simp [departUp, hq]

end Sys2Proof.Machine
end

section
/-! SUPPORT. Good frames of a cabinet, what an event leaves outside one station's record, and cabinet data in both directions
(O26). -/

namespace Sys2Proof.Machine

/-! ### What stands outside one record -/

theorem examine_stations (s : State) : (examine s).stations = s.stations := by rw [examine_eq]

theorem offerUp_station (e : UpEntry) (s : State) (n : StationId) : (offerUp e s).station n = s.station n := by
  rw [offerUp_eq]
  rfl

/-- An event that reaches one record, the Fault Table and the attention unit, then the upstream port. -/
theorem State.sameOutside.of_only {n : StationId} {s x : State} (h : OnlyStations s x)
    (hother : ∀ m, m ≠ n → x.station m = s.station m) : s.sameOutside n (examine x) := by
  refine ⟨?_, fun m hm => (examine_station x m).trans (hother m hm)⟩
  rw [examine_eq]
  obtain ⟨h1, h2, h3, h4, h5, h6, h7, h8, h9, h10, h11, h12, h13, h14, h15, -, -, h18, h19⟩ := h
  cases s
  cases x
  simp only at h1 h2 h3 h4 h5 h6 h7 h8 h9 h10 h11 h12 h13 h14 h15 h18 h19
  subst h1 h2 h3 h4 h5 h6 h7 h8 h9 h10 h11 h12 h13 h14 h15 h18 h19
  rfl

/-- The same with an entry offered upstream before the end of the event. -/
theorem State.sameOutside.of_only_offerUp {n : StationId} {s x : State} (e : UpEntry) (h : OnlyStations s x)
    (hother : ∀ m, m ≠ n → x.station m = s.station m) : s.sameOutside n (examine (offerUp e x)) := by
  refine ⟨?_, fun m hm => ?_⟩
  · rw [examine_eq, offerUp_eq]
    obtain ⟨h1, h2, h3, h4, h5, h6, h7, h8, h9, h10, h11, h12, h13, h14, h15, -, -, h18, h19⟩ := h
    cases s
    cases x
    simp only at h1 h2 h3 h4 h5 h6 h7 h8 h9 h10 h11 h12 h13 h14 h15 h18 h19
    subst h1 h2 h3 h4 h5 h6 h7 h8 h9 h10 h11 h12 h13 h14 h15 h18 h19
    rfl
  · rw [examine_station, offerUp_station, hother m hm]

/-! ### The upstream port (R39) -/

/-- While the transmitter is sending, an entry offered is queued where it may be. -/
theorem offerUp_sending {e : UpEntry} {s : State} (h : s.upTx.isSome = true) :
    (offerUp e s).upTx = s.upTx ∧ (offerUp e s).upQueue = admitUp s.upQueue e := by
  obtain ⟨x, hx⟩ := Option.isSome_iff_exists.mp h
  simp [offerUp, departUp, hx]

/-- On an idle transmitter the head of the queue leaves at once. -/
theorem offerUp_idle {e : UpEntry} {s : State} (h : s.upTx = none) :
    (offerUp e s).upTx = (admitUp s.upQueue e).head? ∧ (offerUp e s).upQueue = (admitUp s.upQueue e).tail := by
  unfold offerUp departUp
  rw [h]
  cases admitUp s.upQueue e <;> simp

theorem admitUp_cabinetData (q : List UpEntry) (f : CabinetFrame) :
    admitUp q (.cabinetData f) = if q.length ≤ 27 then q ++ [.cabinetData f] else q := by
  simp only [admitUp, Config.upstreamThreshold, Nat.lt_succ_iff]

/-! ### Good frames (R4, R5) -/

/-- A station's link up from now, with the full timeout. -/
theorem goodFrame_up {n : StationId} {s : State} (h : (s.station n).link.isUp = true) :
    goodFrame n s = s.updStation n fun st => { st with link := .up (s.timer s.settings.timing.linkTimeout) } := by
  simp [goodFrame, h]

/-- The first good frame of a DOWN link: LINK_UP departs and the HEAT marker waits (R5, R33). -/
theorem goodFrame_away {n : StationId} {s : State} (hl : (s.station n).link.isUp = false) (hq : (s.station n).queue = [])
    (htx : (s.station n).tx = none) :
    goodFrame n s = s.updStation n fun st => { st with
      link := .up (s.timer s.settings.timing.linkTimeout), tx := some (.linkUp s.nodeAddress), queue := [.heat] } := by
  have hfirst : offer n .linkUp (s.updStation n fun st => { st with link := .up (s.timer s.settings.timing.linkTimeout) })
      = s.updStation n fun st => { st with
        link := .up (s.timer s.settings.timing.linkTimeout), tx := some (.linkUp s.nodeAddress) } := by
    rw [offer_eq_updStation rfl (by simp [hq, lostReply_nil]), State.updStation_updStation]
    exact State.updStation_congr (Station.takes_idle (st := { s.station n with link := .up _ }) rfl htx hq)
  unfold goodFrame
  simp only [hl, Bool.false_eq_true, if_false]
  rw [hfirst, offer_eq_updStation rfl (by simp [hq, lostReply_nil]), State.updStation_updStation]
  refine State.updStation_congr ((Station.takes_sending (st := { s.station n with link := .up _, tx := some _ }) rfl rfl).trans ?_)
  simp only [hq, admitted_nil]

/-! ### Cabinet data (R41, R44) -/

theorem stationOfAddress_stationAddress (n : StationId) : stationOfAddress (stationAddress n) = some n := by
  revert n; decide

theorem stationAddress_ne_broadcast (n : StationId) : stationAddress n ≠ broadcastAddress := by
  revert n; decide

/-- Data for one cabinet is offered to its station. -/
theorem exec_cabinetDataFromUpstream {f : CabinetFrame} {n : StationId} {s : State} (hr : s.restLaw)
    (hf : f.dest = stationAddress n) :
    exec (.cabinetDataFromUpstream f) s = .next (s.updStation n (Station.takes s.nodeAddress (.cabinetData f))) := by
  change Host.Outcome.next (examine (routeCabinet f s)) = _
  have hroute : routeCabinet f s = s.updStation n (Station.takes s.nodeAddress (.cabinetData f)) := by
    unfold routeCabinet
    rw [hf, if_neg (stationAddress_ne_broadcast n), stationOfAddress_stationAddress]
    exact offer_cabinetData n f s
  rw [hroute]
  exact congrArg _ (examine_settled hr.1)

/-- Data for several cabinets, each named once, is offered to each. -/
theorem foldl_offer_cabinetData (f : CabinetFrame) (l : List StationId) (hl : l.Nodup) (s : State) :
    (l.foldl (fun s n => offer n (.cabinetData f) s) s)
        = { s with stations := (l.foldl (fun s n => offer n (.cabinetData f) s) s).stations }
      ∧ ∀ m, (l.foldl (fun s n => offer n (.cabinetData f) s) s).station m
        = if m ∈ l then (s.station m).takes s.nodeAddress (.cabinetData f) else s.station m := by
  induction l generalizing s with
  | nil => exact ⟨rfl, fun m => by simp⟩
  | cons n l ih =>
    obtain ⟨hn, hnodup⟩ := List.nodup_cons.mp hl
    simp only [List.foldl_cons]
    rw [offer_cabinetData]
    obtain ⟨hrest, hstation⟩ := ih hnodup (s.updStation n (Station.takes s.nodeAddress (.cabinetData f)))
    refine ⟨hrest.trans rfl, fun m => ?_⟩
    rw [hstation m, State.updStation_station]
    by_cases hm : m = n
    · subst hm; simp [hn]
    · simp [hm]

/-- What an offer of cabinet data leaves of a record, by the state of its port (R7, R33, R37). -/
theorem takes_cabinetData (node : Byte) (f : CabinetFrame) (st : Station) :
    (st.link.isUp = false → st.takes node (.cabinetData f) = st)
      ∧ (st.link.isUp = true → st.tx.isSome = true → st.queue.length < 8 →
          st.takes node (.cabinetData f) = { st with queue := st.queue ++ [.cabinetData f] })
      ∧ (st.link.isUp = true → st.tx.isSome = true → 8 ≤ st.queue.length → st.takes node (.cabinetData f) = st)
      ∧ (st.link.isUp = true → st.tx = none → st.queue = [] →
          st.takes node (.cabinetData f) = { st with tx := some (.cabinetData f) }) := by
  refine ⟨Station.takes_down, fun hup htx hlen => ?_, fun hup htx hlen => ?_, fun hup htx hq => Station.takes_idle hup htx hq⟩
  · rw [Station.takes_sending hup htx, admitted_cabinetData, if_pos hlen]
  · rw [Station.takes_sending hup htx, admitted_cabinetData, if_neg (by omega)]

theorem Link.isUp_of_down {l : Link} (h : l = .down) : l.isUp = false := by rw [h]; rfl

/-- What cabinet data from a cabinet leaves upstream and outside its record, given what its good frame leaves. -/
theorem cabinetData_up {f : CabinetFrame} {n : StationId} {s : State} (hr : s.restLaw) (g : Station → Station)
    (hg : goodFrame n s = s.updStation n g) :
    completes (exec (.cabinetDataFromStation n f) s) fun t =>
      s.sameOutside n t ∧ t.station n = g (s.station n)
        ∧ (s.upTx.isSome = true → t.upTx = s.upTx
            ∧ t.upQueue = if s.upQueue.length ≤ 27 then s.upQueue ++ [.cabinetData f] else s.upQueue)
        ∧ (s.upTx = none → s.upQueue = [] → t.upTx = some (.cabinetData f) ∧ t.upQueue = []) := by
  refine ⟨examine (offerUp (.cabinetData f) (goodFrame n s)), rfl, ?_, ?_, fun htx => ?_, fun htx hq => ?_⟩
  · exact .of_only_offerUp _ (goodFrame_only n s) fun m => goodFrame_station_ne n m s
  · rw [examine_station, offerUp_station, hg, State.updStation_station, if_pos rfl]
  all_goals rw [hg, examine_settled (by rw [offerUp_attention]; exact hr.1)]
  · rw [← admitUp_cabinetData]
    exact offerUp_sending (s := s.updStation n g) htx
  · obtain ⟨h1, h2⟩ := offerUp_idle (e := .cabinetData f) (s := s.updStation n g) htx
    rw [h1, h2, State.updStation_upQueue, hq, admitUp_cabinetData]
    exact ⟨rfl, rfl⟩

/-- Settles O26: an offer of cabinet data evicts nothing, so it is an update of one record for each cabinet addressed. -/
theorem cabinetDataForwarded : Obligations.CabinetDataForwarded := by
  intro f n s hr
  obtain ⟨hdown, hroom, hfull, hidle⟩ := takes_cabinetData s.nodeAddress f (s.station n)
  refine ⟨fun hf => ?_, fun hf => ?_, fun hup => cabinetData_up hr _ (goodFrame_up hup), fun hl hq htx =>
    cabinetData_up hr _ (goodFrame_away (Link.isUp_of_down hl) hq htx)⟩
  · rw [exec_cabinetDataFromUpstream hr hf]
    refine ⟨fun hqueue hlen => ?_, fun hqueue hlen => ?_, fun hidling => ?_, fun hl => ?_⟩
    · exact congrArg _ (State.updStation_congr (hroom hqueue.1 hqueue.2 hlen))
    · rw [State.updStation_self _ _ _ (hfull hqueue.1 hqueue.2 hlen)]
    · exact congrArg _ (State.updStation_congr (hidle hidling.1 hidling.2.1 hidling.2.2))
    · rw [State.updStation_self _ _ _ (hdown (Link.isUp_of_down hl))]
  · obtain ⟨hrest, hstation⟩ := foldl_offer_cabinetData f stationIds nodup_stationIds s
    have hroute : routeCabinet f s = stationIds.foldl (fun s n => offer n (.cabinetData f) s) s := by
      unfold routeCabinet
      exact if_pos hf
    refine ⟨routeCabinet f s, congrArg _ (examine_settled ?_), ?_, fun m => ?_⟩
    · rw [hroute, hrest]
      exact hr.1
    · rw [hroute]
      exact hrest
    · have hm := hstation m
      rw [if_pos (mem_stationIds m)] at hm
      obtain ⟨hdown, hroom, hfull, hidle⟩ := takes_cabinetData s.nodeAddress f (s.station m)
      rw [hroute, hm]
      exact ⟨fun hl => hdown (Link.isUp_of_down hl), fun hqueue => hroom hqueue.1 hqueue.2, fun hqueue => hfull hqueue.1 hqueue.2,
        fun hidling => hidle hidling.1 hidling.2.1 hidling.2.2⟩

end Sys2Proof.Machine
end

section
/-! SUPPORT. What the end of an event sends upstream: the offered entry, then the ALERT of a cause that the event latches; and
the response of a request that changes neither the stow nor a zone (R39, R179, R182). -/

namespace Sys2Proof.Machine

/-! ### The ALERT behind what the event offered -/

/-- The examination adds to a sending upstream port the ALERT of the cause it latches, and nothing else. -/
theorem examine_withNews {s y : State} (hl : y.attention.latched = s.attention.latched) (htx : y.upTx.isSome = true) :
    (examine y).upTx = y.upTx ∧ (examine y).upQueue = s.withNews (examine y) y.upQueue := by
  cases hlatch : s.attention.latched with
  | some j =>
    have he : examine y = y := examine_settled fun h => absurd (h.symm.trans (hl.trans hlatch)) (by simp)
    rw [he]
    simp [State.withNews, hlatch]
  | none =>
    rw [hlatch] at hl
    cases hhigh : y.attention.raised.highest with
    | none =>
      have he : examine y = y := examine_settled fun _ => CauseSet.highest_eq_none.mp hhigh
      rw [he]
      simp [State.withNews, hlatch, hl]
    | some c =>
      have he : examine y = offerUp (.alert { cause := c, level := y.wind.level, causes := y.wind.causes, faultCount := y.faults.count })
          { y with attention := { raised := y.attention.raised.erase c, latched := some c } } := by
        unfold examine
        rw [hl, hhigh]
      obtain ⟨h1, h2⟩ := offerUp_sending
        (e := .alert { cause := c, level := y.wind.level, causes := y.wind.causes, faultCount := y.faults.count })
        (s := { y with attention := { raised := y.attention.raised.erase c, latched := some c } }) htx
      have hnews : (examine y).attention.latched = some c := by
        rw [examine_attention, hl, hhigh]
      have halert : (examine y).alertOf c
          = .alert { cause := c, level := y.wind.level, causes := y.wind.causes, faultCount := y.faults.count } := by
        rw [State.alertOf, examine_eq]
      rw [← he] at h1 h2
      refine ⟨h1, ?_⟩
      rw [h2, State.withNews, hlatch, hnews]
      simp only [halert]
      exact admitUp_alert _ _

/-- An event that offers one entry upstream and latches no cause before its end. -/
theorem sendsUp_examine_offerUp {s x : State} {e : UpEntry} (hq : x.upQueue = s.upQueue) (htx : x.upTx = s.upTx)
    (hl : x.attention.latched = s.attention.latched) : s.sendsUp (examine (offerUp e x)) (admitUp s.upQueue e) := by
  have hlatch : (offerUp e x).attention.latched = s.attention.latched := by rw [offerUp_attention]; exact hl
  refine ⟨fun hsending => ?_, fun hidle _ hne => ?_⟩
  · rw [← htx] at hsending
    obtain ⟨h1, h2⟩ := offerUp_sending (e := e) hsending
    obtain ⟨h3, h4⟩ := examine_withNews hlatch (by rw [h1]; exact hsending)
    rw [h3, h4, h1, h2, htx, hq]
    exact ⟨rfl, rfl⟩
  · obtain ⟨h1, h2⟩ := offerUp_idle (e := e) (htx.trans hidle)
    rw [hq] at h1 h2
    have hsome : (offerUp e x).upTx.isSome = true := by
      rw [h1]
      exact List.isSome_head?.mpr hne
    obtain ⟨h3, h4⟩ := examine_withNews hlatch hsome
    rw [h3, h4, h1, h2]
    exact ⟨rfl, rfl⟩

theorem admitUp_response {q : List UpEntry} (tag code : Byte) (resp : RespCode) (contents : List Byte) (h : q.length ≤ 30) :
    admitUp q (.mgmtResp tag code resp contents) = q ++ [.mgmtResp tag code resp contents] := by
  have hroom : q.length < Config.upstreamQueueSize := by rw [Config.upstreamQueueSize]; omega
  simp only [admitUp, hroom, if_true]

/-! ### The response -/

theorem reportLost_latched (n : StationId) (lost : Option Badge) (s : State) :
    (reportLost n lost s).attention.latched = s.attention.latched := by
  cases lost <;> simp [reportLost, replyLost]

theorem offer_latched (n : StationId) (e : StationEntry) (s : State) :
    (offer n e s).attention.latched = s.attention.latched := by
  unfold offer
  split
  · rw [depart_attention, admitEntry_eq, reportLost_latched]
    rfl
  · rfl

theorem offerHeatMarkers_latched (s0 s : State) : (offerHeatMarkers s0 s).attention.latched = s.attention.latched := by
  unfold offerHeatMarkers
  induction stationIds generalizing s with
  | nil => rfl
  | cons n l ih =>
    rw [List.foldl_cons, ih]
    split
    · rfl
    · exact offer_latched n .heat s

/-- A request that leaves the upstream port and the latched cause alone, and the stow, is answered. -/
theorem respond_answered {tag code : Byte} {s : State} {a : Answer} (hroom : s.upstreamShort = false)
    (hq : a.state.upQueue = s.upQueue) (htx : a.state.upTx = s.upTx)
    (hl : a.state.attention.latched = s.attention.latched) (hs : a.state.stowActive = s.stowActive) :
    s.answered (respond tag code s a) (.mgmtResp tag code a.code a.contents) := by
  have hlen := upstreamShort_eq_false.mp hroom
  refine ⟨respond_holds tag code s a (by rw [hq]; omega), ?_⟩
  rw [← admitUp_response tag code a.code a.contents hlen, respond, settleStow_same s a.state hs]
  have hports := offerHeatMarkers_ports s a.state
  exact sendsUp_examine_offerUp (hports.only.upQueue.trans hq) (hports.only.upTx.trans htx)
    ((offerHeatMarkers_latched s a.state).trans hl)

/-- A refusal, or a read: nothing changes, and the response is sent. -/
theorem manage_same {tag code : Byte} {run : State → Answer} {s : State} (hroom : s.upstreamShort = false) (c : RespCode)
    (contents : List Byte)
    (hrun : run { s with responder := some (tag, code) } = ⟨{ s with responder := some (tag, code) }, c, contents⟩) :
    s.sameButPort (manage tag code run s) ∧ s.answered (manage tag code run s) (.mgmtResp tag code c contents) := by
  rw [manage_room tag code run s hroom, hrun]
  refine ⟨respond_refused tag code s _ rfl, ?_⟩
  exact respond_answered (a := ⟨{ s with responder := some (tag, code) }, c, contents⟩) hroom rfl rfl rfl rfl

end Sys2Proof.Machine
end

section
/-! SUPPORT. The bytes of STATUS_READ and STATION_READ as the rules put them (O50): each encoding of the model is the field of
R199, and each group is the concatenation of its fields. -/

namespace Sys2Proof.Machine

/-! ### Numbers (R195, R199) -/

theorem be_one (v : Int) : be 1 v = [BitVec.ofInt 8 v] := by
  simp [be, List.range_succ]

theorem be_two (v : Int) : be 2 v = [BitVec.ofInt 8 (v / 256), BitVec.ofInt 8 v] := by
  simp [be, List.range_succ]

theorem be_four (v : Int) :
    be 4 v = [BitVec.ofInt 8 (v / 16777216), BitVec.ofInt 8 (v / 65536), BitVec.ofInt 8 (v / 256), BitVec.ofInt 8 v] := by
  simp [be, List.range_succ]

/-- A byte of an integer depends on it modulo 256. -/
theorem ofInt_eq_ofNat {v : Int} {n : Nat} (h : v % 256 = (n : Int) % 256) : BitVec.ofInt 8 v = BitVec.ofNat 8 n := by
  apply BitVec.eq_of_toNat_eq
  rw [BitVec.toNat_ofInt, BitVec.toNat_ofNat]
  omega

theorem encU8_eq (n : Nat) : encU8 n = be 1 n := by
  rw [be_one, ofInt_eq_ofNat rfl, encU8]

theorem encU16_eq (n : Nat) : encU16 n = be 2 n := by
  rw [be_two, ofInt_eq_ofNat (n := n / 256) (by omega), ofInt_eq_ofNat (v := n) rfl, encU16]

theorem encU32_eq_of_emod {v : Int} {n : Nat} (h : v % 4294967296 = (n : Int) % 4294967296) : encU32 n = be 4 v := by
  rw [be_four, ofInt_eq_ofNat (n := n / 65536 / 256) (by omega), ofInt_eq_ofNat (n := n / 65536) (by omega),
    ofInt_eq_ofNat (n := n % 65536 / 256) (by omega), ofInt_eq_ofNat (n := n % 65536) (by omega)]
  rfl

theorem encU32_eq (n : Nat) : encU32 n = be 4 n := encU32_eq_of_emod rfl

theorem encI16_eq (v : Int) : encI16 v = be 2 v := by
  have h : ((BitVec.ofInt 16 v).toNat : Int) = v % 65536 := by simp [BitVec.toNat_ofInt]; omega
  rw [encI16, encU16, be_two, ofInt_eq_ofNat (v := v / 256) (n := (BitVec.ofInt 16 v).toNat / 256) (by omega),
    ofInt_eq_ofNat (n := (BitVec.ofInt 16 v).toNat) (by omega)]

theorem encI32_eq (v : Int) : encI32 v = be 4 v := by
  have h : ((BitVec.ofInt 32 v).toNat : Int) = v % 4294967296 := by simp [BitVec.toNat_ofInt]; omega
  exact encU32_eq_of_emod (by omega)

theorem encTime_eq (t : Time) : encTime t = be 4 t.toNat := encU32_eq _

theorem encBool_eq (b : Bool) : encBool b = yesByte b := rfl

/-! ### Optional fields, sets and codes -/

theorem encOpt_eq {α : Type} {enc f : α → List Byte} (h : ∀ a, enc a = f a) (o : Option α) :
    encOpt enc o = optionalField (o.map f) := by
  cases o with
  | none => rfl
  | some a => exact congrArg (1 :: ·) (h a)

/-- An expiry is the reading at which the interval has passed (R1). -/
theorem encTime_expiry (t : Timer) : encTime t.expiry = be 4 (t.start.toNat + t.interval) := by
  rw [encTime]
  refine encU32_eq_of_emod ?_
  simp [Timer.expiry]

theorem encExpiry_eq (o : Option Timer) : encExpiry o = expiryField o := encOpt_eq encTime_expiry o

theorem setValue_eq (l : List Bool) : setValue l = bitsOf l := by
  have h : ∀ (l : List Bool) (k : Nat), ((l.zipIdx k).map fun p => if p.1 then (2 : Int) ^ p.2 else 0).sum = 2 ^ k * (bitsOf l : Int) := by
    intro l
    induction l with
    | nil => intro k; simp [bitsOf]
    | cons b l ih =>
      intro k
      rw [List.zipIdx_cons, List.map_cons, List.sum_cons, ih, bitsOf]
      cases b with
      | true => simp only [if_true]; push_cast; ring
      | false => simp only [Bool.false_eq_true, if_false]; push_cast; ring
  simpa [setValue] using h l 0

theorem encScope_eq (x : Scope) : encScope x = be 1 (setValue [x.drive, x.heat]) := by
  obtain ⟨d, h⟩ := x
  cases d <;> cases h <;> decide

theorem encStowCauses_eq (c : StowCauses) : encStowCauses c = be 1 (setValue [c.wind, c.stormLine, c.blind, c.manual]) := by
  obtain ⟨a, b, c, d⟩ := c
  revert a b c d
  decide

theorem encClip_eq (c : ClipSet) : encClip c = be 2 (setValue [c.targetClamp, c.rateCap, c.windCap, c.budget, c.heatHeld,
    c.stale, c.lockout, c.stowOverride, c.stopped]) := by
  rw [setValue_eq, encClip, encU16_eq]

/-- A code is the position of its value in the list of its rule. -/
theorem encU8_position {α : Type} [BEq α] {values : List α} {a : α} {k : Nat} (h : values.idxOf a = k) :
    encU8 k = positionOf values a := by
  rw [positionOf, h, encU8_eq]

theorem encU8_authority (a : Authority) : encU8 (authorityCode a) = positionOf [Authority.absent, .held, .locked, .clearing,
    .stopped, .stowPending, .stowWarning, .stowMoving, .stowStowed, .coasting, .tracking, .idle] a :=
  encU8_position (by cases a <;> rfl)

theorem encU8_progress (p : StowProgress) :
    encU8 (progressCode p) = positionOf [StowProgress.none, .pending, .warning, .moving, .stowed] p :=
  encU8_position (by cases p <;> rfl)

theorem encU8_alloc (k : AllocKind) : encU8 (allocCode k) = positionOf [AllocKind.none, .batch, .stow] k :=
  encU8_position (by cases k <;> rfl)

theorem encU8_level (l : WindLevel) : encU8 (levelCode l) = positionOf [WindLevel.calm, .breezy, .gusty, .stow] l :=
  encU8_position (by cases l <;> rfl)

theorem encU8_meltMode (m : MeltMode) : encU8 (meltModeCode m) = positionOf [MeltMode.auto, .forceOn, .forceOff] m :=
  encU8_position (by cases m <;> rfl)

theorem encU8_slotState (x : SlotState) :
    encU8 (slotStateCode x) = positionOf [SlotState.idle, .active, .outOfService, .substituted] x :=
  encU8_position (by cases x <;> rfl)

theorem encU8_side (x : Side) : encU8 (sideCode x) = positionOf [Side.unknown, .cold, .warm] x :=
  encU8_position (by cases x <;> rfl)

theorem encU8_scanState (x : ScanState) : encU8 (scanStateCode x) = positionOf [ScanState.idle, .polling, .gap, .stopping] x :=
  encU8_position (by cases x <;> rfl)

theorem encU8_scanMode (x : ScanMode) : encU8 (scanModeCode x) = positionOf [ScanMode.once, .continuous] x :=
  encU8_position (by cases x <;> rfl)

theorem encU8_passOrder (x : PassOrder) : encU8 (passOrderCode x) = positionOf [PassOrder.sequential, .paired] x :=
  encU8_position (by cases x <;> rfl)

theorem encU8_store (x : StoreState) : encU8 (storeCode x) = positionOf [StoreState.valid, .invalid, .saving] x :=
  encU8_position (by cases x <;> rfl)

theorem encU8_cause (c : Cause) : encU8 (causeCode c)
    = positionOf [Cause.stowChange, .lockChange, .faultNew, .windLevel, .freezeCross, .meltChange, .storeDone] c :=
  encU8_position (by cases c <;> rfl)

theorem encU8_latch (x : FaultLatch) : encU8 (latchCode x) = positionOf [FaultLatch.none, .overrun, .driveFault] x :=
  encU8_position (by cases x <;> rfl)

theorem encU8_demand (x : DemandClass) : encU8 (demandCode x) = positionOf [DemandClass.none, .track, .stow] x :=
  encU8_position (by cases x <;> rfl)

theorem encU8_zoneState (x : ZoneState) :
    encU8 (zoneStateCode x) = positionOf [ZoneState.disabled, .off, .wait, .on, .shed, .inhibited, .fault] x :=
  encU8_position (by cases x <;> rfl)

theorem encU8_zoneFault (x : ZoneFaultReason) :
    encU8 (zoneFaultCode x) = positionOf [ZoneFaultReason.overtemp, .contactor] x :=
  encU8_position (by cases x <;> rfl)

/-! ### Slot kinds -/

/-- A kind byte names a kind exactly where it is that kind's number (R105). -/
theorem slotKindOf_beq (b : Byte) :
    (slotKindOf b == some .windSpeed) = (b == 0) ∧ (slotKindOf b == some .airTemp) = (b == 1)
      ∧ (slotKindOf b == some .surfaceTemp) = (b == 2) := by
  revert b
  decide

theorem Authority.blocked_eq_contains (a : Authority) :
    a.blocked = [Authority.absent, .held, .locked, .clearing, .stopped].contains a := by
  cases a <;> rfl

end Sys2Proof.Machine
end

section
/-! SUPPORT. STATUS_READ and STATION_READ (O50): each group of the contents, then the responses. -/

namespace Sys2Proof.Machine

theorem encOpt_map {α : Type} (enc : α → List Byte) (o : Option α) : encOpt enc o = optionalField (o.map enc) :=
  encOpt_eq (fun _ => rfl) o

/-! ### The groups (R188, R189) -/

theorem encAuthority_eq (s : State) (n : StationId) : encAuthority s n =
    positionOf [Authority.absent, .held, .locked, .clearing, .stopped, .stowPending, .stowWarning, .stowMoving, .stowStowed,
        .coasting, .tracking, .idle] (s.authority n)
      ++ yesByte ((s.station n).progress == .pending
        && [Authority.absent, .held, .locked, .clearing, .stopped].contains (s.authority n))
      ++ positionOf [StowProgress.none, .pending, .warning, .moving, .stowed] (s.station n).progress := by
  rw [encAuthority, encU8_authority, encU8_progress, encBool_eq, State.stowBlocked, Authority.blocked_eq_contains]

theorem encCauses_eq (c : CauseSet) : encCauses c = be 1 (setValue
    ([Cause.stowChange, .lockChange, .faultNew, .windLevel, .freezeCross, .meltChange, .storeDone].map c.has)) := by
  rw [setValue_eq, encCauses, encU8_eq]
  rfl

/-- The in-service anemometers by the number of their kind. -/
theorem State.anemometers_eq (s : State) : s.anemometers = slotIds.filter fun i =>
    (s.slotRecord i).kind == 0 && ((s.slot i).state == .active || (s.slot i).state == .substituted) := by
  unfold State.anemometers State.serves
  simp only [(slotKindOf_beq _).1, Slot.inService]

theorem State.surfaceSlot_eq (s : State) (n : StationId) (z : ZoneNum) : s.surfaceSlot n z = slotIds.find? fun i =>
    (s.slotRecord i).enabled == 1 && (s.slotRecord i).kind == 2 && (s.slotRecord i).station.toNat == n.val
      && (s.slotRecord i).zoneMask.getLsbD z.val := by
  unfold State.surfaceSlot
  simp only [(slotKindOf_beq _).2.2, isYes]

/-- The fields that a slot has for its kind (R108). -/
theorem slotKindOf_match {α : Type} (b : Byte) (wind air other : α) :
    (match slotKindOf b with
      | some .windSpeed => wind
      | some .airTemp => air
      | some .surfaceTemp | some .precip | none => other) = if b = 0 then wind else if b = 1 then air else other := by
  obtain ⟨hwind, hair, -⟩ := slotKindOf_beq b
  rw [Bool.eq_iff_iff, beq_iff_eq, beq_iff_eq] at hwind hair
  split
  · next h => rw [if_pos (hwind.mp h)]
  · next h =>
    rw [if_neg fun h0 => absurd (h.symm.trans (hwind.mpr h0)) (by simp), if_pos (hair.mp h)]
  all_goals
    next h =>
    rw [if_neg fun h0 => absurd (h.symm.trans (hwind.mpr h0)) (by simp),
      if_neg fun h1 => absurd (h.symm.trans (hair.mpr h1)) (by simp)]

theorem encSlotState_eq (s : State) (i : SlotId) : encSlotState s i =
    positionOf [SlotState.idle, .active, .outOfService, .substituted] (s.slot i).state ++ be 1 (s.slot i).miss
      ++ optionalField ((s.slot i).latestRaw.map (be 2))
      ++ optionalField ((s.slot i).latestValue.map fun p => be 2 p.1 ++ be 4 p.2.toNat)
      ++ expiryField ((s.slot i).substitute.map (·.2))
      ++ (if (s.slotRecord i).kind = 0 then
          optionalField ((gustOf (s.slot i).ring).map (be 2)) ++ optionalField ((sustainedOf (s.slot i).ring).map (be 2))
        else if (s.slotRecord i).kind = 1 then positionOf [Side.unknown, .cold, .warm] (s.slot i).side
        else []) := by
  have hsub : ∀ o : Option (Int × Timer), encOpt (fun p : Int × Timer => encTime p.2.expiry) o = expiryField (o.map (·.2)) := by
    intro o
    cases o with
    | none => rfl
    | some p => exact congrArg (1 :: ·) (encTime_expiry p.2)
  unfold encSlotState
  simp only [hsub, encU8_slotState, encU8_side, encOpt_eq encI16_eq]
  rw [encU8_eq, encOpt_eq fun p : Int × Time => congrArg₂ (· ++ ·) (encI16_eq p.1) (encTime_eq p.2)]
  exact congrArg _ (slotKindOf_match _ _ _ _)

theorem encAlloc_eq (a : AllocRecord) : encAlloc a =
    positionOf [AllocKind.none, .batch, .stow] a.kind ++ be 4 a.time.toNat ++ be 1 a.members ++ be 4 a.demandW ++ be 4 a.holdW
      ++ be 4 a.heatW ++ be 4 a.roomW ++ be 2 a.scale ++ be 1 a.shedCount ++ be 4 a.shedW ++ be 4 a.headroomW := by
  unfold encAlloc
  rw [encU8_alloc]
  simp only [encTime_eq, encU8_eq, encU16_eq, encU32_eq, encI32_eq]

theorem encZoneState_eq (s : State) (n : StationId) (z : ZoneNum) : encZoneState s n z =
    positionOf [ZoneState.disabled, .off, .wait, .on, .shed, .inhibited, .fault] (s.zone n z).state
      ++ optionalField ((if (s.zone n z).state = .on then (s.zone n z).onStart else (s.zone n z).offStart).map
          fun t => be 4 t.toNat)
      ++ optionalField ((s.zone n z).faultReason.map (positionOf [ZoneFaultReason.overtemp, .contactor]))
      ++ optionalField ((slotIds.find? fun i =>
          (s.slotRecord i).enabled == 1 && (s.slotRecord i).kind == 2 && (s.slotRecord i).station.toNat == n.val
            && (s.slotRecord i).zoneMask.getLsbD z.val).map fun i => be 1 i.val)
      ++ yesByte ((s.station n).commandedMask.getLsbD z.val) := by
  unfold encZoneState
  simp only [encU8_zoneState, encOpt_eq encTime_eq, encOpt_eq encU8_zoneFault, encOpt_eq fun i : SlotId => encU8_eq i.val,
    State.surfaceSlot_eq, encBool_eq]

theorem encHolder_eq (h : Holder) :
    encHolder h = be 2 h.badge.toNat ++ be 1 (setValue [h.scope.drive, h.scope.heat]) := by
  rw [encHolder, word16, encU16_eq, encScope_eq]

theorem encPair_eq (p : Int × Int) : encPair p = be 4 p.1 ++ be 4 p.2 := by
  rw [encPair, encI32_eq, encI32_eq]

theorem encTelemetry_eq (t : Telemetry) : encTelemetry t =
    be 4 t.az ++ be 4 t.el ++ yesByte t.energised ++ yesByte t.driveFault ++ yesByte t.pinEngaged ++ be 1 t.contactors.toNat
      ++ be 4 t.time.toNat := by
  simp only [encTelemetry, encI32_eq, encBool_eq, encU8_eq, encTime_eq]

theorem be_upness (st : Station) :
    encU8 (if st.link.isUp then 0 else 1) = be 1 (if st.link.isUp then 0 else 1) := by
  cases st.link.isUp <;> exact encU8_eq _

theorem encLockout_eq (st : Station) : encLockout st =
    be 1 st.holders.length ++ st.holders.flatMap (fun h => be 2 h.badge.toNat ++ be 1 (setValue [h.scope.drive, h.scope.heat]))
      ++ yesByte st.lockReportSeen ++ expiryField st.clearing
      ++ be 1 (st.holders.countP (·.scope.drive)) ++ be 1 (st.holders.countP (·.scope.heat)) := by
  have hlist : encList encHolder st.holders
      = be 1 st.holders.length ++ st.holders.flatMap (fun h => be 2 h.badge.toNat ++ be 1 (setValue [h.scope.drive, h.scope.heat])) := by
    rw [encList, encU8_eq]
    exact congrArg (_ ++ List.flatMap · _) (funext encHolder_eq)
  rw [encLockout, hlist, encExpiry_eq, encU8_eq, encU8_eq, encBool_eq]
  rfl

theorem encStow_eq (st : Station) : encStow st =
    expiryField st.warnTimer ++ optionalField (st.stowStart.map fun t => be 4 t.toNat) ++ expiryField st.stowTimeout
      ++ optionalField (if st.demand.cls = .stow then some (be 4 st.demand.azTarget ++ be 4 st.demand.elTarget) else none) := by
  rw [encStow, encExpiry_eq, encExpiry_eq, encOpt_eq encTime_eq, encOpt_eq encPair_eq, apply_ite (Option.map _)]
  rfl

theorem encDemand_eq (d : Demand) : encDemand d =
    positionOf [DemandClass.none, .track, .stow] d.cls ++ be 2 d.azSpeed ++ be 2 d.elSpeed ++ be 4 d.azTarget
      ++ be 4 d.elTarget ++ be 4 d.watts := by
  rw [encDemand, encU8_demand, encU16_eq, encU16_eq, encI32_eq, encI32_eq, encU32_eq]

theorem encGrant_eq (g : Grant) : encGrant g = be 2 g.azSpeed ++ be 2 g.elSpeed ++ be 4 g.watts := by
  rw [encGrant, encU16_eq, encU16_eq, encU32_eq]

theorem encWindStow_eq (s : State) : encWindStow s =
    positionOf [WindLevel.calm, .breezy, .gusty, .stow] s.wind.level ++ optionalField (s.worstGust.map (be 2))
      ++ optionalField (s.worstSustained.map (be 2)) ++ expiryField s.wind.holdDown ++ expiryField s.wind.blindTimer
      ++ be 1 (setValue [s.wind.causes.wind, s.wind.causes.stormLine, s.wind.causes.blind, s.wind.causes.manual]) := by
  rw [encWindStow, encU8_level, encOpt_eq encI16_eq, encOpt_eq encI16_eq, encExpiry_eq, encExpiry_eq, encStowCauses_eq]

theorem encMelt_eq (s : State) : encMelt s =
    be 4 s.heatLoad ++ positionOf [MeltMode.auto, .forceOn, .forceOff] s.melt.mode ++ yesByte s.melt.condition
      ++ optionalField (s.melt.stamp.map fun t => be 4 t.toNat) := by
  rw [encMelt, encU32_eq, encU8_meltMode, encBool_eq, encOpt_eq encTime_eq]

theorem encSensing_eq (s : State) : encSensing s =
    positionOf [ScanState.idle, .polling, .gap, .stopping] s.scanner.state
      ++ positionOf [ScanMode.once, .continuous] s.scanner.mode
      ++ positionOf [PassOrder.sequential, .paired] s.scanner.order ++ slotIds.flatMap (encSlotState s) := by
  rw [encSensing, encU8_scanState, encU8_scanMode, encU8_passOrder]

theorem encAttention_eq (s : State) : encAttention s =
    be 1 (setValue ([Cause.stowChange, .lockChange, .faultNew, .windLevel, .freezeCross, .meltChange, .storeDone].map
        s.attention.raised.has))
      ++ optionalField (s.attention.latched.map
          (positionOf [Cause.stowChange, .lockChange, .faultNew, .windLevel, .freezeCross, .meltChange, .storeDone]))
      ++ be 1 (faultIds.countP fun k => (s.faults.entries.get k).isSome) ++ yesByte s.faults.overflow
      ++ yesByte s.faults.overflowSeen := by
  rw [encAttention, encCauses_eq, encOpt_eq encU8_cause, encU8_eq, encBool_eq, encBool_eq]
  rfl

theorem statusContents_eq (s : State) : statusContents s =
    [s.nodeAddress] ++ be 4 s.now.toNat ++ stationIds.flatMap (encAuthority s) ++ encAlloc s.alloc ++ encWindStow s
      ++ encMelt s ++ encSensing s ++ positionOf [StoreState.valid, .invalid, .saving] s.store.state ++ yesByte s.lockdown
      ++ encAttention s := by
  rw [statusContents, encTime_eq, encU8_store, encBool_eq]

theorem stationContents_eq (s : State) (n : StationId) : stationContents s n =
    encAuthority s n ++ yesByte (s.station n).installed ++ be 1 (if (s.station n).link.isUp then 0 else 1)
      ++ encLockout (s.station n)
      ++ positionOf [FaultLatch.none, .overrun, .driveFault] (s.station n).faultLatch ++ encStow (s.station n)
      ++ expiryField (s.station n).freshness ++ yesByte (s.station n).stale ++ encDemand (s.station n).demand
      ++ encGrant (s.station n).grant ++ optionalField ((s.station n).lastTelemetry.map encTelemetry)
      ++ optionalField ((s.station n).lastSent.map encPair) ++ encClip (s.station n).clipStatus
      ++ encClip (s.station n).clipLog ++ zoneNums.flatMap (encZoneState s n) := by
  rw [stationContents, be_upness, encU8_latch, encExpiry_eq, encOpt_map, encOpt_map, encBool_eq, encBool_eq]

theorem stationOf_eq_some {b : Byte} {n : StationId} (h : b.toNat = n.val) : stationOf b = some n := by
  unfold stationOf
  rw [dif_pos (h ▸ n.isLt)]
  exact congrArg some (Fin.ext h)

/-- Settles O50: a read changes nothing, and its contents are their groups field by field. -/
theorem statusAndStationReads : Obligations.StatusAndStationReads := by
  intro tag b n s hroom
  dsimp only
  refine ⟨?_, fun hb => ?_⟩
  · obtain ⟨hsame, hanswered⟩ := manage_same (tag := tag) (code := 0x01)
      (run := bare [] fun s => done (statusContents s) s) hroom .done (statusContents s) rfl
    refine ⟨_, rfl, hsame, ?_⟩
    refine Eq.mp (congrArg (fun c => s.answered _ (.mgmtResp tag 0x01 .done c)) ?_) hanswered
    rw [statusContents_eq, encAlloc_eq, encWindStow_eq, encMelt_eq, encSensing_eq, encAttention_eq, funext (encAuthority_eq s),
      funext (encSlotState_eq s), State.worstGust, State.worstSustained, State.anemometers_eq]
    simp only [List.append_assoc]
    rfl
  · have hrun : ∀ u, runStationRead [b] u = done (stationContents u n) u := by
      intro u
      rw [runStationRead, stationOf_eq_some hb]
    obtain ⟨hsame, hanswered⟩ := manage_same (tag := tag) (code := 0x02)
      (run := runStationRead [b]) hroom .done (stationContents s n) (hrun _)
    refine ⟨_, rfl, hsame, ?_⟩
    refine Eq.mp (congrArg (fun c => s.answered _ (.mgmtResp tag 0x02 .done c)) ?_) hanswered
    rw [stationContents_eq, encAuthority_eq, encLockout_eq, encStow_eq, encDemand_eq, encGrant_eq, funext (encZoneState_eq s n),
      funext encTelemetry_eq, funext encPair_eq, encClip_eq, encClip_eq]
    simp only [List.append_assoc]

end Sys2Proof.Machine
end

section
/-! SUPPORT. What a row of offers leaves of a port: the entries wait in turn while a frame is being sent, and on an idle port
the first of them leaves at once (R33, R35). -/

namespace Sys2Proof.Machine

/-! ### Entries admitted in turn -/

theorem mem_foldl_admitted_of_mem {x : StationEntry} {es q : List StationEntry} (h : x ∈ q) (hsup : x.kind.superseding = true)
    (hk : ∀ e ∈ es, e.kind ≠ x.kind) : x ∈ es.foldl admitted q := by
  induction es generalizing q with
  | nil => exact h
  | cons e es ih =>
    exact ih (mem_admitted_of_mem h hsup (hk e (by simp)).symm) fun y hy => hk y (by simp [hy])

theorem mem_foldl_admitted_of_room {x : StationEntry} {es q : List StationEntry} (h : x ∈ q) (hk : ∀ e ∈ es, e.kind ≠ x.kind)
    (hroom : q.length + es.length ≤ 8) : x ∈ es.foldl admitted q := by
  induction es generalizing q with
  | nil => exact h
  | cons e es ih =>
    rw [List.length_cons] at hroom
    refine ih (mem_admitted_of_room h (.inl (hk e (by simp)).symm) (by omega)) (fun y hy => hk y (by simp [hy])) ?_
    have := length_admitted_le q e
    omega

theorem mem_of_mem_foldl_admitted {x : StationEntry} {es q : List StationEntry} (h : x ∈ es.foldl admitted q) : x ∈ q ∨ x ∈ es := by
  induction es generalizing q with
  | nil => exact .inl h
  | cons e es ih =>
    rcases ih h with hq | hes
    · exact (mem_of_mem_admitted hq).imp id fun he => by simp [he]
    · exact .inr (by simp [hes])

theorem queuedSetpoints_foldl_admitted {es q : List StationEntry} (hk : ∀ e ∈ es, e.kind ≠ .setpoint) :
    queuedSetpoints (es.foldl admitted q) = queuedSetpoints q := by
  induction es generalizing q with
  | nil => rfl
  | cons e es ih =>
    exact (ih fun y hy => hk y (by simp [hy])).trans (queuedSetpoints_admitted (hk e (by simp)))

theorem queueLaw.foldl_admitted {q : List StationEntry} (h : queueLaw q) (es : List StationEntry) :
    queueLaw (es.foldl Machine.admitted q) := by
  induction es generalizing q with
  | nil => exact h
  | cons e es ih => exact ih (h.admitted e)

/-- A HEAT marker offered where one waits leaves the queue as it is. -/
theorem admitted_heat_of_mem {q : List StationEntry} (h : StationEntry.heat ∈ q) : admitted q .heat = q := by
  have hany : q.any (·.kind == StationEntry.heat.kind) = true := List.any_eq_true.mpr ⟨_, h, rfl⟩
  unfold admitted
  rw [if_pos (by rw [hany]; rfl)]
  refine (List.map_congr_left fun x _ => ?_).trans (List.map_id q)
  cases x <;> rfl

/-! ### The port after a row of offers -/

/-- The port of the record `b` is that of `a` after the entries `es` have been offered to it in turn. -/
structure Offers (node : Byte) (es : List StationEntry) (a b : Station) : Prop where
  up : b.link.isUp = a.link.isUp
  sending : a.link.isUp = true → a.tx.isSome = true → b.tx = a.tx ∧ b.queue = es.foldl admitted a.queue
  idle : a.link.isUp = true → a.tx = none → a.queue = [] → b.queue = es.tail.foldl admitted []
    ∧ b.tx.isSome = !es.isEmpty ∧ ∀ e ∈ es.head?, ∀ frame ∈ e.frame node, b.tx = some frame
  down : a.link.isUp = false → b.tx = a.tx ∧ b.queue = a.queue

section
variable {node : Byte} {es fs : List StationEntry} {a b c : Station}

/-- A record whose port stands. -/
theorem Offers.of_same (hup : b.link.isUp = a.link.isUp) (htx : b.tx = a.tx) (hq : b.queue = a.queue) : Offers node [] a b where
  up := hup
  sending _ _ := ⟨htx, hq⟩
  idle _ hidle hnil := ⟨hq.trans hnil, by rw [htx, hidle]; rfl, fun e he => absurd he (by simp)⟩
  down _ := ⟨htx, hq⟩

theorem Offers.refl : Offers node [] a a := .of_same rfl rfl rfl

theorem Offers.trans (h : Offers node es a b) (k : Offers node fs b c) : Offers node (es ++ fs) a c where
  up := k.up.trans h.up
  sending hup htx := by
    obtain ⟨htx', hq⟩ := h.sending hup htx
    obtain ⟨htx'', hq'⟩ := k.sending (h.up.trans hup) (by rw [htx']; exact htx)
    exact ⟨htx''.trans htx', by rw [hq', hq, List.foldl_append]⟩
  idle hup htx hnil := by
    obtain ⟨hq, hsome, hframe⟩ := h.idle hup htx hnil
    have hup' := h.up.trans hup
    cases es with
    | nil => exact k.idle hup' (Option.not_isSome_iff_eq_none.mp (by rw [hsome]; simp)) hq
    | cons e es =>
      have hsome' : b.tx.isSome = true := by rw [hsome]; rfl
      obtain ⟨htx', hq'⟩ := k.sending hup' hsome'
      refine ⟨?_, by rw [htx', hsome]; rfl, fun x hx frame hf => htx'.trans (hframe x hx frame hf)⟩
      rw [hq', hq, List.cons_append, List.tail_cons, List.tail_cons, List.foldl_append]
  down hdown := by
    obtain ⟨htx, hq⟩ := h.down hdown
    obtain ⟨htx', hq'⟩ := k.down (h.up.trans hdown)
    exact ⟨htx'.trans htx, hq'.trans hq⟩

/-- The offer of one entry. -/
theorem Offers.takes (node : Byte) (e : StationEntry) (a : Station) : Offers node [e] a (a.takes node e) where
  up := by rw [Station.takes_link]
  sending hup htx := by rw [Station.takes_sending hup htx]; exact ⟨rfl, rfl⟩
  idle hup htx hnil := by
    rw [Station.takes_idle hup htx hnil]
    refine ⟨(Station.sends_queue _ _ _).trans hnil, Station.sends_tx_isSome _ _ _, fun x hx frame hf => ?_⟩
    obtain rfl : e = x := by simpa using hx
    exact Station.sends_tx a hf
  down hdown := by rw [Station.takes_down hdown]; exact ⟨rfl, rfl⟩

theorem Offers.congr (h : Offers node es a b) (he : es = fs) : Offers node fs a b := he ▸ h

/-- A superseding entry that no later one supersedes waits (R35, R36). -/
theorem Offers.waits {pre post : List StationEntry} {e : StationEntry} (h : Offers node (pre ++ e :: post) a b)
    (hup : a.link.isUp = true) (htx : a.tx.isSome = true) (hlaw : queueLaw a.queue) (hsup : e.kind.superseding = true)
    (hk : ∀ x ∈ post, x.kind ≠ e.kind) : e ∈ b.queue := by
  rw [(h.sending hup htx).2, List.foldl_append, List.foldl_cons]
  exact mem_foldl_admitted_of_mem (mem_admitted_self (hlaw.foldl_admitted pre) hsup) hsup hk

/-- The first entry of a few waits where there is room for them all. -/
theorem Offers.first_waits {post : List StationEntry} {e : StationEntry} (h : Offers node (e :: post) a b)
    (hup : a.link.isUp = true) (htx : a.tx.isSome = true) (hroom : a.queue.length + (post.length + 1) ≤ 8)
    (hk : ∀ x ∈ post, x.kind ≠ e.kind) : e ∈ b.queue := by
  rw [(h.sending hup htx).2, List.foldl_cons]
  have := length_admitted_le a.queue e
  exact mem_foldl_admitted_of_room (mem_admitted_self_of_room (by omega)) hk (by omega)

/-- On an idle port the first entry leaves. -/
theorem Offers.first_leaves {post : List StationEntry} {e : StationEntry} {frame : StationFrame} (h : Offers node (e :: post) a b)
    (hup : a.link.isUp = true) (htx : a.tx = none) (hnil : a.queue = []) (hf : e.frame node = some frame) : b.tx = some frame :=
  (h.idle hup htx hnil).2.2 e rfl frame hf

/-- Entries of other kinds leave the SETPOINTs that wait. -/
theorem Offers.setpoints (h : Offers node es a b) (hup : a.link.isUp = true) (htx : a.tx.isSome = true)
    (hk : ∀ e ∈ es, e.kind ≠ .setpoint) : queuedSetpoints b.queue = queuedSetpoints a.queue := by
  rw [(h.sending hup htx).2, queuedSetpoints_foldl_admitted hk]

end

/-! ### An offer to a station -/

/-- An offer that the check lets through as it is. -/
theorem offers_offer {n : StationId} {e : StationEntry} (s : State) (h : checked n e s = e) :
    Offers s.nodeAddress [e] (s.station n) ((offer n e s).station n) := by
  rw [offer_station_self, h]
  exact .takes _ _ _

end Sys2Proof.Machine
end

section
/-! SUPPORT. What an event tells the attention unit and the Fault Table: the causes it raises, the reports it records, and that
a report stands to its end (R87, R172, R173, R178, R179). -/

namespace Sys2Proof.Machine

/-! ### Causes (R178, R179) -/

theorem CauseSet.has_insert (c : CauseSet) (k j : Cause) : (c.insert k).has j = (c.has j || k == j) := by
  cases k <;> cases j <;> simp [CauseSet.insert, CauseSet.has]

theorem CauseSet.has_noAttention (k : Cause) : noAttention.has k = false := by
  cases k <;> rfl

/-- The highest cause of a set that holds one is that one, or of higher priority, and then the other goes on waiting. -/
theorem CauseSet.highest_of_has {c : CauseSet} {k : Cause} (h : c.has k = true) :
    ∃ j, c.highest = some j ∧ (j = k ∨ (causeCode j < causeCode k ∧ (c.erase j).has k = true)) := by
  unfold CauseSet.highest
  split_ifs
  all_goals first
    | (refine ⟨_, rfl, ?_⟩; cases k <;> simp_all [CauseSet.has, CauseSet.erase, causeCode])
    | (cases k <;> simp_all [CauseSet.has])

theorem CauseSet.has_of_highest {c : CauseSet} {j : Cause} (h : c.highest = some j) : c.has j = true := by
  unfold CauseSet.highest at h
  split_ifs at h <;> (obtain rfl := Option.some.inj h; assumption)

theorem CauseSet.has_erase_le {c : CauseSet} {k j : Cause} (h : c.has j = false) : (c.erase k).has j = false := by
  cases k <;> cases j <;> simp_all [CauseSet.erase, CauseSet.has]

/-- The end of an event on a cause that was raised in it (R179). -/
theorem raises_of_pending {s x t : State} {k : Cause} (hl : x.attention.latched = s.attention.latched)
    (hk : x.attention.raised.has k = true) (ht : t.attention = (examine x).attention) : s.raises t k := by
  obtain ⟨j, hj, hjk⟩ := CauseSet.highest_of_has hk
  rw [examine_attention, hj] at ht
  cases hlatch : s.attention.latched with
  | some i =>
    rw [hl, hlatch] at ht
    refine ⟨fun i' hi' => ?_, fun hnone => absurd (hlatch.symm.trans hnone) (by simp)⟩
    rw [ht, hl, ← hi']
    exact ⟨rfl, hk⟩
  | none =>
    rw [hl, hlatch] at ht
    refine ⟨fun i' hi' => absurd (hlatch.symm.trans hi') (by simp), fun _ => ?_⟩
    rw [ht]
    refine ⟨by simp, fun i hi => ?_⟩
    obtain rfl := Option.some.inj hi
    exact hjk

/-- The end of an event on a cause that was not raised in it. -/
theorem silent_of_same {s x t : State} {k : Cause} (hl : x.attention.latched = s.attention.latched)
    (hk : x.attention.raised.has k = s.attention.raised.has k) (ht : t.attention = (examine x).attention) : s.silent t k := by
  rintro ⟨hrest, -⟩
  rw [examine_attention] at ht
  cases hlatch : s.attention.latched with
  | some i =>
    rw [hl, hlatch] at ht
    rw [ht, hl, hlatch]
    exact ⟨hk, Iff.rfl⟩
  | none =>
    rw [hrest hlatch, CauseSet.has_noAttention] at hk ⊢
    rw [hl, hlatch] at ht
    cases hj : x.attention.raised.highest with
    | none =>
      rw [hj] at ht
      rw [ht, hl, hlatch]
      exact ⟨hk, Iff.rfl⟩
    | some j =>
      rw [hj] at ht
      rw [ht]
      refine ⟨CauseSet.has_erase_le hk, ⟨fun h => ?_, fun h => absurd h (by simp)⟩⟩
      obtain rfl := Option.some.inj h
      exact absurd (hk.symm.trans (CauseSet.has_of_highest hj)) (by simp)

/-- Between two moments of an event: what is latched stands, what is pending goes on waiting, and LOCK_CHANGE is pending
where it was or where `locks` says that it was raised meanwhile. -/
structure Tells (locks : Bool) (s t : State) : Prop where
  latched : t.attention.latched = s.attention.latched
  kept : ∀ k, s.attention.raised.has k = true → t.attention.raised.has k = true
  lock : t.attention.raised.has .lockChange = (s.attention.raised.has .lockChange || locks)

theorem Tells.of_same {s t : State} (h : t.attention = s.attention) : Tells false s t := by
  constructor <;> rw [h] <;> simp

theorem Tells.refl (s : State) : Tells false s s := .of_same rfl

theorem Tells.trans {a b : Bool} {s t u : State} (h : Tells a s t) (k : Tells b t u) : Tells (a || b) s u where
  latched := k.latched.trans h.latched
  kept c hc := k.kept c (h.kept c hc)
  lock := by rw [k.lock, h.lock, Bool.or_assoc]

theorem Tells.raise (c : Cause) (s : State) : Tells (c == .lockChange) s (raise c s) where
  latched := rfl
  kept k hk := by rw [raise_raised, CauseSet.has_insert, hk, Bool.true_or]
  lock := by rw [raise_raised, CauseSet.has_insert]

/-! ### Reports (R172, R173) -/

theorem FaultTable.matching_some {t : FaultTable} {src : FaultSource} {r : FaultReason} {i : Fin 8}
    (h : t.matching src r = some i) : ∃ e, t.entries.get i = some e ∧ e.isOf src r = true := by
  have hi := List.find?_some h
  split at hi
  · exact absurd hi (by simp)
  · next e he => exact ⟨e, he, hi⟩

theorem FaultTable.matching_none {t : FaultTable} {src : FaultSource} {r : FaultReason} (h : t.matching src r = none)
    (i : Fin 8) : ∀ e ∈ t.entries.get i, e.isOf src r = false := by
  intro e he
  have hi := List.find?_eq_none.mp h i (mem_faultIds i)
  rw [he] at hi
  exact Bool.not_eq_true _ ▸ hi

theorem FaultTable.free_some {t : FaultTable} {i : Fin 8} (h : t.free = some i) : t.entries.get i = none := by
  have hi := List.find?_some h
  simpa using hi

theorem FaultTable.free_none {t : FaultTable} (h : t.free = none) (i : Fin 8) : ∃ e, t.entries.get i = some e := by
  have hi := List.find?_eq_none.mp h i (mem_faultIds i)
  exact Option.ne_none_iff_exists'.mp (by simpa using hi)

theorem FaultEntry.isOf_iff {e : FaultEntry} {src : FaultSource} {r : FaultReason} :
    e.isOf src r = true ↔ e.source = src ∧ e.reason = r := by
  simp [FaultEntry.isOf]

/-- An entry of one reason is of no other. -/
theorem FaultEntry.isOf_other {e : FaultEntry} {src src' : FaultSource} {r r' : FaultReason} (h : e.isOf src r = true)
    (hr : r' ≠ r) : e.isOf src' r' = false := by
  obtain ⟨-, rfl⟩ := FaultEntry.isOf_iff.mp h
  simpa [FaultEntry.isOf] using fun _ => hr.symm

/-- A report stands in the Fault Table: as an unseen entry, or as the unseen overflow of a table full without one. -/
def State.reported (t : State) (src : FaultSource) (r : FaultReason) (detail : BitVec 32) (now : Time) : Prop :=
  (∃ i : Fin 8, ∃ e ∈ t.faults.entries.get i, e.isOf src r = true ∧ e.seen = false ∧ e.detail = detail ∧ e.lastTime = now)
    ∨ ((∀ i : Fin 8, ∃ e ∈ t.faults.entries.get i, e.isOf src r = false)
        ∧ t.faults.overflow = true ∧ t.faults.overflowSeen = false)

/-- A report of this source and reason would raise FAULT_NEW, or something has raised it already. -/
def State.newsDue (s : State) (src : FaultSource) (r : FaultReason) : Prop :=
  s.attention.raised.has .faultNew = true
    ∨ (∀ i : Fin 8, ∀ e ∈ s.faults.entries.get i, e.isOf src r = false)
      ∧ ((∃ i : Fin 8, s.faults.entries.get i = none) ∨ s.faults.overflow = false)

theorem recordFault_reported (src : FaultSource) (r : FaultReason) (d : BitVec 32) (s : State) :
    (recordFault src r d s).reported src r d s.now := by
  unfold recordFault
  split
  · next i hi =>
    obtain ⟨e, he, hof⟩ := FaultTable.matching_some hi
    refine .inl ⟨i, collapseInto e d s.now, ?_, hof, rfl, rfl, rfl⟩
    change _ = _
    simp only [Tab.get_set_self, he, Option.map_some]
  · next hnone =>
    split
    · next i hi =>
      refine .inl ⟨i, newFault src r d s.now, ?_, FaultEntry.isOf_iff.mpr ⟨rfl, rfl⟩, rfl, rfl, rfl⟩
      change _ = _
      simp only [raise_faults, Tab.get_set_self]
    · next hfree =>
      have hfull : ∀ i : Fin 8, ∃ e ∈ s.faults.entries.get i, e.isOf src r = false := fun i => by
        obtain ⟨e, he⟩ := FaultTable.free_none hfree i
        exact ⟨e, he, FaultTable.matching_none hnone i e he⟩
      right
      split <;> exact ⟨hfull, rfl, rfl⟩

theorem recordFault_tells (src : FaultSource) (r : FaultReason) (d : BitVec 32) (s : State) :
    Tells false s (recordFault src r d s) := by
  have hraise : ∀ u : State, u.attention = s.attention → Tells false s (raise .faultNew u) := fun u hu =>
    (Tells.of_same hu).trans (Tells.raise .faultNew u)
  unfold recordFault
  split
  · exact .of_same rfl
  · split
    · exact hraise _ rfl
    · split
      · exact .of_same rfl
      · exact hraise _ rfl

/-- A report raises FAULT_NEW where it is due. -/
theorem recordFault_raises {src : FaultSource} {r : FaultReason} (d : BitVec 32) {s : State} (h : s.newsDue src r) :
    (recordFault src r d s).attention.raised.has .faultNew = true := by
  rcases h with hraised | ⟨hnone, hroom⟩
  · exact (recordFault_tells src r d s).kept _ hraised
  · unfold recordFault
    split
    · next i hi =>
      obtain ⟨e, he, hof⟩ := FaultTable.matching_some hi
      exact absurd ((hnone i e he).symm.trans hof) (by simp)
    · split
      · rw [raise_raised, CauseSet.has_insert]; simp
      · next hfree =>
        rcases hroom with ⟨i, hi⟩ | hover
        · obtain ⟨e, he⟩ := FaultTable.free_none hfree i
          exact absurd (hi.symm.trans he) (by simp)
        · rw [hover, if_neg (by simp), raise_raised, CauseSet.has_insert]; simp

/-- Between two moments of an event the reports of a reason stand, and FAULT_NEW remains due for them. -/
structure KeepsReports (r : FaultReason) (s t : State) : Prop where
  due : ∀ src, s.newsDue src r → t.newsDue src r
  reported : ∀ src d now, s.reported src r d now → t.reported src r d now

theorem KeepsReports.of_same (r : FaultReason) {s t : State} (hf : t.faults = s.faults)
    (hk : s.attention.raised.has .faultNew = true → t.attention.raised.has .faultNew = true) : KeepsReports r s t where
  due src := by
    unfold State.newsDue
    rw [hf]
    exact Or.imp hk id
  reported src d now := by
    unfold State.reported
    rw [hf]
    exact id

theorem KeepsReports.trans {r : FaultReason} {s t u : State} (h : KeepsReports r s t) (k : KeepsReports r t u) :
    KeepsReports r s u :=
  ⟨fun src => k.due src ∘ h.due src, fun src d now => k.reported src d now ∘ h.reported src d now⟩

/-- A report of another reason. -/
theorem recordFault_keepsReports {r r' : FaultReason} (hr : r ≠ r') (src' : FaultSource) (d' : BitVec 32) (s : State) :
    KeepsReports r s (recordFault src' r' d' s) where
  due src h := by
    rcases h with hraised | ⟨hnone, hroom⟩
    · exact .inl ((recordFault_tells src' r' d' s).kept _ hraised)
    · unfold recordFault
      split
      · next i hi =>
        obtain ⟨x, hx, hof⟩ := FaultTable.matching_some hi
        refine .inr ⟨fun j e he => ?_, ?_⟩
        · simp only [Tab.get_set] at he
          split at he
          · rw [hx] at he
            obtain rfl := Option.some.inj he
            exact FaultEntry.isOf_other (e := collapseInto x d' s.now) hof hr
          · exact hnone j e he
        · refine hroom.imp (fun ⟨j, hj⟩ => ⟨j, ?_⟩) id
          have hne : j ≠ i := fun h => absurd (hj.symm.trans (h ▸ hx)) (by simp)
          simp only [Tab.get_set, if_neg hne, hj]
      · split
        · exact .inl (by rw [raise_raised, CauseSet.has_insert]; simp)
        · next hfree =>
          rcases hroom with ⟨i, hi⟩ | hover
          · obtain ⟨e, he⟩ := FaultTable.free_none hfree i
            exact absurd (hi.symm.trans he) (by simp)
          · rw [hover, if_neg (by simp)]
            exact .inl (by rw [raise_raised, CauseSet.has_insert]; simp)
  reported src d now h := by
    unfold recordFault
    split
    · next i hi =>
      obtain ⟨x, hx, hof⟩ := FaultTable.matching_some hi
      refine h.imp (fun ⟨j, e, he, hj⟩ => ⟨j, e, ?_, hj⟩) (fun ⟨hfull, hover⟩ => ⟨fun j => ?_, hover⟩)
      · have hne : j ≠ i := by
          rintro rfl
          obtain rfl := Option.some.inj (hx.symm.trans he)
          exact absurd (hj.1.symm.trans (FaultEntry.isOf_other hof hr)) (by simp)
        simp only [Tab.get_set, if_neg hne]
        exact he
      · obtain ⟨e, he, hj⟩ := hfull j
        simp only [Tab.get_set]
        split
        · exact ⟨collapseInto x d' s.now, by rw [hx]; rfl, FaultEntry.isOf_other (e := collapseInto x d' s.now) hof hr⟩
        · exact ⟨e, he, hj⟩
    · split
      · next i hi =>
        have hfree := FaultTable.free_some hi
        refine h.imp (fun ⟨j, e, he, hj⟩ => ⟨j, e, ?_, hj⟩) (fun ⟨hfull, _⟩ => ?_)
        · have hne : j ≠ i := fun h => absurd ((h ▸ hfree).symm.trans he) (by simp)
          simp only [raise_faults, Tab.get_set, if_neg hne]
          exact he
        · obtain ⟨e, he, -⟩ := hfull i
          exact absurd (hfree.symm.trans he) (by simp)
      · have hover : ∀ u : State, u.faults = { s.faults with overflow := true, overflowSeen := false } → u.reported src r d now := by
          intro u hu
          unfold State.reported
          rw [hu]
          exact h.imp id fun ⟨hfull, _⟩ => ⟨hfull, rfl, rfl⟩
        split <;> exact hover _ rfl

/-! ### What offers and record changes tell -/

/-- Between two moments of an event: what the attention unit is told, with no report but those of a lost LOCK_REPLY. -/
structure News (locks : Bool) (s t : State) : Prop extends Tells locks s t where
  reports : ∀ r, r ≠ .queueFull → KeepsReports r s t

theorem News.of_same {s t : State} (ha : t.attention = s.attention) (hf : t.faults = s.faults) : News false s t :=
  ⟨.of_same ha, fun r _ => .of_same r hf (by rw [ha]; exact id)⟩

theorem News.refl (s : State) : News false s s := .of_same rfl rfl

theorem News.trans {a b : Bool} {s t u : State} (h : News a s t) (k : News b t u) : News (a || b) s u :=
  ⟨h.toTells.trans k.toTells, fun r hr => (h.reports r hr).trans (k.reports r hr)⟩

theorem News.updStation (s : State) (n : StationId) (f : Station → Station) : News false s (s.updStation n f) :=
  .of_same rfl rfl

theorem News.raise_lock (s : State) : News true s (raise .lockChange s) :=
  ⟨.raise .lockChange s, fun r _ => .of_same r rfl ((Tells.raise .lockChange s).kept _)⟩

theorem offer_news (n : StationId) (e : StationEntry) (s : State) : News false s (offer n e s) := by
  have hdepart : ∀ u : State, News false u (depart n u) := fun u => .of_same (depart_attention n u) (depart_faults n u)
  have hadmit : ∀ x : StationEntry, News false s (admitEntry n x s) := fun x => by
    rw [admitEntry_eq]
    cases lostReply (s.station n).queue x with
    | none => exact .of_same rfl rfl
    | some badge =>
      have hlost : ∀ u : State, News false u (replyLost n badge u) := fun u =>
        ⟨recordFault_tells _ _ _ _, fun r hr => recordFault_keepsReports hr _ _ _⟩
      exact (News.updStation s n _).trans (hlost _)
  unfold offer
  split
  · exact (hadmit _).trans (hdepart _)
  · exact .refl s

/-- An event records a report, where it is told all that goes before the report and after it. -/
theorem recorded_of_news {a b : Bool} {s y x t : State} {src : FaultSource} {r : FaultReason} {d : BitVec 32}
    (hr : r ≠ .queueFull) (hbefore : News a s y) (hnow : y.now = s.now) (hafter : News b (recordFault src r d y) x)
    (hf : t.faults = x.faults) (ha : t.attention = (examine x).attention) : s.recorded t src r d := by
  refine ⟨?_, fun hnone hroom => ?_⟩
  · have h := (hafter.reports r hr).reported src d y.now (recordFault_reported src r d y)
    unfold State.reported at h
    rw [hf, ← hnow]
    exact h
  · have hdue := (hbefore.reports r hr).due src (.inr ⟨hnone, hroom⟩)
    exact raises_of_pending ((hafter.latched.trans (recordFault_tells src r d y).latched).trans hbefore.latched)
      (hafter.kept _ (recordFault_raises d hdue)) ha

end Sys2Proof.Machine
end

section
/-! SUPPORT. The zones of a station whose heat block begins or ends (R101, R163), and the end of an event that has changed one
station (R168, R179). -/

namespace Sys2Proof.Machine

/-! ### Zones up to the mismatch deadline (R165) -/

/-- Two zones that differ at most in the mismatch deadline. -/
def Zone.alike (a b : Zone) : Prop := b = { a with mismatch := b.mismatch }

theorem State.becomes_iff {t : State} {n : StationId} {z : ZoneNum} {x : Zone} : t.becomes n z x ↔ x.alike (t.zone n z) := Iff.rfl

theorem Zone.alike_iff {a b : Zone} : a.alike b ↔ b.state = a.state ∧ b.onStart = a.onStart ∧ b.minOnReached = a.minOnReached
    ∧ b.offStart = a.offStart ∧ b.faultReason = a.faultReason := by
  unfold Zone.alike
  cases a
  cases b
  simp only [Zone.mk.injEq]
  tauto

theorem Zone.alike.refl (a : Zone) : a.alike a := rfl

theorem Zone.alike.trans {a b c : Zone} (h : a.alike b) (k : b.alike c) : a.alike c := by
  obtain ⟨h1, h2, h3, h4, h5⟩ := alike_iff.mp h
  obtain ⟨k1, k2, k3, k4, k5⟩ := alike_iff.mp k
  exact alike_iff.mpr ⟨k1.trans h1, k2.trans h2, k3.trans h3, k4.trans h4, k5.trans h5⟩

theorem SameBody.zone {a b : Station} (h : SameBody a b) (z : ZoneNum) : (a.zones.get z).alike (b.zones.get z) :=
  Zone.alike_iff.mpr ⟨h.zone_state z, h.zone_onStart z, h.zone_minOnReached z, h.zone_offStart z, h.zone_faultReason z⟩

/-- A zone that an inhibit leaves as it is (R163). -/
def ZoneState.exempt (x : ZoneState) : Prop := x = .disabled ∨ x = .fault ∨ x = .inhibited

theorem Zone.inhibit_exempt {z : Zone} (now : Time) (h : z.state.exempt) : z.inhibit now = z := by
  rcases h with h | h | h <;> simp [Zone.inhibit, h]

theorem Zone.inhibit_of_not_exempt {z : Zone} (now : Time) (h : ¬z.state.exempt) :
    z.inhibit now = { z with state := .inhibited, onStart := none, minOnReached := false, offStart := some now } := by
  unfold Zone.inhibit
  split
  · next hs => exact absurd (.inl hs) h
  · next hs => exact absurd (.inr (.inl hs)) h
  · next hs => exact absurd (.inr (.inr hs)) h
  all_goals rfl

theorem Zone.inhibit_alike {a b : Zone} (h : a.alike b) (now : Time) : (a.inhibit now).alike (b.inhibit now) := by
  have hstate := (Zone.alike_iff.mp h).1
  by_cases hx : a.state.exempt
  · rw [Zone.inhibit_exempt now hx, Zone.inhibit_exempt now (by rw [hstate]; exact hx)]
    exact h
  · rw [Zone.inhibit_of_not_exempt now hx, Zone.inhibit_of_not_exempt now (by rw [hstate]; exact hx)]
    obtain ⟨-, -, -, -, h5⟩ := Zone.alike_iff.mp h
    exact Zone.alike_iff.mpr ⟨rfl, rfl, rfl, rfl, h5⟩

/-! ### The want of several zones of one station -/

theorem State.wants_congr {s t : State} {n : StationId} {z : ZoneNum} (h : OnlyStations s t)
    (hon : (t.zone n z).state = .on ↔ (s.zone n z).state = .on) : t.wants n z = s.wants n z := by
  unfold State.wants
  rw [h.melt, h.surfaceValue, h.zoneRecord]
  simp only [hon]

theorem State.minOffSatisfied_congr {s t : State} {n : StationId} {z : ZoneNum} (h : OnlyStations s t)
    (hoff : (t.zone n z).offStart = (s.zone n z).offStart) : t.minOffSatisfied n z = s.minOffSatisfied n z := by
  unfold State.minOffSatisfied
  rw [hoff, h.zoneRecord, h.now]

theorem State.minOnReached_congr {s t : State} {n : StationId} {z : ZoneNum} (h : OnlyStations s t)
    (hz : t.zone n z = s.zone n z) : t.minOnReached n z = s.minOnReached n z := by
  unfold State.minOnReached
  rw [hz, h.zoneRecord, h.now]

/-- A zone after its own want is evaluated. -/
def State.afterWant (s : State) (n : StationId) (z : ZoneNum) : Zone :=
  (s.zone n z).afterWant (s.wants n z) (s.minOffSatisfied n z) (s.minOnReached n z) s.now

theorem State.afterWant_congr {s t : State} {n : StationId} {z : ZoneNum} (h : OnlyStations s t)
    (hz : t.zone n z = s.zone n z) : t.afterWant n z = s.afterWant n z := by
  unfold State.afterWant
  rw [hz, State.wants_congr h (by rw [hz]), State.minOffSatisfied_congr h (by rw [hz]), State.minOnReached_congr h hz, h.now]

/-- Each of several zones of one station is left by the evaluation of its own want. -/
theorem evalWants_zone (n : StationId) {zs : List ZoneNum} (hnodup : zs.Nodup) (s : State) (z : ZoneNum) :
    (evalWants (zs.map fun z => (n, z)) s).zone n z = if z ∈ zs then s.afterWant n z else s.zone n z := by
  induction zs generalizing s with
  | nil => rfl
  | cons y ys ih =>
    obtain ⟨hy, hys⟩ := List.nodup_cons.mp hnodup
    change (evalWants (ys.map fun z => (n, z)) (evalWant n y s)).zone n z = _
    have hown : (evalWant n y s).zone n z = if z = y then s.afterWant n y else s.zone n z := by
      rw [evalWant, State.updZone_zone]
      simp only [true_and]
      rfl
    rw [ih hys]
    by_cases hz : z = y
    · subst hz
      rw [if_neg hy, hown, if_pos rfl, if_pos (by simp)]
    · rw [if_neg hz] at hown
      simp only [List.mem_cons, hz, false_or]
      rw [hown, State.afterWant_congr (evalWant_only n y s) hown]

theorem evalWants_record (n : StationId) (zs : List ZoneNum) (s : State) :
    (evalWants (zs.map fun z => (n, z)) s).station n
      = { s.station n with zones := ((evalWants (zs.map fun z => (n, z)) s).station n).zones } := by
  induction zs generalizing s with
  | nil => rfl
  | cons y ys ih =>
    refine (ih (evalWant n y s)).trans ?_
    rw [show (evalWant n y s).station n = { s.station n with zones := ((evalWant n y s).station n).zones } by
      unfold evalWant; rw [State.updZone_station, if_pos rfl]]
    rfl

/-! ### The heat block (R101, R163) -/

/-- A zone of a station whose heat block was `before`: as its beginning or its end leaves it. -/
def State.blockZone (s : State) (n : StationId) (before : Bool) (z : ZoneNum) : Zone :=
  let zn := s.zone n z
  if !before && heatBlock (s.station n) then zn.inhibit s.now
  else if before && !heatBlock (s.station n) then
    if zn.state = .inhibited then { zn with state := if s.wants n z && s.minOffSatisfied n z then .wait else .off } else zn
  else zn

theorem endHeatBlock_zone (n : StationId) (s : State) (z : ZoneNum) :
    (endHeatBlock n s).zone n z =
      if (s.zone n z).state = .inhibited then
        { s.zone n z with state := if s.wants n z && s.minOffSatisfied n z then .wait else .off }
      else s.zone n z := by
  have hreleased : ∀ y, (s.updStation n fun st => { st with zones := Tab.ofFn fun z => (st.zones.get z).release }).zone n y
      = (s.zone n y).release := fun y => by
    unfold State.zone
    rw [State.updStation_station, if_pos rfl, Tab.get_ofFn]
  have honly := s.updStation_only n fun st => { st with zones := Tab.ofFn fun z => (st.zones.get z).release }
  have hnodup : (zoneNums.filter fun z => (s.zone n z).state == .inhibited).Nodup := .filter _ (by decide)
  unfold endHeatBlock
  rw [evalWants_zone n hnodup, hreleased]
  have hmem : z ∈ zoneNums.filter (fun z => (s.zone n z).state == .inhibited) ↔ (s.zone n z).state = .inhibited := by
    simp
  simp only [hmem]
  split
  · next hz =>
    have hrel : (s.zone n z).release = { s.zone n z with state := .off } := by rw [Zone.release, if_pos hz]
    unfold State.afterWant
    rw [State.wants_congr honly (by rw [hreleased, hrel, hz]; simp),
      State.minOffSatisfied_congr honly (by rw [hreleased, hrel]), hreleased, hrel]
    unfold Zone.afterWant
    simp only
    split <;> rfl
  · next hz => rw [Zone.release, if_neg hz]

theorem settleHeatBlock_zone (n : StationId) (before : Bool) (s : State) (z : ZoneNum) :
    (settleHeatBlock n before s).zone n z = s.blockZone n before z := by
  unfold settleHeatBlock State.blockZone
  simp only
  split
  · unfold beginHeatBlock State.zone
    rw [State.updStation_station, if_pos rfl, Tab.get_ofFn]
  · split
    · exact endHeatBlock_zone n s z
    · rfl

theorem settleHeatBlock_record (n : StationId) (before : Bool) (s : State) :
    (settleHeatBlock n before s).station n
      = { s.station n with zones := ((settleHeatBlock n before s).station n).zones } := by
  unfold settleHeatBlock
  split
  · unfold beginHeatBlock
    rw [State.updStation_station, if_pos rfl]
  · split
    · unfold endHeatBlock
      rw [evalWants_record, State.updStation_station, if_pos rfl]
    · rfl

theorem evalWants_news (zs : List (StationId × ZoneNum)) (s : State) : News false s (evalWants zs s) := by
  induction zs generalizing s with
  | nil => exact .refl s
  | cons p zs ih =>
    have hone : News false s (evalWant p.1 p.2 s) := .of_same rfl rfl
    exact hone.trans (ih (evalWant p.1 p.2 s))

theorem settleHeatBlock_news (n : StationId) (before : Bool) (s : State) : News false s (settleHeatBlock n before s) := by
  unfold settleHeatBlock
  split
  · exact .updStation s n _
  · split
    · exact News.trans (a := false) (b := false) (.updStation s n _) (evalWants_news _ _)
    · exact .refl s

/-- What `blockZone` says of a zone, in the words of R101 and R163. -/
theorem State.blockZone_cases (s : State) (n : StationId) (before : Bool) (z : ZoneNum) :
    (before = false → heatBlock (s.station n) = true → s.blockZone n before z = (s.zone n z).inhibit s.now)
    ∧ (before = true → heatBlock (s.station n) = false →
        ((s.zone n z).state ≠ .inhibited → s.blockZone n before z = s.zone n z)
        ∧ ((s.zone n z).state = .inhibited →
            s.blockZone n before z
              = { s.zone n z with state := if s.wants n z && s.minOffSatisfied n z then .wait else .off }))
    ∧ (before = heatBlock (s.station n) → s.blockZone n before z = s.zone n z) := by
  unfold State.blockZone
  refine ⟨fun hb ha => by simp [hb, ha], fun hb ha => ⟨fun hz => by simp [hb, ha, hz], fun hz => by simp [hb, ha, hz]⟩,
    fun hb => ?_⟩
  subst hb
  cases heatBlock (s.station n) <;> simp

theorem State.blockZone_alike {s t : State} {n : StationId} {z : ZoneNum} (before : Bool) (h : OnlyStations s t)
    (hblock : heatBlock (t.station n) = heatBlock (s.station n)) (hz : (s.zone n z).alike (t.zone n z)) :
    (s.blockZone n before z).alike (t.blockZone n before z) := by
  obtain ⟨hstate, hon, hmin, hoff, hreason⟩ := Zone.alike_iff.mp hz
  unfold State.blockZone
  simp only
  rw [hblock, hstate, h.now, State.wants_congr h (by rw [hstate]), State.minOffSatisfied_congr h hoff]
  split
  · exact Zone.inhibit_alike hz _
  · split
    · split
      · exact Zone.alike_iff.mpr ⟨rfl, hon, hmin, hoff, hreason⟩
      · exact hz
    · exact hz

/-! ### The end of an event on one station -/

/-- The HEAT marker of a station whose set of ON zones an event has changed (R168). -/
def markAt (n : StationId) (s0 s : State) : State := if s0.onMask n = s.onMask n then s else offer n .heat s

theorem offerHeatMarkers_one {n : StationId} {s0 s : State} (h : ∀ m, m ≠ n → s.station m = s0.station m) :
    offerHeatMarkers s0 s = markAt n s0 s := by
  have hskip : ∀ (l : List StationId) (u : State), n ∉ l → (∀ m, m ≠ n → u.station m = s0.station m) →
      l.foldl (fun s m => if s0.onMask m = s.onMask m then s else offer m .heat s) u = u := by
    intro l
    induction l with
    | nil => exact fun _ _ _ => rfl
    | cons m l ih =>
      intro u hn hu
      simp only [List.mem_cons, not_or] at hn
      have hmask : s0.onMask m = u.onMask m := by
        rw [State.onMask_eq, State.onMask_eq, hu m (Ne.symm hn.1)]
      rw [List.foldl_cons, if_pos hmask]
      exact ih u hn.2 hu
  have hone : ∀ (l : List StationId), l.Nodup → n ∈ l →
      l.foldl (fun s m => if s0.onMask m = s.onMask m then s else offer m .heat s) s = markAt n s0 s := by
    intro l
    induction l with
    | nil => exact fun _ hn => absurd hn (by simp)
    | cons m l ih =>
      intro hnodup hn
      obtain ⟨hm, hl⟩ := List.nodup_cons.mp hnodup
      rw [List.foldl_cons]
      by_cases hmn : m = n
      · subst hmn
        refine hskip l _ hm fun k hk => ?_
        split
        · exact h k hk
        · exact (offer_station_ne m k _ s hk).trans (h k hk)
      · have hmask : s0.onMask m = s.onMask m := by
          rw [State.onMask_eq, State.onMask_eq, h m hmn]
        rw [if_pos hmask]
        exact ih hl ((List.mem_cons.mp hn).resolve_left (Ne.symm hmn))
  exact hone stationIds nodup_stationIds (mem_stationIds n)

theorem markAt_ports (n : StationId) (s0 s : State) : OnlyPorts s (markAt n s0 s) := by
  unfold markAt
  split
  · exact .refl s
  · exact offer_ports n .heat s

theorem markAt_news (n : StationId) (s0 s : State) : News false s (markAt n s0 s) := by
  unfold markAt
  split
  · exact .refl s
  · exact offer_news n .heat s

theorem markAt_station_ne {n m : StationId} (s0 s : State) (h : m ≠ n) : (markAt n s0 s).station m = s.station m := by
  unfold markAt
  split
  · rfl
  · exact offer_station_ne n m .heat s h

/-- The marker that the end of an event offers. -/
def markOf (n : StationId) (s0 s : State) : List StationEntry := if s0.onMask n = s.onMask n then [] else [.heat]

theorem markAt_offers (n : StationId) (s0 s : State) :
    Offers s.nodeAddress (markOf n s0 s) (s.station n) ((markAt n s0 s).station n) := by
  unfold markAt markOf
  split
  · exact .refl
  · exact offers_offer s rfl

/-- An event ends in `t` that began in `s` and has left `x`, of which it changed station `n` alone: the HEAT marker, and the
examination of the attention unit. -/
structure Ends (n : StationId) (s x t : State) : Prop where
  stations : t.stations = (markAt n s x).stations
  faults : t.faults = (markAt n s x).faults
  attention : t.attention = (examine (markAt n s x)).attention
  wind : t.wind = x.wind

theorem closeEvent_eq {n : StationId} {s x : State} (hwind : x.wind = s.wind) (h : ∀ m, m ≠ n → x.station m = s.station m) :
    closeEvent s x = examine (markAt n s x) := by
  rw [closeEvent, settleStow_same s x (stowActive_of_wind hwind), offerHeatMarkers_one h]

theorem closeEvent_ends {n : StationId} {s x : State} (hwind : x.wind = s.wind) (h : ∀ m, m ≠ n → x.station m = s.station m) :
    Ends n s x (closeEvent s x) := by
  rw [closeEvent_eq hwind h]
  refine ⟨examine_stations _, ?_, rfl, ?_⟩
  · rw [examine_eq]
  · rw [examine_eq]
    exact (markAt_ports n s x).only.wind

section
variable {n : StationId} {s x t : State}

theorem Ends.station (h : Ends n s x t) (m : StationId) : t.station m = (markAt n s x).station m :=
  State.station_congr h.stations m

theorem Ends.body (h : Ends n s x t) : SameBody (x.station n) (t.station n) := by
  rw [h.station]
  exact (markAt_ports n s x).same n

theorem Ends.zone (h : Ends n s x t) (z : ZoneNum) : (x.zone n z).alike (t.zone n z) := h.body.zone z

theorem Ends.offers (h : Ends n s x t) : Offers x.nodeAddress (markOf n s x) (x.station n) (t.station n) := by
  rw [h.station]
  exact markAt_offers n s x

theorem Ends.stowActive (h : Ends n s x t) : t.stowActive = x.stowActive := stowActive_of_wind h.wind

theorem Ends.authority (h : Ends n s x t) : t.authority n = x.authority n := by
  unfold State.authority
  rw [h.stowActive, h.body.authorityOf]

theorem Ends.raises (h : Ends n s x t) {locks : Bool} (hnews : Tells locks s x) {k : Cause}
    (hk : x.attention.raised.has k = true) : s.raises t k := by
  have hmark := (markAt_news n s x).toTells
  exact raises_of_pending (hmark.latched.trans hnews.latched) (hmark.kept k hk) h.attention

theorem Ends.raises_lock (h : Ends n s x t) (hnews : Tells true s x) : s.raises t .lockChange :=
  h.raises hnews (by rw [hnews.lock, Bool.or_true])

theorem Ends.silent_lock (h : Ends n s x t) (hnews : Tells false s x) : s.silent t .lockChange := by
  have hmark := (markAt_news n s x).toTells
  exact silent_of_same (hmark.latched.trans hnews.latched) (by rw [hmark.lock, hnews.lock]; simp) h.attention

/-- Where the ON zones of the station have changed, the marker is offered last (R168). -/
theorem Ends.marked (h : Ends n s x t) {es : List StationEntry} {a : Station}
    (hoffers : Offers x.nodeAddress es a (x.station n)) (hup : (s.station n).link.isUp = true → a.link.isUp = true)
    (htx : (s.station n).tx.isSome = true → a.tx.isSome = true) (hlaw : queueLaw (s.station n).queue → queueLaw a.queue) :
    s.marked t n := by
  rintro ⟨z, hz⟩ hqueues ⟨hup0, htx0⟩
  have hmask : markOf n s x = [.heat] := by
    refine if_neg fun hmask => hz ?_
    have hbit : ((s.zone n z).state == .on) = ((x.zone n z).state == .on) := by
      have := congrArg (fun m : BitVec 4 => m.getLsbD z.val) hmask
      simp only [State.onMask_eq, onMaskOf_getLsbD] at this
      exact this
    rw [(Zone.alike_iff.mp (h.zone z)).1, ← beq_iff_eq, hbit, beq_iff_eq]
  have hlast := hmask ▸ hoffers.trans h.offers
  exact Offers.waits (post := []) hlast (hup hup0) (htx htx0) (hlaw (hqueues n).1) rfl (by simp)

end

/-- The heat block's part of an event: each zone is as `blockZone` leaves it, and the marker is offered (R101, R163, R168). -/
theorem blockFollows_of {n : StationId} {s w t : State} (hmark : s.marked t n) (honly : OnlyStations s w)
    (hzone : ∀ z, (s.zone n z).alike (w.zone n z))
    (ht : ∀ z, (w.blockZone n (heatBlock (s.station n)) z).alike (t.zone n z))
    (hblock : heatBlock (t.station n) = heatBlock (w.station n)) : s.blockFollows t n := by
  refine ⟨hmark, fun z => ?_⟩
  have hz := hzone z
  obtain ⟨hstate, hon, hmin, hoff, hreason⟩ := Zone.alike_iff.mp hz
  obtain ⟨hbegin, hend, hsame⟩ := w.blockZone_cases n (heatBlock (s.station n)) z
  have hrested : (∀ start ∈ (s.zone n z).offStart, (s.zoneRecord n z).minOff ≤ (s.now - start).toNat)
      ↔ s.minOffSatisfied n z = true := by
    unfold State.minOffSatisfied sinceAtLeast
    cases (s.zone n z).offStart <;> simp
  simp only [State.becomes_iff]
  refine ⟨fun h0 h1 => ?_, fun h0 h1 => ?_, fun h => ?_⟩
  · rw [hblock] at h1
    have htz := ht z
    rw [hbegin h0 h1, honly.now] at htz
    have hinh := (Zone.inhibit_alike hz s.now).trans htz
    refine ⟨fun hx => ?_, fun hx => ?_⟩
    · rwa [Zone.inhibit_exempt _ hx] at hinh
    · rwa [Zone.inhibit_of_not_exempt _ hx] at hinh
  · rw [hblock] at h1
    obtain ⟨hstay, hout⟩ := hend h0 h1
    rw [hstate] at hstay hout
    refine ⟨fun hx => hz.trans ((hstay hx) ▸ ht z), fun hx => ?_⟩
    have htz := ht z
    rw [hout hx, State.wants_congr honly (by rw [hstate]), State.minOffSatisfied_congr honly hoff] at htz
    rw [hrested, ← Bool.and_eq_true]
    have hlike : ∀ x : ZoneState, ({ s.zone n z with state := x } : Zone).alike { w.zone n z with state := x } := fun x =>
      Zone.alike_iff.mpr ⟨rfl, hon, hmin, hoff, hreason⟩
    refine ⟨fun hw => ?_, fun hw => ?_⟩
    · rw [if_pos hw] at htz
      exact (hlike _).trans htz
    · rw [if_neg hw] at htz
      exact (hlike _).trans htz
  · rw [hblock] at h
    exact hz.trans ((hsame h) ▸ ht z)

end Sys2Proof.Machine
end

section
/-! SUPPORT. What the settling of a station leaves of its record, as a function of the record before it: the transition of R20,
the reply, clearing and the heat block, where the event returns no station to its stow (R20, R90, R97, R98, R101, R140). -/

namespace Sys2Proof.Machine

/-! ### The record -/

/-- A present clearing is cancelled (R98). -/
def Station.cancels (st : Station) : Bool := st.clearing.isSome && driveCount st != 0

/-- Clearing starts at a station that was not able to clear (R97). -/
def Station.starts (able : Bool) (st : Station) : Bool := !able && eligible st

/-- A record whose authority turns from permitting to non-permitting, or does not (R20, R140). -/
def Station.suspended (turned : Bool) (st : Station) : Station :=
  if turned then
    { clearDemand st with grant := noGrant, warnTimer := if st.progress = .warning then none else st.warnTimer }
  else st

/-- A record after its settling, but for its zones and its port. -/
def Station.settled (turned able : Bool) (timer : Timer) (st : Station) : Station :=
  { st.suspended turned with
    clearing := if st.cancels then none else if st.starts able then some timer else st.clearing }

/-- The queue of a station whose moving SETPOINTs become STOP setpoints where its authority turns (R20). -/
def Station.stilled (turned : Bool) (stop : Setpoint) (st : Station) : Station :=
  { st with queue := if turned then replaceSetpoints Setpoint.moving stop st.queue else st.queue }

/-- The HORN entries that a settling offers (R90, R97, R98, R140). -/
def Station.horns (turned able : Bool) (st : Station) : List StationEntry :=
  (if turned && st.progress == .warning then [.horn false] else [])
    ++ ((if st.cancels then [.horn false] else []) ++ if st.starts able then [.horn true] else [])

/-- The LOCK_REPLY that a settling offers (R90). -/
def repliesOf (reply : Option LockReply) : List StationEntry := (reply.map StationEntry.lockReply).toList

theorem Station.free_eq (st : Station) : st.free = (eligible st && st.clearing.isNone && st.faultLatch == .none) := rfl

theorem Station.not_cancels_of_eligible {st : Station} (h : eligible st = true) : st.cancels = false := by
  simp only [eligible, Bool.and_eq_true, beq_iff_eq] at h
  simp [Station.cancels, h]

/-! ### What the stages leave -/

/-- What one stage of a settling leaves of station `n`: its body is that of `b`, its port that of the old record after the
entries `es`. -/
structure Stage (n : StationId) (es : List StationEntry) (locks : Bool) (u v : State) (b : Station) : Prop where
  only : OnlyStations u v
  body : SameBody b (v.station n)
  offers : Offers u.nodeAddress es (u.station n) (v.station n)
  news : News locks u v

section
variable {n : StationId} {es fs : List StationEntry} {a b : Bool} {u v w : State} {st st' : Station}

theorem Stage.refl (n : StationId) (u : State) : Stage n [] false u u (u.station n) := ⟨.refl u, .refl _, .refl, .refl u⟩

/-- A change of a record that leaves its port alone, then the offer of an entry. -/
theorem Stage.offer_after (n : StationId) (u : State) (f : Station → Station) (e : StationEntry)
    (hport : (f (u.station n)).queue = (u.station n).queue ∧ (f (u.station n)).link.isUp = (u.station n).link.isUp
      ∧ (f (u.station n)).tx = (u.station n).tx := by exact ⟨rfl, rfl, rfl⟩)
    (he : ∀ s, checked n e s = e := by exact fun _ => rfl) :
    Stage n [e] false u (offer n e (u.updStation n f)) (f (u.station n)) := by
  have hf : (u.updStation n f).station n = f (u.station n) := by rw [State.updStation_station, if_pos rfl]
  have hports := offer_ports n e (u.updStation n f)
  obtain ⟨hq, hup, htx⟩ := hport
  refine ⟨(u.updStation_only n f).trans hports.only, hf ▸ hports.same n, ?_,
    News.trans (a := false) (b := false) (.updStation u n f) (offer_news n e _)⟩
  have hoffer := offers_offer (u.updStation n f) (he (u.updStation n f))
  rw [hf] at hoffer
  exact (Offers.of_same (node := u.nodeAddress) hup htx hq).trans hoffer

theorem Stage.raise_lock (h : Stage n es a u v st) : Stage n es true u (raise .lockChange v) st where
  only := h.only.trans (raise_ports .lockChange v).only
  body := h.body
  offers := h.offers
  news := by
    have := h.news.trans (News.raise_lock v)
    rwa [Bool.or_true] at this

end

theorem answerLock_stage (n : StationId) (reply : Option LockReply) (u : State) :
    Stage n (repliesOf reply) false u (answerLock n reply u) (u.station n) := by
  have hports := answerLock_ports n reply u
  refine ⟨hports.only, hports.same n, ?_, ?_⟩
  · cases reply with
    | none => exact .refl
    | some r => exact offers_offer u rfl
  · cases reply with
    | none => exact .refl u
    | some r => exact offer_news n _ u

theorem cancelClearing_stage (n : StationId) (u : State) :
    Stage n (if (u.station n).cancels then [.horn false] else []) (u.station n).cancels u (cancelClearing n u)
      { u.station n with clearing := if (u.station n).cancels then none else (u.station n).clearing } := by
  unfold cancelClearing
  change Stage _ _ _ _ (if (u.station n).cancels = true then _ else _) _
  cases (u.station n).cancels with
  | true => exact (Stage.offer_after n u (fun st => { st with clearing := none }) (.horn false)).raise_lock
  | false => exact .refl n u

theorem startClearing_stage (n : StationId) (able : Bool) (u : State) :
    Stage n (if (u.station n).starts able then [.horn true] else []) ((u.station n).starts able) u (startClearing n able u)
      { u.station n with
        clearing := if (u.station n).starts able then some ⟨u.now, u.settings.timing.clearDelay⟩
          else (u.station n).clearing } := by
  unfold startClearing
  change Stage _ _ _ _ (if (u.station n).starts able = true then _ else _) _
  cases (u.station n).starts able with
  | true =>
    exact (Stage.offer_after n u (fun st => { st with clearing := some (u.timer u.settings.timing.clearDelay) })
      (.horn true)).raise_lock
  | false => exact .refl n u

/-- Records that are the same but for one field stay so when that field is set. -/
theorem SameBody.with_clearing {a b : Station} (h : SameBody a b) (c : Option Timer) :
    SameBody { a with clearing := c } { b with clearing := c } := by
  obtain ⟨h1, h2, h3, h4, -, h6, h7, h8, h9, h10, h11, h12, h13, h14, h15, h16, h17, h18, h19, h20, h21, h22⟩ := h
  exact ⟨h1, h2, h3, h4, rfl, h6, h7, h8, h9, h10, h11, h12, h13, h14, h15, h16, h17, h18, h19, h20, h21, h22⟩

theorem SameBody.with_warnTimer {a b : Station} (h : SameBody a b) (w : Option Timer) :
    SameBody { a with warnTimer := w } { b with warnTimer := w } := by
  obtain ⟨h1, h2, h3, h4, h5, h6, h7, -, h9, h10, h11, h12, h13, h14, h15, h16, h17, h18, h19, h20, h21, h22⟩ := h
  exact ⟨h1, h2, h3, h4, h5, h6, h7, rfl, h9, h10, h11, h12, h13, h14, h15, h16, h17, h18, h19, h20, h21, h22⟩

theorem suspendWarning_stage (n : StationId) (u : State) :
    Stage n (if (u.station n).progress = .warning then [.horn false] else []) false u (suspendWarning n u)
      { u.station n with
        warnTimer := if (u.station n).progress = .warning then none else (u.station n).warnTimer } := by
  unfold suspendWarning
  split
  · exact Stage.offer_after n u (fun st => { st with warnTimer := none }) (.horn false)
  · exact .refl n u

/-- The transition of R20 with the reply: what it leaves of the record, and of its port counted from the queue whose moving
SETPOINTs are replaced. -/
theorem settleMotion_stage (n : StationId) (turned : Bool) (reply : Option LockReply) (u : State) :
    OnlyStations u (settleMotion n turned reply u)
      ∧ SameBody ((u.station n).suspended turned) ((settleMotion n turned reply u).station n)
      ∧ Offers u.nodeAddress
          (repliesOf reply ++ if turned && (u.station n).progress == .warning then [.horn false] else [])
          ((u.station n).stilled turned (u.stopSetpoint n)) ((settleMotion n turned reply u).station n)
      ∧ News false u (settleMotion n turned reply u) := by
  cases turned with
  | false =>
    have h := answerLock_stage n reply u
    refine ⟨h.only, h.body, ?_, h.news⟩
    exact ((Offers.of_same rfl rfl rfl).trans h.offers).congr (by simp)
  | true =>
    have honly := revokeMotion_only n u
    have hanswer := answerLock_stage n reply (revokeMotion n u)
    have hsuspend := suspendWarning_stage n (answerLock n reply (revokeMotion n u))
    have hrev : (revokeMotion n u).station n = { clearDemand (u.station n) with
        queue := replaceSetpoints Setpoint.moving (u.stopSetpoint n) (u.station n).queue, grant := noGrant } := by
      rw [revokeMotion, State.updStation_station, if_pos rfl]
    have hprogress : ((answerLock n reply (revokeMotion n u)).station n).progress = (u.station n).progress := by
      rw [hanswer.body.progress, hrev]
      rfl
    refine ⟨(honly.trans hanswer.only).trans hsuspend.only, ?_, ?_, ?_⟩
    · refine SameBody.trans ?_ hsuspend.body
      rw [hanswer.body.warnTimer, hprogress, hrev]
      refine SameBody.trans ?_ (hanswer.body.with_warnTimer _)
      rw [hrev]
      constructor <;> first | rfl | exact fun _ => rfl
    · have hsecond := hsuspend.offers
      rw [hanswer.only.nodeAddress] at hsecond
      have hport := hanswer.offers.trans hsecond
      rw [hprogress, hrev] at hport
      have hbase : Offers u.nodeAddress [] ((u.station n).stilled true (u.stopSetpoint n)) { clearDemand (u.station n) with
          queue := replaceSetpoints Setpoint.moving (u.stopSetpoint n) (u.station n).queue, grant := noGrant } :=
        .of_same rfl rfl rfl
      refine (hbase.trans hport).congr ?_
      simp
    · have hupd : News false u (revokeMotion n u) := .updStation u n _
      exact (hupd.trans hanswer.news).trans hsuspend.news

/-! ### The settling of a station -/

/-- What a settling of station `n` leaves, in an event that began in `s` and has left `y`. -/
structure Settles (n : StationId) (s y z : State) (reply : Option LockReply) : Prop where
  only : OnlyStations y z
  others : ∀ m, m ≠ n → z.station m = y.station m
  body : SameBody
    { (y.station n).settled (s.turnedAt y n) (eligible (s.station n)) ⟨y.now, y.settings.timing.clearDelay⟩ with
      zones := (z.station n).zones } (z.station n)
  zone : ∀ i, (y.blockZone n (heatBlock (s.station n)) i).alike (z.zone n i)
  offers : Offers y.nodeAddress (repliesOf reply ++ (y.station n).horns (s.turnedAt y n) (eligible (s.station n)))
    ((y.station n).stilled (s.turnedAt y n) (y.stopSetpoint n)) (z.station n)
  news : News ((y.station n).cancels || (y.station n).starts (eligible (s.station n))) y z
  quiet : s.turnedAt y n = true → quietQueue (z.station n).queue

theorem Station.suspended_installed (turned : Bool) (st : Station) : (st.suspended turned).installed = st.installed := by
  cases turned <;> rfl

theorem Station.suspended_link (turned : Bool) (st : Station) : (st.suspended turned).link = st.link := by
  cases turned <;> rfl

theorem Station.suspended_lockReportSeen (turned : Bool) (st : Station) : (st.suspended turned).lockReportSeen = st.lockReportSeen := by
  cases turned <;> rfl

theorem Station.suspended_holders (turned : Bool) (st : Station) : (st.suspended turned).holders = st.holders := by
  cases turned <;> rfl

theorem Station.suspended_faultLatch (turned : Bool) (st : Station) : (st.suspended turned).faultLatch = st.faultLatch := by
  cases turned <;> rfl

theorem Station.suspended_progress (turned : Bool) (st : Station) : (st.suspended turned).progress = st.progress := by
  cases turned <;> rfl

theorem Station.suspended_clipStatus (turned : Bool) (st : Station) : (st.suspended turned).clipStatus = st.clipStatus := by
  cases turned <;> rfl

theorem Station.suspended_clipLog (turned : Bool) (st : Station) : (st.suspended turned).clipLog = st.clipLog := by
  cases turned <;> rfl

theorem Station.suspended_eligible (turned : Bool) (st : Station) : eligible (st.suspended turned) = eligible st := by
  cases turned <;> rfl

theorem Station.suspended_heatBlock (turned : Bool) (st : Station) : heatBlock (st.suspended turned) = heatBlock st := by
  cases turned <;> rfl

theorem Station.suspended_zones (turned : Bool) (st : Station) : (st.suspended turned).zones = st.zones := by
  cases turned <;> rfl

theorem Station.suspended_cancels (turned : Bool) (st : Station) : (st.suspended turned).cancels = st.cancels := by
  cases turned <;> rfl

theorem Station.suspended_starts (turned able : Bool) (st : Station) : (st.suspended turned).starts able = st.starts able := by
  cases turned <;> rfl

theorem SameBody.cancels {a b : Station} (h : SameBody a b) : b.cancels = a.cancels := by
  rw [Station.cancels, Station.cancels, h.clearing, h.driveCount]

theorem SameBody.starts {a b : Station} (h : SameBody a b) (able : Bool) : b.starts able = a.starts able := by
  rw [Station.starts, Station.starts, h.eligible]

/-- Before the heat block: the first three stages of a settling. -/
theorem settleClearing_stage (n : StationId) (turned able : Bool) (reply : Option LockReply) (y : State) :
    let x := startClearing n able (cancelClearing n (settleMotion n turned reply y))
    OnlyStations y x
      ∧ SameBody ((y.station n).settled turned able ⟨y.now, y.settings.timing.clearDelay⟩) (x.station n)
      ∧ Offers y.nodeAddress (repliesOf reply ++ (y.station n).horns turned able)
          ((y.station n).stilled turned (y.stopSetpoint n)) (x.station n)
      ∧ News ((y.station n).cancels || (y.station n).starts able) y x := by
  obtain ⟨honly, hbody, hoffers, hnews⟩ := settleMotion_stage n turned reply y
  have hcancel := cancelClearing_stage n (settleMotion n turned reply y)
  have hstart := startClearing_stage n able (cancelClearing n (settleMotion n turned reply y))
  have hc : ((settleMotion n turned reply y).station n).cancels = (y.station n).cancels :=
    hbody.cancels.trans (Station.suspended_cancels _ _)
  have hs : ((cancelClearing n (settleMotion n turned reply y)).station n).starts able = (y.station n).starts able :=
    (hcancel.body.starts able).trans ((hbody.starts able).trans (Station.suspended_starts _ _ _))
  rw [hc] at hcancel
  rw [hs] at hstart
  refine ⟨(honly.trans hcancel.only).trans hstart.only, ?_, ?_, ?_⟩
  · refine SameBody.trans ?_ hstart.body
    refine SameBody.trans ?_ (hcancel.body.with_clearing _)
    rw [hcancel.body.clearing, hbody.clearing, hcancel.only.now, hcancel.only.settings, honly.now, honly.settings]
    have hset := hbody.with_clearing
      ((y.station n).settled turned able ⟨y.now, y.settings.timing.clearDelay⟩).clearing
    refine SameBody.trans (.refl _) (Eq.mp (congrArg (SameBody _) ?_) hset)
    have hsus : ((y.station n).suspended turned).clearing = (y.station n).clearing := by cases turned <;> rfl
    simp only [Station.settled, hsus]
    cases h1 : (y.station n).cancels with
    | false => rfl
    | true =>
      have h2 : (y.station n).starts able = false := by
        rw [← Bool.not_eq_true]
        intro h2
        simp only [Station.starts, Bool.and_eq_true] at h2
        exact absurd (h1.symm.trans (Station.not_cancels_of_eligible h2.2)) (by simp)
      simp [h2]
  · have h1 := hcancel.offers
    have h2 := hstart.offers
    rw [honly.nodeAddress] at h1
    rw [hcancel.only.nodeAddress, honly.nodeAddress] at h2
    refine (hoffers.trans (h1.trans h2)).congr ?_
    rw [Station.horns, List.append_assoc]
  · have := (hnews.trans hcancel.news).trans hstart.news
    rwa [Bool.false_or] at this

/-- A settling of a station that no event frees of what blocked it resumes no stow. -/
theorem settleStation_unresumed {n : StationId} {s y : State} (reply : Option LockReply)
    (hlatch : (y.station n).faultLatch = .none → (s.station n).faultLatch = .none)
    (hclear : (y.station n).clearing = none → eligible (y.station n) = true → (s.station n).clearing = none) :
    settleStation n s reply y = settleHeatBlock n (heatBlock (s.station n)) (startClearing n (eligible (s.station n))
      (cancelClearing n (settleMotion n (s.turnedAt y n) reply y))) := by
  obtain ⟨-, hbody, -, -⟩ := settleClearing_stage n (s.turnedAt y n) (eligible (s.station n)) reply y
  rw [settleStation_eq]
  generalize startClearing n (eligible (s.station n)) (cancelClearing n (settleMotion n (s.turnedAt y n) reply y)) = x at *
  have hfree : (x.station n).free = true → (s.station n).free = true := by
    intro hx
    rw [Station.free_eq, Bool.and_eq_true, Bool.and_eq_true, hbody.eligible, hbody.faultLatch, hbody.clearing] at hx
    obtain ⟨⟨h1, h2⟩, h3⟩ := hx
    have h1 : eligible (y.station n) = true := (Station.suspended_eligible _ _).symm.trans h1
    have h3 : (y.station n).faultLatch = .none := (Station.suspended_faultLatch _ _).symm.trans (beq_iff_eq.mp h3)
    simp only [Station.settled, Station.not_cancels_of_eligible h1, Bool.false_eq_true, if_false] at h2
    cases hstart : (y.station n).starts (eligible (s.station n)) with
    | true => rw [hstart] at h2; exact absurd h2 (by simp)
    | false =>
      rw [hstart] at h2
      have hcl : (y.station n).clearing = none := by simpa using h2
      have hse : eligible (s.station n) = true := by simpa [Station.starts, h1] using hstart
      rw [Station.free_eq, hse, hclear hcl h1, hlatch h3]
      rfl
  cases hx : (x.station n).free with
  | true => rw [s.authority_blocked, hfree hx, Bool.not_true, resumeStow_of_free n x]
  | false => simp [resumeStow, x.authority_blocked, hx]

/-- A settling of a station that no event frees of what blocked it. -/
theorem settleStation_settles {n : StationId} {s y : State} (reply : Option LockReply)
    (hlatch : (y.station n).faultLatch = .none → (s.station n).faultLatch = .none)
    (hclear : (y.station n).clearing = none → eligible (y.station n) = true → (s.station n).clearing = none) :
    Settles n s y (settleStation n s reply y) reply := by
  obtain ⟨honly, hbody, hoffers, hnews⟩ := settleClearing_stage n (s.turnedAt y n) (eligible (s.station n)) reply y
  have hothers := fun m hm => settleStation_station_ne n m s reply y hm
  have hquiet : s.turnedAt y n = true → quietQueue ((settleStation n s reply y).station n).queue := settleStation_turned reply
  rw [settleStation_unresumed reply hlatch hclear] at hothers hquiet ⊢
  generalize startClearing n (eligible (s.station n)) (cancelClearing n (settleMotion n (s.turnedAt y n) reply y)) = x at *
  refine ⟨honly.trans (settleHeatBlock_only n _ x), hothers, ?_, fun i => ?_, ?_, ?_, hquiet⟩
  · rw [settleHeatBlock_record]
    obtain ⟨h1, h2, h3, h4, h5, h6, h7, h8, h9, h10, h11, h12, h13, h14, h15, h16, h17, -⟩ := hbody
    constructor <;> first | assumption | exact fun _ => rfl
  · rw [settleHeatBlock_zone]
    refine State.blockZone_alike _ honly (hbody.heatBlock.trans (Station.suspended_heatBlock _ _)) ?_
    have hz := hbody.zone i
    rw [show ((y.station n).settled (s.turnedAt y n) (eligible (s.station n)) _).zones = _ from
      Station.suspended_zones (s.turnedAt y n) (y.station n)] at hz
    exact hz
  · rw [settleHeatBlock_record]
    have hsame : Offers y.nodeAddress [] (x.station n)
        { x.station n with zones := ((settleHeatBlock n (heatBlock (s.station n)) x).station n).zones } := .of_same rfl rfl rfl
    exact (hoffers.trans hsame).congr (List.append_nil _)
  · have := hnews.trans (settleHeatBlock_news n (heatBlock (s.station n)) x)
    rwa [Bool.or_false] at this

end Sys2Proof.Machine
end

section
/-! SUPPORT. A whole event on one station: what follows for its motion, its clearing, its heat block and LOCK_CHANGE, in the words
of the rules (R20, R87, R97, R98, R101, R140, R163). -/

namespace Sys2Proof.Machine

/-! ### The event's own change -/

/-- An event that began in `s` has made of station `n` what it is in `y`: its link, its people, its latch and its telemetry. -/
structure Edited (n : StationId) (s y : State) : Prop where
  only : OnlyStations s y
  others : ∀ m, m ≠ n → y.station m = s.station m
  body : SameBody
    { s.station n with
      link := (y.station n).link
      lockReportSeen := (y.station n).lockReportSeen
      holders := (y.station n).holders
      clearing := (y.station n).clearing
      faultLatch := (y.station n).faultLatch
      lastTelemetry := (y.station n).lastTelemetry } (y.station n)
  clearing : (s.station n).clearing = none → (y.station n).clearing = none
  port : (s.station n).link.isUp = true → (y.station n).link.isUp = true →
    (y.station n).tx = (s.station n).tx ∧ (y.station n).queue = (s.station n).queue
      ∧ (y.station n).lastSent = (s.station n).lastSent

/-- What an event on station `n` has left at its end in `t`, of which `y` is its own change and `reply` its LOCK_REPLY. -/
structure Closed (n : StationId) (s y t : State) (reply : Option LockReply) : Prop where
  body : SameBody
    { (y.station n).settled (s.turnedAt y n) (eligible (s.station n)) ⟨y.now, y.settings.timing.clearDelay⟩ with
      zones := (t.station n).zones } (t.station n)
  stowActive : t.stowActive = y.stowActive
  offers : ∃ marks : List StationEntry, (marks = [] ∨ marks = [.heat])
    ∧ Offers y.nodeAddress ((repliesOf reply ++ (y.station n).horns (s.turnedAt y n) (eligible (s.station n))) ++ marks)
      ((y.station n).stilled (s.turnedAt y n) (y.stopSetpoint n)) (t.station n)
  quiet : s.turnedAt y n = true → quietQueue (t.station n).queue

theorem SameBody.with_own_zones {a b c : Station} (h : SameBody { a with zones := b.zones } b) (k : SameBody b c) :
    SameBody { a with zones := c.zones } c := by
  obtain ⟨h1, h2, h3, h4, h5, h6, h7, h8, h9, h10, h11, h12, h13, h14, h15, h16, h17, -⟩ := h
  obtain ⟨k1, k2, k3, k4, k5, k6, k7, k8, k9, k10, k11, k12, k13, k14, k15, k16, k17, -⟩ := k
  exact ⟨k1.trans h1, k2.trans h2, k3.trans h3, k4.trans h4, k5.trans h5, k6.trans h6, k7.trans h7, k8.trans h8, k9.trans h9,
    k10.trans h10, k11.trans h11, k12.trans h12, k13.trans h13, k14.trans h14, k15.trans h15, k16.trans h16, k17.trans h17,
    fun _ => rfl, fun _ => rfl, fun _ => rfl, fun _ => rfl, fun _ => rfl⟩

theorem Settles.closed {n : StationId} {s y z t : State} {reply : Option LockReply} (h : Settles n s y z reply)
    (k : Ends n s z t) : Closed n s y t reply where
  body := h.body.with_own_zones k.body
  stowActive := k.stowActive.trans h.only.stowActive
  offers := by
    refine ⟨markOf n s z, ?_, h.offers.trans (h.only.nodeAddress ▸ k.offers)⟩
    unfold markOf
    split <;> simp
  quiet hturned := by
    rw [k.station]
    have hcalm : Calm z (markAt n s z) := by
      unfold markAt
      split
      · exact .refl z
      · exact .offer_of_ne n .heat z
    exact hcalm.quiet n (h.quiet hturned)

section
variable {n : StationId} {s y t : State} {reply : Option LockReply}

/-! ### Reading the record -/

theorem Closed.installed (c : Closed n s y t reply) : (t.station n).installed = (y.station n).installed :=
  c.body.installed.trans (Station.suspended_installed _ _)

theorem Closed.link (c : Closed n s y t reply) : (t.station n).link = (y.station n).link :=
  c.body.link.trans (Station.suspended_link _ _)

theorem Closed.lockReportSeen (c : Closed n s y t reply) : (t.station n).lockReportSeen = (y.station n).lockReportSeen :=
  c.body.lockReportSeen.trans (Station.suspended_lockReportSeen _ _)

theorem Closed.holders (c : Closed n s y t reply) : (t.station n).holders = (y.station n).holders :=
  c.body.holders.trans (Station.suspended_holders _ _)

theorem Closed.faultLatch (c : Closed n s y t reply) : (t.station n).faultLatch = (y.station n).faultLatch :=
  c.body.faultLatch.trans (Station.suspended_faultLatch _ _)

theorem Closed.progress (c : Closed n s y t reply) : (t.station n).progress = (y.station n).progress :=
  c.body.progress.trans (Station.suspended_progress _ _)

theorem Closed.driveCount (c : Closed n s y t reply) : driveCount (t.station n) = driveCount (y.station n) := by
  unfold Machine.driveCount
  rw [c.holders]

theorem Closed.heatBlock (c : Closed n s y t reply) : heatBlock (t.station n) = heatBlock (y.station n) := by
  unfold Machine.heatBlock heatCount
  rw [c.holders, c.link, c.lockReportSeen]

theorem Closed.eligible (c : Closed n s y t reply) : eligible (t.station n) = eligible (y.station n) := by
  unfold Machine.eligible
  rw [c.installed, c.link, c.lockReportSeen, c.driveCount]

theorem Closed.clearing (c : Closed n s y t reply) : (t.station n).clearing =
    if (y.station n).cancels then none
    else if (y.station n).starts (Machine.eligible (s.station n)) then some ⟨y.now, y.settings.timing.clearDelay⟩
    else (y.station n).clearing := c.body.clearing

theorem Closed.sameButMotion (c : Closed n s y t reply) (h : Edited n s y) :
    { s.station n with
      link := (t.station n).link, lockReportSeen := (t.station n).lockReportSeen, holders := (t.station n).holders
      clearing := (t.station n).clearing, faultLatch := (t.station n).faultLatch
      lastTelemetry := (t.station n).lastTelemetry, zones := (t.station n).zones }.sameButMotion (t.station n) := by
  refine SameBody.sameButPort ?_
  constructor
  case installed => exact c.installed.trans h.body.installed
  case clipStatus => exact (c.body.clipStatus.trans (Station.suspended_clipStatus _ _)).trans h.body.clipStatus
  case clipLog => exact (c.body.clipLog.trans (Station.suspended_clipLog _ _)).trans h.body.clipLog
  all_goals first | rfl | exact fun _ => rfl

/-! ### What blocks and frees -/

theorem turnedAt_iff : s.turnedAt y n = true ↔ (s.authority n).permitting = true ∧ (y.authority n).permitting = false := by
  simp [State.turnedAt]

/-- At a station that was permitting no clearing is cancelled or started. -/
theorem Edited.still (h : Edited n s y) (hp : (s.authority n).permitting = true) :
    eligible (s.station n) = true ∧ (y.station n).clearing = none ∧ (y.station n).cancels = false
      ∧ (y.station n).starts (eligible (s.station n)) = false := by
  have hfree : (s.station n).free = true := Station.free_of_mayMove (s.authority_permitting n ▸ hp)
  have hable := Station.eligible_of_free hfree
  have hclear := h.clearing (Station.clearing_of_free hfree)
  refine ⟨hable, hclear, by rw [Station.cancels, hclear]; rfl, by rw [Station.starts, hable]; rfl⟩

/-- What turns in the event has turned at its end (R18, R20). -/
theorem Closed.turned_iff (c : Closed n s y t reply) (h : Edited n s y) :
    ((s.authority n).permitting = true ∧ (t.authority n).permitting = false) ↔ s.turnedAt y n = true := by
  rw [turnedAt_iff]
  refine and_congr_right fun hp => ?_
  obtain ⟨-, hclear, hc, hs⟩ := h.still hp
  have hcl : (t.station n).clearing = (y.station n).clearing := by
    rw [c.clearing, hc, hs]
    rfl
  rw [t.authority_permitting, y.authority_permitting, c.stowActive, Station.mayMove, Station.mayMove, Station.free_eq,
    Station.free_eq, c.eligible, c.faultLatch, c.progress, hcl]

/-- At most one HORN is offered. -/
theorem Edited.horns_length (h : Edited n s y) :
    ((y.station n).horns (s.turnedAt y n) (eligible (s.station n))).length ≤ 1 := by
  unfold Station.horns
  cases hturned : s.turnedAt y n with
  | true =>
    obtain ⟨-, -, hc, hs⟩ := h.still (turnedAt_iff.mp hturned).1
    rw [hc, hs]
    split <;> simp
  | false =>
    cases hc : (y.station n).cancels with
    | false => cases (y.station n).starts (eligible (s.station n)) <;> simp
    | true =>
      have hs : (y.station n).starts (eligible (s.station n)) = false := by
        rw [← Bool.not_eq_true]
        intro hs
        simp only [Station.starts, Bool.and_eq_true] at hs
        exact absurd (hc.symm.trans (Station.not_cancels_of_eligible hs.2)) (by simp)
      simp [hs]

/-- The kinds that a settling offers beside its reply. -/
theorem Station.horns_kind {turned able : Bool} {st : Station} {e : StationEntry} (h : e ∈ st.horns turned able) :
    e.kind = .horn := by
  unfold Station.horns at h
  simp only [List.mem_append] at h
  rcases h with h | h | h <;> (split at h <;> simp at h; subst h; rfl)

theorem queuedSetpoints_replaceSetpoints (stop : Setpoint) (q : List StationEntry) :
    queuedSetpoints (replaceSetpoints Setpoint.moving stop q)
      = (queuedSetpoints q).map fun sp => if sp.moving then stop else sp := by
  induction q with
  | nil => rfl
  | cons e q ih =>
    unfold queuedSetpoints replaceSetpoints at *
    cases e with
    | setpoint sp =>
      simp only [List.map_cons, List.filterMap_cons, ih]
      cases sp.moving <;> rfl
    | heat | horn _ | pin _ | linkUp | lockReply _ | cabinetData _ => exact ih

/-- The port whose queue has its moving SETPOINTs replaced, while the link was and is UP. -/
theorem Edited.stilled_port (h : Edited n s y) (turned : Bool) (stop : Setpoint) (hup : (s.station n).link.isUp = true)
    (hup' : (y.station n).link.isUp = true) :
    ((y.station n).stilled turned stop).tx = (s.station n).tx
      ∧ ((y.station n).stilled turned stop).queue
        = if turned then replaceSetpoints Setpoint.moving stop (s.station n).queue else (s.station n).queue := by
  obtain ⟨htx, hq, -⟩ := h.port hup hup'
  refine ⟨htx, ?_⟩
  change (if turned then replaceSetpoints Setpoint.moving stop (y.station n).queue else (y.station n).queue) = _
  rw [hq]

theorem queueLaw.replaceSetpoints {q : List StationEntry} (h : queueLaw q) (p : Setpoint → Bool) (stop : Setpoint) :
    queueLaw (Machine.replaceSetpoints p stop q) := h.map _ (replaceSetpoints_kind p stop)

theorem Edited.stilled_law (h : Edited n s y) (turned : Bool) (stop : Setpoint) (hup : (s.station n).link.isUp = true)
    (hup' : (y.station n).link.isUp = true) (hlaw : queueLaw (s.station n).queue) :
    queueLaw ((y.station n).stilled turned stop).queue := by
  rw [(h.stilled_port turned stop hup hup').2]
  cases turned with
  | true => exact hlaw.replaceSetpoints _ _
  | false => exact hlaw

/-- A HORN entry that the settling offers waits in the queue, but for a marker behind it. -/
theorem Closed.horn_offered (c : Closed n s y t reply) (h : Edited n s y) {on : Bool} {pre : List StationEntry}
    (hhorns : (y.station n).horns (s.turnedAt y n) (Machine.eligible (s.station n)) = pre ++ [.horn on])
    (hup' : (s.station n).link.isUp = true → (y.station n).link.isUp = true) : s.offered t n (.horn on) := by
  rintro hqueues ⟨hup, htx⟩
  obtain ⟨marks, hmarks, hoffers⟩ := c.offers
  obtain ⟨htx', -⟩ := h.stilled_port (s.turnedAt y n) (y.stopSetpoint n) hup (hup' hup)
  rw [hhorns, ← List.append_assoc, List.append_assoc, List.singleton_append] at hoffers
  refine hoffers.waits (hup' hup) (by rw [htx']; exact htx)
    (h.stilled_law _ _ hup (hup' hup) (hqueues n).1) rfl fun e he => ?_
  rcases hmarks with rfl | rfl
  · exact absurd he (by simp)
  · obtain rfl := List.mem_singleton.mp he
    simp

/-! ### Motion (R20, R140) -/

theorem Closed.offers_kinds {marks : List StationEntry} (hmarks : marks = [] ∨ marks = [.heat]) (turned able : Bool)
    (st : Station) : ∀ e ∈ (repliesOf reply ++ st.horns turned able) ++ marks, e.kind ≠ .setpoint := by
  intro e he
  simp only [List.mem_append] at he
  rcases he with (he | he) | he
  · cases reply with
    | none => exact absurd he (by simp [repliesOf])
    | some r =>
      obtain rfl : e = .lockReply r := by simpa [repliesOf] using he
      simp
  · rw [Station.horns_kind he]
    simp
  · rcases hmarks with rfl | rfl
    · exact absurd he (by simp)
    · obtain rfl := List.mem_singleton.mp he
      simp

theorem Closed.motionFollows (c : Closed n s y t reply) (h : Edited n s y) 
    (hstop : (s.station n).link.isUp = true → (t.station n).link.isUp = true → y.stopSetpoint n = s.stopSetpoint n)
    (hup : (s.station n).link.isUp = true → (t.station n).link.isUp = true → (y.station n).link.isUp = true) :
    s.motionFollows t n := by
  have hturned := c.turned_iff h
  have hwaiting : s.queueing n ∧ (t.station n).link.isUp = true → queuedSetpoints (t.station n).queue
      = queuedSetpoints ((y.station n).stilled (s.turnedAt y n) (s.stopSetpoint n)).queue := by
    rintro ⟨⟨hu, htx⟩, hu'⟩
    obtain ⟨marks, hmarks, hoffers⟩ := c.offers
    obtain ⟨htx', -⟩ := h.stilled_port (s.turnedAt y n) (y.stopSetpoint n) hu (hup hu hu')
    rw [hoffers.setpoints (hup hu hu') (by rw [htx']; exact htx) (Closed.offers_kinds hmarks _ _ _), hstop hu hu']
  have hport := fun hw : s.queueing n ∧ (t.station n).link.isUp = true =>
    (h.stilled_port (s.turnedAt y n) (s.stopSetpoint n) hw.1.1 (hup hw.1.1 hw.2)).2
  have hb := c.body
  cases hcase : s.turnedAt y n with
  | true =>
    simp only [hcase] at hb hwaiting hport
    have hturns := hturned.mpr hcase
    refine ⟨hb.progress.trans h.body.progress, hb.stowStart.trans h.body.stowStart, hb.stowTimeout.trans h.body.stowTimeout,
      fun _ => ⟨hb.demand, hb.grant, hb.freshness, hb.stale, c.quiet hcase, fun hw => ?_⟩, fun _ hwarn => ?_, fun hnot => ?_,
      fun hnot => absurd hturns hnot⟩
    · rw [hwaiting hw, hport hw, if_pos trivial, queuedSetpoints_replaceSetpoints]
    · have hwarn' : (y.station n).progress = .warning := h.body.progress.trans hwarn
      refine ⟨hb.warnTimer.trans (if_pos hwarn'), fun hu' => ?_⟩
      obtain ⟨-, -, hc, hs⟩ := h.still hturns.1
      intro hqueues hqueueing
      refine c.horn_offered h (on := false) (pre := []) ?_ (fun hu => hup hu hu') hqueues hqueueing
      rw [Station.horns, hcase, hc, hs, hwarn']
      rfl
    · have hwarn : (y.station n).progress ≠ .warning := fun hw => hnot ⟨hturns, h.body.progress.symm.trans hw⟩
      exact (hb.warnTimer.trans (if_neg hwarn)).trans h.body.warnTimer
  | false =>
    simp only [hcase] at hb hwaiting hport
    have hturns : ¬((s.authority n).permitting = true ∧ (t.authority n).permitting = false) := fun hturns =>
      absurd (hcase.symm.trans (hturned.mp hturns)) (by simp)
    refine ⟨hb.progress.trans h.body.progress, hb.stowStart.trans h.body.stowStart, hb.stowTimeout.trans h.body.stowTimeout,
      fun h => absurd h hturns, fun h => absurd h hturns, fun _ => hb.warnTimer.trans h.body.warnTimer,
      fun _ => ⟨hb.demand.trans h.body.demand, hb.grant.trans h.body.grant, hb.freshness.trans h.body.freshness,
        hb.stale.trans h.body.stale, fun hw => ?_⟩⟩
    rw [hwaiting hw, hport hw, if_neg (by simp)]

end

end Sys2Proof.Machine
end

section
/-! SUPPORT. An event on the locks of one station: its clearing, its heat block, LOCK_CHANGE and the LOCK_REPLY (R5, R33, R87, R90,
R97, R98, R101, R163). -/

namespace Sys2Proof.Machine

/-- An event's own change of the locks of a station: latch, telemetry and clearing stand, and neither the link nor the report
is lost. -/
structure LockEdit (n : StationId) (s y : State) : Prop extends Edited n s y where
  sameClearing : (y.station n).clearing = (s.station n).clearing
  sameLatch : (y.station n).faultLatch = (s.station n).faultLatch
  sameTelemetry : (y.station n).lastTelemetry = (s.station n).lastTelemetry
  up : (s.station n).link.isUp = true → (y.station n).link.isUp = true
  seen : (s.station n).lockReportSeen = true → (y.station n).lockReportSeen = true

section
variable {n : StationId} {s y z t : State} {reply : Option LockReply}

theorem LockEdit.settles (h : LockEdit n s y) (reply : Option LockReply) : Settles n s y (settleStation n s reply y) reply :=
  settleStation_settles reply (fun hl => h.sameLatch.symm.trans hl) fun hc _ => h.sameClearing.symm.trans hc

theorem stopSetpoint_congr {s y : State} {n : StationId} (henv : y.envelope n = s.envelope n)
    (htel : (y.station n).lastTelemetry = (s.station n).lastTelemetry)
    (hsent : (y.station n).lastSent = (s.station n).lastSent) : y.stopSetpoint n = s.stopSetpoint n := by
  have hstop : stopTargets (y.station n) = stopTargets (s.station n) := by
    unfold stopTargets
    rw [htel, hsent]
  unfold State.stopSetpoint
  rw [henv, hstop]

/-! ### Clearing (R97, R98) -/

theorem eligible_iff {st : Station} :
    eligible st = true ↔ st.installed = true ∧ st.link.isUp = true ∧ st.lockReportSeen = true ∧ driveCount st = 0 := by
  simp [eligible, and_assoc]

theorem authorityOf_clearing {stow : Bool} {st : Station} (hable : eligible st = true) (hclear : st.clearing.isSome = true) :
    authorityOf stow st = .clearing := by
  obtain ⟨h1, h2, h3, h4⟩ := eligible_iff.mp hable
  simp [authorityOf, h1, h2, h3, h4, hclear]

theorem authorityOf_locked {stow : Bool} {st : Station} (h1 : st.installed = true) (h2 : st.link.isUp = true)
    (h3 : st.lockReportSeen = true) (h4 : driveCount st ≠ 0) : authorityOf stow st = .locked := by
  simp [authorityOf, h1, h2, h3, h4]

theorem authorityOf_eq_clearing {stow : Bool} {st : Station} (h : authorityOf stow st = .clearing) :
    st.installed = true ∧ st.link.isUp = true ∧ st.lockReportSeen = true := by
  unfold authorityOf at h
  cases hi : st.installed <;> cases hu : st.link.isUp <;> cases hl : st.lockReportSeen <;> simp_all

/-- Whether a settling changes the clearing of a station. -/
def State.clears (s y : State) (n : StationId) : Bool :=
  (y.station n).cancels || (y.station n).starts (eligible (s.station n))

theorem Station.starts_iff {able : Bool} {st : Station} : st.starts able = true ↔ able = false ∧ eligible st = true := by
  simp [Station.starts]

theorem Station.cancels_iff {st : Station} : st.cancels = true ↔ st.clearing.isSome = true ∧ driveCount st ≠ 0 := by
  simp [Station.cancels]

theorem Station.horns_starts {turned able : Bool} {st : Station} (h : st.starts able = true) :
    ∃ pre, st.horns turned able = pre ++ [.horn true] := by
  refine ⟨(if turned && st.progress == .warning then [.horn false] else []) ++ if st.cancels then [.horn false] else [], ?_⟩
  simp [Station.horns, h]

theorem Station.horns_cancels {turned able : Bool} {st : Station} (h : st.cancels = true) :
    ∃ pre, st.horns turned able = pre ++ [.horn false] := by
  have hs : st.starts able = false := by
    rw [← Bool.not_eq_true, Station.starts_iff]
    exact fun hs => absurd (h.symm.trans (Station.not_cancels_of_eligible hs.2)) (by simp)
  refine ⟨if turned && st.progress == .warning then [.horn false] else [], ?_⟩
  simp [Station.horns, h, hs]

theorem Closed.clearing_started (c : Closed n s y t reply) (h : LockEdit n s y)
    (hs : (y.station n).starts (Machine.eligible (s.station n)) = true) :
    (t.station n).clearing = some ⟨s.now, s.settings.timing.clearDelay⟩ ∧ s.offered t n (.horn true)
      ∧ t.authority n = .clearing := by
  have hable := (Station.starts_iff.mp hs).2
  have hclear : (t.station n).clearing = some ⟨s.now, s.settings.timing.clearDelay⟩ := by
    rw [c.clearing, Station.not_cancels_of_eligible hable, hs, h.only.now, h.only.settings]
    rfl
  obtain ⟨pre, hpre⟩ := Station.horns_starts (turned := s.turnedAt y n) hs
  exact ⟨hclear, c.horn_offered h.toEdited hpre h.up,
    authorityOf_clearing (c.eligible.trans hable) (by rw [hclear]; rfl)⟩

/-- The clearing after the event, in the words of R97 and R98. -/
theorem Closed.clearingFollows (c : Closed n s y t reply) (h : LockEdit n s y)
    (hraises : s.clears y n = true → s.raises t .lockChange) : s.clearingFollows t n := by
  intro _
  refine ⟨fun hnot hable => ?_, fun hsome hdrive => ?_, fun hable hclear => ?_⟩
  · beta_reduce at hnot hable
    rw [← eligible_iff] at hnot hable
    have hs : (y.station n).starts (Machine.eligible (s.station n)) = true :=
      Station.starts_iff.mpr ⟨by simpa using hnot, c.eligible.symm.trans hable⟩
    obtain ⟨h1, h2, h3⟩ := c.clearing_started h hs
    exact ⟨h1, hraises (by rw [State.clears, hs, Bool.or_true]), h2, h3⟩
  · have hc : (y.station n).cancels = true :=
      Station.cancels_iff.mpr ⟨by rw [h.sameClearing]; exact hsome, by rw [← c.driveCount]; exact hdrive⟩
    obtain ⟨pre, hpre⟩ := Station.horns_cancels (turned := s.turnedAt y n) (able := Machine.eligible (s.station n)) hc
    refine ⟨by rw [c.clearing, if_pos hc], hraises (by rw [State.clears, hc, Bool.true_or]),
      c.horn_offered h.toEdited hpre h.up, fun ha => ?_⟩
    obtain ⟨h1, h2, h3⟩ := authorityOf_eq_clearing ha
    exact authorityOf_locked ((c.installed.trans h.body.installed).trans h1) (by rw [c.link]; exact h.up h2)
      (by rw [c.lockReportSeen]; exact h.seen h3) hdrive
  · beta_reduce at hable
    rw [← eligible_iff, ← eligible_iff, c.eligible] at hable
    have hc : (y.station n).cancels = false := by
      rw [← Bool.not_eq_true, Station.cancels_iff, h.sameClearing, ← c.driveCount]
      rintro ⟨h1, h2⟩
      rcases hclear with hnone | hzero
      · rw [hnone] at h1; exact absurd h1 (by simp)
      · exact h2 hzero
    have hs : (y.station n).starts (Machine.eligible (s.station n)) = false := by
      rw [← Bool.not_eq_true, Station.starts_iff]
      rintro ⟨h1, h2⟩
      rcases hable with ha | ha
      · exact absurd (h1.symm.trans ha) (by simp)
      · exact ha h2
    rw [c.clearing, hc, hs, if_neg (by simp), if_neg (by simp), h.sameClearing]

/-! ### The heat block (R101, R163) -/

theorem Closed.blockFollows (c : Closed n s y t reply) (h : LockEdit n s y) (hmark : s.marked t n)
    (hzone : ∀ i, (y.blockZone n (Machine.heatBlock (s.station n)) i).alike (t.zone n i)) : s.blockFollows t n :=
  blockFollows_of hmark h.only (fun i => h.body.zone i) hzone c.heatBlock

theorem Settles.blockFollows (hz : Settles n s y z reply) (he : Ends n s z t) (h : LockEdit n s y) : s.blockFollows t n := by
  refine (hz.closed he).blockFollows h ?_ fun i => (hz.zone i).trans (he.zone i)
  intro hon hqueues hqueueing
  obtain ⟨hup, htx⟩ := hqueueing
  refine he.marked (a := (y.station n).stilled (s.turnedAt y n) (y.stopSetpoint n)) (hz.only.nodeAddress ▸ hz.offers)
    h.up (fun htx => ?_) (fun hlaw => ?_) hon hqueues ⟨hup, htx⟩
  · rw [(h.stilled_port _ _ hup (h.up hup)).1]; exact htx
  · exact h.stilled_law _ _ hup (h.up hup) hlaw

/-! ### LOCK_CHANGE (R87) -/

/-- The law of clearing at one station. -/
def Station.clearingLaw (st : Station) : Prop :=
  st.clearing.isSome = true → st.link.isUp = true ∧ st.lockReportSeen = true ∧ driveCount st = 0

theorem Closed.clearing_of_clears (c : Closed n s y t reply) (h : LockEdit n s y)
    (hlaw : (s.station n).clearingLaw) (hsame : (t.station n).clearing = (s.station n).clearing) : s.clears y n = false := by
  rw [State.clears, Bool.or_eq_false_iff]
  rw [c.clearing] at hsame
  have hc : (y.station n).cancels = false := by
    rw [← Bool.not_eq_true]
    intro hc
    rw [if_pos hc] at hsame
    rw [Station.cancels_iff, h.sameClearing, ← hsame] at hc
    exact absurd hc.1 (by simp)
  refine ⟨hc, ?_⟩
  rw [← Bool.not_eq_true]
  intro hs
  rw [hc, if_neg (by simp), if_pos hs] at hsame
  obtain ⟨hable, helig⟩ := Station.starts_iff.mp hs
  obtain ⟨h1, h2, h3⟩ := hlaw (by rw [← hsame]; rfl)
  have hinst : (s.station n).installed = true := h.body.installed.symm.trans (eligible_iff.mp helig).1
  exact absurd (hable.symm.trans (eligible_iff.mpr ⟨hinst, h1, h2, h3⟩)) (by simp)

theorem Closed.clears_of_clearing (c : Closed n s y t reply) (h : LockEdit n s y)
    (hne : (t.station n).clearing ≠ (s.station n).clearing) : s.clears y n = true := by
  rw [← Bool.not_eq_false]
  intro hclears
  obtain ⟨hc, hs⟩ := Bool.or_eq_false_iff.mp hclears
  rw [c.clearing, hc, hs] at hne
  exact hne h.sameClearing

/-- LOCK_CHANGE after a change that raises it where it changes the holders, whatever request is in hand (R87). -/
theorem lockNews_of (hz : Settles n s y z reply) (he : Ends n s z t) (h : LockEdit n s y) {changed : Bool}
    (hchanged : changed = true ↔ (y.station n).holders ≠ (s.station n).holders) (htells : Tells changed s y)
    (request : Option (Byte × Byte)) : State.lockNews { s with responder := request } t n := by
  have c := hz.closed he
  have hnews := htells.trans hz.news.toTells
  refine ⟨fun hor => ?_, fun hlaw hholders hclearing => ?_⟩
  · have hlocks : (changed || s.clears y n) = true := by
      rw [Bool.or_eq_true]
      refine hor.imp (fun hh => hchanged.mpr ?_) fun hc => c.clears_of_clearing h hc
      rw [← c.holders]
      exact hh
    exact he.raises_lock (hlocks ▸ hnews)
  · have hlocks : (changed || s.clears y n) = false := by
      rw [Bool.or_eq_false_iff]
      refine ⟨?_, c.clearing_of_clears h (hlaw n).2 hclearing⟩
      rw [← Bool.not_eq_true, hchanged, not_not, ← c.holders]
      exact hholders
    have hquiet : Tells false s z := hlocks ▸ hnews
    exact Ends.silent_lock (s := { s with responder := request }) ⟨he.stations, he.faults, he.attention, he.wind⟩
      ⟨hquiet.latched, hquiet.kept, hquiet.lock⟩

theorem clears_raises (hz : Settles n s y z reply) (he : Ends n s z t) {changed : Bool} (htells : Tells changed s y)
    (hclears : s.clears y n = true) : s.raises t .lockChange := by
  refine he.raises_lock ?_
  have hnews := htells.trans hz.news.toTells
  rw [show ((y.station n).cancels || (y.station n).starts (eligible (s.station n))) = true from hclears, Bool.or_true] at hnews
  exact hnews

/-! ### The LOCK_REPLY (R33, R90) -/

/-- The reply of an event waits where there is room, and leaves at once on an idle port. -/
theorem Closed.replied {r : LockReply} (c : Closed n s y t (some r)) (h : LockEdit n s y) :
    (s.queueing n → (s.station n).queue.length ≤ 5 → .lockReply r ∈ (t.station n).queue)
      ∧ (s.idling n → (t.station n).tx = some (.lockReply r)) := by
  obtain ⟨marks, hmarks, hoffers⟩ := c.offers
  have hlength := h.horns_length
  have hkinds : ∀ e ∈ (y.station n).horns (s.turnedAt y n) (Machine.eligible (s.station n)) ++ marks, e.kind ≠ .lockReply := by
    intro e he
    rcases List.mem_append.mp he with he | he
    · rw [Station.horns_kind he]; simp
    · rcases hmarks with rfl | rfl
      · exact absurd he (by simp)
      · obtain rfl := List.mem_singleton.mp he
        simp
  have hmarks_length : marks.length ≤ 1 := by rcases hmarks with rfl | rfl <;> simp
  change Offers _ (.lockReply r :: ((y.station n).horns _ _ ++ marks)) _ _ at hoffers
  refine ⟨fun ⟨hup, htx⟩ hroom => ?_, fun ⟨hup, htx, hnil⟩ => ?_⟩
  · obtain ⟨htx', hq⟩ := h.stilled_port (s.turnedAt y n) (y.stopSetpoint n) hup (h.up hup)
    refine hoffers.first_waits (h.up hup) (by rw [htx']; exact htx) ?_ hkinds
    rw [hq, List.length_append]
    have hlen : (if s.turnedAt y n = true then replaceSetpoints Setpoint.moving (y.stopSetpoint n) (s.station n).queue
        else (s.station n).queue).length = (s.station n).queue.length := by
      split
      · exact List.length_map _
      · rfl
    omega
  · obtain ⟨htx', hq⟩ := h.stilled_port (s.turnedAt y n) (y.stopSetpoint n) hup (h.up hup)
    refine hoffers.first_leaves (h.up hup) (htx'.trans htx) ?_ rfl
    rw [hq, hnil]
    split <;> rfl

end

/-! ### A good frame (R4, R5) -/

section
variable {n : StationId} {s : State}

theorem goodFrame_body (n : StationId) (s : State) :
    SameBody { s.station n with link := .up ⟨s.now, s.settings.timing.linkTimeout⟩ } ((goodFrame n s).station n) := by
  have hup : (s.updStation n fun st => { st with link := .up (s.timer s.settings.timing.linkTimeout) }).station n
      = { s.station n with link := .up ⟨s.now, s.settings.timing.linkTimeout⟩ } := by
    rw [State.updStation_station, if_pos rfl]
    rfl
  unfold goodFrame
  simp only
  split
  · rw [hup]
    exact .refl _
  · rw [← hup]
    exact ((offer_ports n .linkUp _).same n).trans ((offer_ports n .heat _).same n)

theorem goodFrame_link (n : StationId) (s : State) :
    ((goodFrame n s).station n).link = .up ⟨s.now, s.settings.timing.linkTimeout⟩ := (goodFrame_body n s).link

theorem goodFrame_port (hup : (s.station n).link.isUp = true) :
    ((goodFrame n s).station n).tx = (s.station n).tx ∧ ((goodFrame n s).station n).queue = (s.station n).queue
      ∧ ((goodFrame n s).station n).lastSent = (s.station n).lastSent := by
  rw [goodFrame_up hup, State.updStation_station, if_pos rfl]
  exact ⟨rfl, rfl, rfl⟩

theorem goodFrame_news (n : StationId) (s : State) : News false s (goodFrame n s) := by
  have hup : News false s (s.updStation n fun st => { st with link := .up (s.timer s.settings.timing.linkTimeout) }) :=
    .updStation s n _
  unfold goodFrame
  simp only
  split
  · exact hup
  · exact (hup.trans (offer_news n .linkUp _)).trans (offer_news n .heat _)

/-- The port of a station whose link was DOWN, after a good frame. -/
theorem goodFrame_returns (h : s.away n) :
    ((goodFrame n s).station n).tx = some (.linkUp s.nodeAddress) ∧ ((goodFrame n s).station n).queue = [.heat] := by
  obtain ⟨hl, hq, htx, -, -⟩ := h
  rw [goodFrame_away (Link.isUp_of_down hl) hq htx, State.updStation_station, if_pos rfl]
  exact ⟨rfl, rfl⟩

/-- A change of the locks of a station whose frame this is. -/
theorem LockEdit.of_frame {y : State} (f : Station → Station) (honly : OnlyStations s y)
    (hothers : ∀ m, m ≠ n → y.station m = s.station m) (hy : y.station n = f ((goodFrame n s).station n))
    (hbody : ∀ st : Station, f st = { st with holders := (f st).holders, lockReportSeen := (f st).lockReportSeen })
    (hseen : ∀ st : Station, st.lockReportSeen = true → (f st).lockReportSeen = true) : LockEdit n s y := by
  have hg := goodFrame_body n s
  have hf := hbody ((goodFrame n s).station n)
  rw [← hy] at hf
  have hlink : (y.station n).link.isUp = true := by
    rw [hf]
    change ((goodFrame n s).station n).link.isUp = true
    rw [hg.link]
    rfl
  have hclear : (y.station n).clearing = (s.station n).clearing := by rw [hf]; exact hg.clearing
  have hlatch : (y.station n).faultLatch = (s.station n).faultLatch := by rw [hf]; exact hg.faultLatch
  have htel : (y.station n).lastTelemetry = (s.station n).lastTelemetry := by rw [hf]; exact hg.lastTelemetry
  refine { only := honly, others := hothers, body := ?_, clearing := fun h => hclear.trans h, port := fun hup _ => ?_
           sameClearing := hclear, sameLatch := hlatch, sameTelemetry := htel, up := fun _ => hlink, seen := fun hs => ?_ }
  · obtain ⟨h1, -, -, -, -, -, h7, h8, h9, h10, h11, h12, h13, h14, -, h16, h17, h18, h19, h20, h21, h22⟩ := hg
    rw [hf]
    exact ⟨h1, rfl, rfl, rfl, rfl, rfl, h7, h8, h9, h10, h11, h12, h13, h14, rfl, h16, h17, h18, h19, h20, h21, h22⟩
  · rw [hf]
    exact goodFrame_port hup
  · rw [hy]
    exact hseen _ (hg.lockReportSeen.trans hs)

end

/-- A queue that holds the marker of a returned link and then what an event offers beside it. -/
theorem foldl_admitted_returned {es marks : List StationEntry} (hmarks : marks = [] ∨ marks = [.heat])
    (hes : es.foldl admitted [.heat] = .heat :: es) : (es ++ marks).foldl admitted [.heat] = .heat :: es := by
  rw [List.foldl_append, hes]
  rcases hmarks with rfl | rfl
  · rfl
  · exact admitted_heat_of_mem List.mem_cons_self

/-- The entries of a lock event behind the marker of a returned link (R5, R33). -/
theorem Closed.linkReturns {n : StationId} {s y t : State} {reply : Option LockReply} (c : Closed n s y t reply)
    (h : Edited n s y) (hup : (y.station n).link.isUp = true) (hport : s.away n →
      (y.station n).tx = some (.linkUp s.nodeAddress) ∧ (y.station n).queue = [.heat])
    (hhorns : s.away n → (y.station n).horns false false = []
      ∨ (y.station n).horns false false = [.horn true]) :
    s.linkReturns t n (repliesOf reply ++ (y.station n).horns false false) := by
  intro haway
  obtain ⟨htx, hq⟩ := hport haway
  have hdown : (s.station n).link.isUp = false := Link.isUp_of_down haway.1
  have hable : Machine.eligible (s.station n) = false := by simp [Machine.eligible, hdown]
  have hturned : s.turnedAt y n = false := by
    rw [← Bool.not_eq_true, turnedAt_iff]
    rintro ⟨hp, -⟩
    exact absurd ((h.still hp).1.symm.trans hable) (by simp)
  obtain ⟨marks, hmarks, hoffers⟩ := c.offers
  rw [hturned, hable] at hoffers
  obtain ⟨htx', hq'⟩ := hoffers.sending hup (by change (y.station n).tx.isSome = true; rw [htx]; rfl)
  refine ⟨by rw [c.link]; exact hup, htx'.trans htx, ?_⟩
  rw [hq']
  change List.foldl admitted (y.station n).queue _ = _
  rw [hq]
  refine foldl_admitted_returned hmarks ?_
  have hhorns := hhorns haway
  cases reply with
  | none => rcases hhorns with hh | hh <;> rw [hh] <;> rfl
  | some r => rcases hhorns with hh | hh <;> rw [hh] <;> rfl

end Sys2Proof.Machine
end

section
/-! SUPPORT. LOCK and UNLOCK (O30, O31): the holder list changed, and everything that follows (R86 to R90). -/

namespace Sys2Proof.Machine

/-! ### A changed holder list (R86, R87) -/

/-- The holder list of a station replaced, and the lock change raised where it differs (R87). -/
def withHolders (n : StationId) (hs : List Holder) (s : State) : State :=
  let s1 := s.updStation n fun st => { st with holders := hs }
  if hs = (s.station n).holders then s1 else raise .lockChange s1

theorem changeHolders_eq (n : StationId) (s0 : State) (hs : List Holder) (reply : Option LockReply) (s : State) :
    changeHolders n s0 hs reply s = settleStation n s0 reply (withHolders n hs s) := rfl

theorem withHolders_only (n : StationId) (hs : List Holder) (s : State) : OnlyStations s (withHolders n hs s) := by
  unfold withHolders
  simp only
  split
  · exact s.updStation_only n _
  · exact (s.updStation_only n _).trans (raise_ports _ _).only

theorem withHolders_station (n m : StationId) (hs : List Holder) (s : State) : (withHolders n hs s).station m =
    if m = n then { s.station n with holders := hs } else s.station m := by
  unfold withHolders
  simp only
  split
  · rw [State.updStation_station]
  · rw [raise_station, State.updStation_station]

theorem withHolders_news (n : StationId) (hs : List Holder) (s : State) :
    News (decide (hs ≠ (s.station n).holders)) s (withHolders n hs s) := by
  have hupd : News false s (s.updStation n fun st => { st with holders := hs }) := .updStation s n _
  unfold withHolders
  simp only
  split
  · next h => rw [decide_eq_false (by simpa using h)]; exact hupd
  · next h => rw [decide_eq_true h]; exact hupd.trans (.raise_lock _)

/-- What a change of station `n`'s holder list to `hs`, answered with `r`, has brought about in an event from `s` to `t`. -/
structure ListChanged (n : StationId) (s t : State) (hs : List Holder) (r : LockReply) : Prop where
  holders : (t.station n).holders = hs
  installed : (t.station n).installed = (s.station n).installed
  up : (s.station n).link.isUp = true → (t.station n).link.isUp = true
  seen : (t.station n).lockReportSeen = (s.station n).lockReportSeen
  rest : { s.station n with
      link := (t.station n).link, holders := (t.station n).holders, clearing := (t.station n).clearing
      zones := (t.station n).zones }.sameButMotion (t.station n)
  waits : s.queueing n → (s.station n).queue.length ≤ 5 → .lockReply r ∈ (t.station n).queue
  leaves : s.idling n → (t.station n).tx = some (.lockReply r)
  clearing : s.clearingFollows t n
  block : s.blockFollows t n
  motion : s.motionFollows t n
  news : ∀ request, State.lockNews { s with responder := request } t n
  starts : eligible (s.station n) = false → eligible (t.station n) = true →
    (t.station n).clearing = some ⟨s.now, s.settings.timing.clearDelay⟩ ∧ t.authority n = .clearing
      ∧ s.raises t .lockChange ∧ s.offered t n (.horn true)

theorem LockEdit.stop {n : StationId} {s y : State} (h : LockEdit n s y) (hup : (s.station n).link.isUp = true) :
    y.stopSetpoint n = s.stopSetpoint n :=
  stopSetpoint_congr (h.only.envelope n) h.sameTelemetry (h.port hup (h.up hup)).2.2

theorem listChanged_of {n : StationId} {s y z t : State} {r : LockReply} {changed : Bool} (h : LockEdit n s y)
    (hz : Settles n s y z (some r)) (he : Ends n s z t)
    (hchanged : changed = true ↔ (y.station n).holders ≠ (s.station n).holders) (htells : Tells changed s y)
    (hseen : (y.station n).lockReportSeen = (s.station n).lockReportSeen) :
    ListChanged n s t (y.station n).holders r := by
  have c := hz.closed he
  have hraises := clears_raises hz he htells
  obtain ⟨hwaits, hleaves⟩ := c.replied h
  refine { holders := c.holders, installed := c.installed.trans h.body.installed, up := fun hup => by rw [c.link]; exact h.up hup
           seen := c.lockReportSeen.trans hseen, rest := ?_, waits := hwaits, leaves := hleaves
           clearing := c.clearingFollows h hraises, block := hz.blockFollows he h
           motion := c.motionFollows h.toEdited (fun hup _ => h.stop hup) (fun hup _ => h.up hup)
           news := lockNews_of hz he h hchanged htells, starts := fun hs ht => ?_ }
  · have hrest := c.sameButMotion h.toEdited
    rw [c.lockReportSeen, hseen, c.faultLatch, h.sameLatch,
      show (t.station n).lastTelemetry = (s.station n).lastTelemetry from
        (c.body.lastTelemetry.trans (by cases s.turnedAt y n <;> rfl)).trans h.sameTelemetry] at hrest
    exact hrest
  · have hstarts : (y.station n).starts (eligible (s.station n)) = true :=
      Station.starts_iff.mpr ⟨hs, c.eligible.symm.trans ht⟩
    obtain ⟨h1, h2, h3⟩ := c.clearing_started h hstarts
    exact ⟨h1, h3, hraises (by rw [State.clears, hstarts, Bool.or_true]), h2⟩

/-! ### A frame that changes the list -/

/-- A LOCK or UNLOCK frame of station `n`, in an event from `s` that has left `u` when the list is changed. -/
structure FrameList (n : StationId) (s t u : State) (hs : List Holder) (r : LockReply) : Prop extends ListChanged n s t hs r where
  outside : s.sameOutside n t
  link : (t.station n).link = .up ⟨s.now, s.settings.timing.linkTimeout⟩
  returns : s.linkReturns t n [.lockReply r]
  after : ∃ x, ∃ locks, News locks u x ∧ t.faults = x.faults ∧ t.attention = (examine x).attention

theorem frameList_of {n : StationId} {s u : State} (hs : List Holder) (r : LockReply) (hst : u.stations = (goodFrame n s).stations)
    (honly : OnlyStations (goodFrame n s) u) (htells : Tells false (goodFrame n s) u) :
    FrameList n s (closeEvent s (changeHolders n s hs (some r) u)) u hs r := by
  have hu : u.station n = (goodFrame n s).station n := State.station_congr hst n
  have hg := goodFrame_body n s
  have hothers : ∀ m, m ≠ n → u.station m = s.station m := fun m hm =>
    (State.station_congr hst m).trans (goodFrame_station_ne n m s hm)
  have hown : (withHolders n hs u).station n = { (goodFrame n s).station n with holders := hs } := by
    rw [withHolders_station, if_pos rfl, hu]
  have h : LockEdit n s (withHolders n hs u) := by
    refine .of_frame (fun st => { st with holders := hs }) (((goodFrame_only n s).trans honly).trans (withHolders_only n hs u))
      (fun m hm => ?_) hown (fun _ => rfl) (fun _ => id)
    rw [withHolders_station, if_neg hm, hothers m hm]
  have hz := h.settles (some r)
  have hwind : (settleStation n s (some r) (withHolders n hs u)).wind = s.wind := (h.only.trans hz.only).wind
  have hz_others : ∀ m, m ≠ n → (settleStation n s (some r) (withHolders n hs u)).station m = s.station m := fun m hm =>
    (hz.others m hm).trans (h.others m hm)
  have he := closeEvent_ends hwind hz_others
  have hfirst := (goodFrame_news n s).toTells.trans htells
  have hsecond := hfirst.trans (withHolders_news n hs u).toTells
  rw [changeHolders_eq]
  have hlist := listChanged_of h hz he (changed := decide (hs ≠ (u.station n).holders))
    (by rw [decide_eq_true_iff, hown, hu, hg.holders]) (by simpa using hsecond) (by rw [hown]; exact hg.lockReportSeen)
  have hholders : ((withHolders n hs u).station n).holders = hs := by rw [hown]
  rw [hholders] at hlist
  have c := hz.closed he
  refine { toListChanged := hlist, outside := ?_, link := ?_, returns := ?_, after := ?_ }
  · rw [closeEvent_eq hwind hz_others]
    refine .of_only ((h.only.trans hz.only).trans (markAt_ports n s _).only) fun m hm => ?_
    rw [markAt_station_ne s _ hm]
    exact hz_others m hm
  · rw [c.link, hown]
    exact hg.link
  · have hlinkUp : ((withHolders n hs u).station n).link.isUp = true := by
      rw [hown]
      change ((goodFrame n s).station n).link.isUp = true
      rw [hg.link]
      rfl
    have hnone : s.away n → ((withHolders n hs u).station n).horns false false = [] := by
      intro haway
      have hcl : ((withHolders n hs u).station n).clearing = none := h.sameClearing.trans haway.2.2.2.2
      have hsn : ((withHolders n hs u).station n).lockReportSeen = false := by
        rw [hown]
        exact hg.lockReportSeen.trans haway.2.2.2.1
      simp [Station.horns, Station.cancels, Station.starts, eligible, hcl, hsn]
    have hret := c.linkReturns h.toEdited hlinkUp (fun haway => by rw [hown]; exact goodFrame_returns haway)
      (fun haway => .inl (hnone haway))
    intro haway
    obtain ⟨h1, h2, h3⟩ := hret haway
    exact ⟨h1, h2, by rw [h3, hnone haway]; rfl⟩
  · refine ⟨markAt n s _, _, ((withHolders_news n hs u).trans hz.news).trans (markAt_news n s _), ?_, he.attention⟩
    exact he.faults

/-! ### Claims and releases (R88, R89, R90) -/

theorem badClaim_iff {badge : Badge} {scope : Scope} :
    badClaim badge scope = true ↔ badge = 0 ∨ badge = 0xFFFF ∨ emptyScope scope = true := by
  simp [badClaim, or_assoc]

theorem holds_iff {hs : List Holder} {badge : Badge} : holds hs badge = true ↔ ∃ h ∈ hs, h.badge = badge := by
  simp [holds]

/-- A badge that holds nothing has no scope. -/
theorem standingScope_of_not_held {hs : List Holder} {badge : Badge} (h : ¬∃ h ∈ hs, h.badge = badge) :
    standingScope hs badge = noScope := by
  have hnone : hs.find? (·.badge == badge) = none := by
    rw [List.find?_eq_none]
    exact fun x hx hb => h ⟨x, hx, by simpa using hb⟩
  rw [standingScope, hnone]

theorem standingScope_cons (x : Holder) (hs : List Holder) (badge : Badge) :
    standingScope (x :: hs) badge = if x.badge = badge then x.scope else standingScope hs badge := by
  unfold standingScope
  rw [List.find?_cons]
  by_cases hx : x.badge = badge
  · simp [hx]
  · rw [if_neg hx, show (x.badge == badge) = false by simpa using hx]

/-- The scope that a badge holds after its records are united with a scope. -/
theorem standingScope_union {hs : List Holder} {badge : Badge} (scope : Scope) (h : ∃ h ∈ hs, h.badge = badge) :
    standingScope (hs.map fun h => if h.badge = badge then { h with scope := unionScope h.scope scope } else h) badge
      = unionScope (standingScope hs badge) scope := by
  induction hs with
  | nil => obtain ⟨x, hx, -⟩ := h; exact absurd hx (by simp)
  | cons x hs ih =>
    rw [List.map_cons, standingScope_cons, standingScope_cons]
    by_cases hx : x.badge = badge
    · simp [hx]
    · rw [if_neg hx, if_neg hx, if_neg hx]
      obtain ⟨y, hy, hb⟩ := h
      rcases List.mem_cons.mp hy with rfl | hy
      · exact absurd hb hx
      · exact ih ⟨y, hy, hb⟩

theorem standingScope_append {hs : List Holder} {badge : Badge} {scope : Scope} (h : ¬∃ h ∈ hs, h.badge = badge) :
    standingScope (hs ++ [⟨badge, scope⟩]) badge = scope := by
  induction hs with
  | nil => rw [List.nil_append, standingScope_cons, if_pos rfl]
  | cons x hs ih =>
    rw [List.cons_append, standingScope_cons, if_neg fun hx => h ⟨x, by simp, hx⟩]
    exact ih fun ⟨y, hy, hb⟩ => h ⟨y, by simp [hy], hb⟩

theorem minusScope_of_empty {a b : Scope} (h : emptyScope (minusScope a b) = true) : minusScope a b = noScope := by
  simp only [emptyScope, Bool.and_eq_true, Bool.not_eq_true'] at h
  generalize minusScope a b = c at *
  obtain ⟨drive, heat⟩ := c
  obtain ⟨rfl, rfl⟩ := h
  rfl

/-- The scope that a badge holds after a release, in a list without a repeated badge. -/
theorem standingScope_minus {hs : List Holder} {badge : Badge} (scope : Scope) (hnodup : (hs.map (·.badge)).Nodup)
    (h : ∃ h ∈ hs, h.badge = badge) :
    standingScope ((hs.map fun h => if h.badge = badge then { h with scope := minusScope h.scope scope } else h).filter
      fun h => !emptyScope h.scope) badge = minusScope (standingScope hs badge) scope := by
  induction hs with
  | nil => obtain ⟨x, hx, -⟩ := h; exact absurd hx (by simp)
  | cons x hs ih =>
    rw [List.map_cons, List.nodup_cons] at hnodup
    obtain ⟨hx_new, hrest⟩ := hnodup
    rw [List.map_cons, standingScope_cons]
    by_cases hx : x.badge = badge
    · have hnot : ¬∃ y ∈ (hs.map fun h => if h.badge = badge then { h with scope := minusScope h.scope scope } else h).filter
          fun h => !emptyScope h.scope, y.badge = badge := by
        rintro ⟨y, hy, hb⟩
        obtain ⟨w, hw, rfl⟩ := List.mem_map.mp (List.mem_filter.mp hy).1
        refine hx_new (List.mem_map.mpr ⟨w, hw, ?_⟩)
        rw [hx, ← hb]
        split <;> rfl
      rw [if_pos hx, if_pos hx]
      cases he : emptyScope (minusScope x.scope scope) with
      | true => rw [List.filter_cons_of_neg (by simp [he]), standingScope_of_not_held hnot, minusScope_of_empty he]
      | false => rw [List.filter_cons_of_pos (by simp [he]), standingScope_cons, if_pos hx]
    · rw [if_neg hx, if_neg hx]
      have hh : ∃ y ∈ hs, y.badge = badge := by
        obtain ⟨y, hy, hb⟩ := h
        rcases List.mem_cons.mp hy with rfl | hy
        · exact absurd hb hx
        · exact ⟨y, hy, hb⟩
      cases he : emptyScope x.scope with
      | true => rw [List.filter_cons_of_neg (by simp [he]), ih hrest hh]
      | false => rw [List.filter_cons_of_pos (by simp [he]), standingScope_cons, if_neg hx, ih hrest hh]

theorem badgeDetail_eq (badge : Badge) : badgeDetail badge = BitVec.ofNat 32 badge.toNat := by
  apply BitVec.eq_of_toNat_eq
  simp [badgeDetail]

/-- A DRIVE claim that is taken leaves a holder that claims DRIVE. -/
theorem driveCount_claimed {hs : List Holder} {badge : Badge} {scope : Scope} (hd : scope.drive = true)
    (hroom : hs.length < 6) : (claim hs badge scope).1.countP (·.scope.drive) ≠ 0 := by
  have hpos : 0 < (claim hs badge scope).1.countP (·.scope.drive) := by
    rw [List.countP_pos_iff]
    unfold claim
    split
    · next hh =>
      obtain ⟨x, hx, hb⟩ := holds_iff.mp hh
      exact ⟨{ x with scope := unionScope x.scope scope }, List.mem_map.mpr ⟨x, hx, if_pos hb⟩, by simp [unionScope, hd]⟩
    · have hroom : hs.length < Config.holderListSize := hroom
      rw [if_pos hroom]
      exact ⟨⟨badge, scope⟩, by simp, hd⟩
  omega

end Sys2Proof.Machine
end

section
/-! SUPPORT. LOCK and UNLOCK (O30, O31). -/

namespace Sys2Proof.Machine

/-! ### The end of an event that took the motion of a station -/

theorem authorityOf_stowWarning {stow : Bool} {st : Station} (h : authorityOf stow st = .stowWarning) :
    st.progress = .warning := by
  unfold authorityOf at h
  repeat' split at h
  all_goals first
    | assumption
    | exact absurd h (by simp)

/-- A DRIVE claim taken on a station that was permitting (R20, R88, R140). -/
theorem ListChanged.driven {n : StationId} {s t : State} {hs : List Holder} {r : LockReply} (h : ListChanged n s t hs r)
    (hdrive : hs.countP (·.scope.drive) ≠ 0) (hp : (s.authority n).permitting = true) :
    t.authority n = .locked ∧ (t.station n).demand = noDemand ∧ (t.station n).grant = noGrant
      ∧ (∀ sp ∈ queuedSetpoints (t.station n).queue, sp.moving = false) ∧ s.raises t .lockChange
      ∧ (s.authority n = .stowWarning →
          (t.station n).progress = .warning ∧ (t.station n).warnTimer = none ∧ s.offered t n (.horn false)) := by
  have hfree : (s.station n).free = true := Station.free_of_mayMove (s.authority_permitting n ▸ hp)
  obtain ⟨hinst, hup, hseen, hzero⟩ := eligible_iff.mp (Station.eligible_of_free hfree)
  have hlocked : t.authority n = .locked :=
    authorityOf_locked (h.installed.trans hinst) (h.up hup) (h.seen.trans hseen) (by rw [driveCount, h.holders]; exact hdrive)
  have hturned : (s.authority n).permitting = true ∧ (t.authority n).permitting = false := ⟨hp, by rw [hlocked]; rfl⟩
  obtain ⟨hprogress, -, -, hmotion, hwarn, -⟩ := h.motion
  obtain ⟨hdemand, hgrant, -, -, hquiet, -⟩ := hmotion hturned
  refine ⟨hlocked, hdemand, hgrant, hquiet, (h.news s.responder).1 (.inl fun hsame => hdrive ?_), fun ha => ?_⟩
  · rw [← h.holders, hsame]
    exact hzero
  · have hw := authorityOf_stowWarning ha
    obtain ⟨h1, h2⟩ := hwarn hturned hw
    exact ⟨hprogress.trans hw, h1, h2 (h.up hup)⟩

/-! ### LOCK (R88) -/

/-- The list and the outcome of a LOCK frame. -/
def lockOutcome (hs : List Holder) (badge : Badge) (scope : Scope) : List Holder × LockOutcome :=
  if badClaim badge scope then (hs, .bad) else claim hs badge scope

/-- The list and the outcome of an UNLOCK frame. -/
def unlockOutcome (hs : List Holder) (badge : Badge) (scope : Scope) : List Holder × LockOutcome :=
  if badClaim badge scope then (hs, .bad) else unclaim hs badge scope

/-- A frame that changes the list, with the report that it may record first. -/
theorem frameList_reported {n : StationId} {s : State} (hs : List Holder) (r : LockReply) {p : Prop} [Decidable p]
    (reason : FaultReason) (d : BitVec 32) (hreason : reason ≠ .queueFull) :
    let u := if p then recordFault (.station n) reason d (goodFrame n s) else goodFrame n s
    let t := closeEvent s (changeHolders n s hs (some r) u)
    FrameList n s t u hs r ∧ (p → s.recorded t (.station n) reason d) := by
  intro u t
  have hst : u.stations = (goodFrame n s).stations := by
    change State.stations (if p then _ else _) = _
    split
    · exact recordFault_stations _ _ _ _
    · rfl
  have honly : OnlyStations (goodFrame n s) u := by
    change OnlyStations _ (if p then _ else _)
    split
    · exact (recordFault_ports _ _ _ _).only
    · exact .refl _
  have htells : Tells false (goodFrame n s) u := by
    change Tells _ _ (if p then _ else _)
    split
    · exact recordFault_tells _ _ _ _
    · exact .refl _
  have hlist := frameList_of hs r hst honly htells
  refine ⟨hlist, fun hp => ?_⟩
  obtain ⟨x, locks, hafter, hf, ha⟩ := hlist.after
  have hu : u = recordFault (.station n) reason d (goodFrame n s) := if_pos hp
  rw [hu] at hafter
  exact recorded_of_news hreason (goodFrame_news n s) (goodFrame_only n s).now hafter hf ha

theorem goodFrame_holders (n : StationId) (s : State) : ((goodFrame n s).station n).holders = (s.station n).holders :=
  (goodFrame_body n s).holders

/-- What a LOCK frame leaves. -/
theorem lockFrame_list (n : StationId) (badge : Badge) (scope : Scope) (s : State) :
    let out := lockOutcome (s.station n).holders badge scope
    let t := closeEvent s (takeLock n s badge scope (goodFrame n s))
    (∃ u, FrameList n s t u out.1 ⟨badge, out.2, standingScope out.1 badge⟩)
      ∧ (out.2 = .full → s.recorded t (.station n) .lockFull (BitVec.ofNat 32 badge.toNat)) := by
  intro out t
  have ht : t = closeEvent s (changeHolders n s out.1 (some ⟨badge, out.2, standingScope out.1 badge⟩)
      (if out.2 = .full then recordFault (.station n) .lockFull (badgeDetail badge) (goodFrame n s) else goodFrame n s)) := by
    change closeEvent s (takeLock n s badge scope (goodFrame n s)) = _
    unfold takeLock
    rw [goodFrame_holders]
    rfl
  obtain ⟨hlist, hrecorded⟩ := frameList_reported (n := n) (s := s) out.1 ⟨badge, out.2, standingScope out.1 badge⟩
    (p := out.2 = .full) .lockFull (badgeDetail badge) (by simp)
  rw [ht, ← badgeDetail_eq]
  exact ⟨⟨_, hlist⟩, hrecorded⟩

/-- What an UNLOCK frame leaves. -/
theorem unlockFrame_list (n : StationId) (badge : Badge) (scope : Scope) (s : State) :
    let out := unlockOutcome (s.station n).holders badge scope
    let t := closeEvent s (takeUnlock n s badge scope (goodFrame n s))
    (∃ u, FrameList n s t u out.1 ⟨badge, out.2, standingScope out.1 badge⟩)
      ∧ (out.2 = .notHolder → s.recorded t (.station n) .notHolder (BitVec.ofNat 32 badge.toNat)) := by
  intro out t
  have ht : t = closeEvent s (changeHolders n s out.1 (some ⟨badge, out.2, standingScope out.1 badge⟩)
      (if out.2 = .notHolder then recordFault (.station n) .notHolder (badgeDetail badge) (goodFrame n s)
        else goodFrame n s)) := by
    change closeEvent s (takeUnlock n s badge scope (goodFrame n s)) = _
    unfold takeUnlock
    rw [goodFrame_holders]
    rfl
  obtain ⟨hlist, hrecorded⟩ := frameList_reported (n := n) (s := s) out.1 ⟨badge, out.2, standingScope out.1 badge⟩
    (p := out.2 = .notHolder) .notHolder (badgeDetail badge) (by simp)
  rw [ht, ← badgeDetail_eq]
  exact ⟨⟨_, hlist⟩, hrecorded⟩

/-- A claim by a badge that holds a record (R88). -/
theorem lockOutcome_held {hs : List Holder} {badge : Badge} {scope : Scope}
    (hbad : ¬(badge = 0 ∨ badge = 0xFFFF ∨ emptyScope scope = true)) (hheld : ∃ h ∈ hs, h.badge = badge) :
    lockOutcome hs badge scope
      = (hs.map fun h => if h.badge = badge then { h with scope := unionScope h.scope scope } else h, .merged) := by
  rw [lockOutcome, if_neg (badClaim_iff.not.mpr hbad), claim, if_pos (holds_iff.mpr hheld)]

theorem lockOutcome_taken {hs : List Holder} {badge : Badge} {scope : Scope}
    (hbad : ¬(badge = 0 ∨ badge = 0xFFFF ∨ emptyScope scope = true)) (hheld : ¬∃ h ∈ hs, h.badge = badge)
    (hroom : hs.length < 6) : lockOutcome hs badge scope = (hs ++ [⟨badge, scope⟩], .taken) := by
  have hroom : hs.length < Config.holderListSize := hroom
  rw [lockOutcome, if_neg (badClaim_iff.not.mpr hbad), claim, if_neg (holds_iff.not.mpr hheld), if_pos hroom]

theorem lockOutcome_full {hs : List Holder} {badge : Badge} {scope : Scope}
    (hbad : ¬(badge = 0 ∨ badge = 0xFFFF ∨ emptyScope scope = true)) (hheld : ¬∃ h ∈ hs, h.badge = badge)
    (hfull : 6 ≤ hs.length) : lockOutcome hs badge scope = (hs, .full) := by
  have hfull : ¬hs.length < Config.holderListSize := Nat.not_lt.mpr hfull
  rw [lockOutcome, if_neg (badClaim_iff.not.mpr hbad), claim, if_neg (holds_iff.not.mpr hheld), if_neg hfull]

/-- Settles O30: each row of R88 is a change of the list, and the rest follows from the change. -/
theorem lockFrame : Obligations.LockFrame := by
  intro n badge scope s
  refine ⟨_, rfl, ?_⟩
  obtain ⟨⟨u, h⟩, hrecorded⟩ := lockFrame_list n badge scope s
  generalize closeEvent s (takeLock n s badge scope (goodFrame n s)) = t at *
  have hrest := h.rest
  rw [h.link] at hrest
  have hreplied := And.intro h.waits (And.intro h.leaves h.returns)
  refine ⟨h.outside, hrest, fun hbad => ?_, fun hbad hheld => ?_, fun hbad hheld hroom => ?_, fun hbad hheld hfull => ?_,
    fun hbad hroom hd hp => ?_, h.clearing, h.block, h.motion, h.news s.responder⟩
  · have hout : lockOutcome (s.station n).holders badge scope = ((s.station n).holders, .bad) :=
      if_pos (badClaim_iff.mpr hbad)
    rw [hout] at h hreplied
    exact ⟨h.holders, hreplied⟩
  · rw [lockOutcome_held hbad hheld] at h hreplied
    rw [standingScope_union scope hheld] at hreplied
    exact ⟨h.holders, hreplied⟩
  · rw [lockOutcome_taken hbad hheld hroom] at h hreplied
    rw [standingScope_append hheld] at hreplied
    exact ⟨h.holders, hreplied⟩
  · rw [lockOutcome_full hbad hheld hfull] at h hreplied hrecorded
    rw [standingScope_of_not_held hheld] at hreplied
    exact ⟨h.holders, hreplied, hrecorded rfl⟩
  · refine h.driven ?_ hp
    rw [lockOutcome, if_neg (badClaim_iff.not.mpr hbad)]
    exact driveCount_claimed hd hroom

/-! ### UNLOCK (R89) -/

theorem unlockOutcome_held {hs : List Holder} {badge : Badge} {scope : Scope}
    (hbad : ¬(badge = 0 ∨ badge = 0xFFFF ∨ emptyScope scope = true)) (hheld : ∃ h ∈ hs, h.badge = badge) :
    unlockOutcome hs badge scope
      = ((hs.map fun h => if h.badge = badge then { h with scope := minusScope h.scope scope } else h).filter
          fun h => !emptyScope h.scope, .released) := by
  rw [unlockOutcome, if_neg (badClaim_iff.not.mpr hbad), unclaim, if_pos (holds_iff.mpr hheld)]

theorem unlockOutcome_notHeld {hs : List Holder} {badge : Badge} {scope : Scope}
    (hbad : ¬(badge = 0 ∨ badge = 0xFFFF ∨ emptyScope scope = true)) (hheld : ¬∃ h ∈ hs, h.badge = badge) :
    unlockOutcome hs badge scope = (hs, .notHolder) := by
  rw [unlockOutcome, if_neg (badClaim_iff.not.mpr hbad), unclaim, if_neg (holds_iff.not.mpr hheld)]

/-- Settles O31: each row of R89 is a change of the list, and the rest follows from the change. -/
theorem unlockFrame : Obligations.UnlockFrame := by
  intro n badge scope s
  refine ⟨_, rfl, ?_⟩
  obtain ⟨⟨u, h⟩, hrecorded⟩ := unlockFrame_list n badge scope s
  generalize closeEvent s (takeUnlock n s badge scope (goodFrame n s)) = t at *
  have hrest := h.rest
  rw [h.link] at hrest
  have hreplied := And.intro h.waits (And.intro h.leaves h.returns)
  refine ⟨h.outside, hrest, fun hbad => ?_, fun hbad hheld => ?_, fun hbad hheld => ?_,
    fun hbad hheld hinst hup hseen hdrive hleft => ?_, h.clearing, h.block, h.motion, h.news s.responder⟩
  · have hout : unlockOutcome (s.station n).holders badge scope = ((s.station n).holders, .bad) :=
      if_pos (badClaim_iff.mpr hbad)
    rw [hout] at h hreplied
    exact ⟨h.holders, hreplied⟩
  · rw [unlockOutcome_held hbad hheld] at h hreplied
    refine ⟨h.holders, fun hlaw => ?_⟩
    rw [standingScope_minus scope (hlaw n).2.1 hheld] at hreplied
    exact hreplied
  · rw [unlockOutcome_notHeld hbad hheld] at h hreplied hrecorded
    rw [standingScope_of_not_held hheld] at hreplied
    exact ⟨h.holders, hreplied, hrecorded rfl⟩
  · rw [unlockOutcome_held hbad hheld] at h
    refine h.starts (by simp [eligible, hdrive]) (eligible_iff.mpr ⟨h.installed.trans hinst, h.up hup, h.seen.trans hseen, ?_⟩)
    rw [driveCount, h.holders, List.countP_eq_zero]
    intro x hx
    simpa using List.all_eq_true.mp hleft x hx

end Sys2Proof.Machine
end

section
/-! SUPPORT. REMOTE_LOCK and REMOTE_UNLOCK (O56): a change of the list under badge 0, made by a request and answered twice (R95,
R96). -/

namespace Sys2Proof.Machine

/-! ### Requests on one station -/

theorem examine_attention_congr {x y : State} (h : x.attention = y.attention) : (examine x).attention = (examine y).attention := by
  rw [examine_attention, examine_attention, h]

/-- The end of a request that has changed station `n` alone. -/
theorem respond_ends {n : StationId} {tag code : Byte} {s : State} {a : Answer} (hwind : a.state.wind = s.wind)
    (h : ∀ m, m ≠ n → a.state.station m = s.station m) : Ends n s a.state (respond tag code s a) := by
  have hr : respond tag code s a
      = examine (offerUp (.mgmtResp tag code a.code a.contents) { markAt n s a.state with responder := none }) := by
    rw [respond, settleStow_same s a.state (stowActive_of_wind hwind), offerHeatMarkers_one h]
  rw [hr]
  refine ⟨?_, ?_, examine_attention_congr (offerUp_attention _ _), ?_⟩
  · rw [examine_stations, offerUp_eq]
  · rw [examine_eq, offerUp_eq]
  · rw [examine_eq, offerUp_eq]
    exact (markAt_ports n s a.state).only.wind

/-- A request that has changed station `n` alone leaves everything outside it. -/
theorem respond_sameOutside {n : StationId} {tag code : Byte} {s : State} {a : Answer}
    (honly : OnlyStations { s with responder := some (tag, code) } a.state)
    (h : ∀ m, m ≠ n → a.state.station m = s.station m) :
    State.sameOutside n { s with responder := none } (respond tag code s a) := by
  have hr : respond tag code s a
      = examine (offerUp (.mgmtResp tag code a.code a.contents) { markAt n s a.state with responder := none }) := by
    rw [respond, settleStow_same s a.state (stowActive_of_wind honly.wind), offerHeatMarkers_one h]
  rw [hr]
  refine .of_only_offerUp _ ?_ fun m hm => (markAt_station_ne s a.state hm).trans (h m hm)
  obtain ⟨h1, h2, h3, h4, -, h6, h7, h8, h9, h10, h11, h12, h13, h14, h15, h16, h17, h18, h19⟩ :=
    honly.trans (markAt_ports n s a.state).only
  exact ⟨h1, h2, h3, h4, rfl, h6, h7, h8, h9, h10, h11, h12, h13, h14, h15, h16, h17, h18, h19⟩

/-! ### The change (R95, R96) -/

/-- A request that changes the list of station `n` to `hs` under badge 0, and is answered DONE with the outcome. -/
structure RoomChanged (n : StationId) (s t : State) (hs : List Holder) (outcome : LockOutcome) (tag code : Byte) : Prop
    extends ListChanged n s t hs ⟨0, outcome, standingScope hs 0⟩ where
  link : (t.station n).link = (s.station n).link
  outside : State.sameOutside n { s with responder := none } t
  answered : s.answered t
    (.mgmtResp tag code .done (encU8 (lockOutcomeCode outcome) ++ encScope (standingScope hs 0)))

theorem withHolders_edit (n : StationId) (hs : List Holder) (s : State) : LockEdit n s (withHolders n hs s) := by
  have hown : (withHolders n hs s).station n = { s.station n with holders := hs } := by
    rw [withHolders_station, if_pos rfl]
  refine { only := withHolders_only n hs s, others := fun m hm => by rw [withHolders_station, if_neg hm], body := ?_
           clearing := ?_, port := ?_, sameClearing := ?_, sameLatch := ?_, sameTelemetry := ?_, up := ?_, seen := ?_ }
  all_goals rw [hown]
  · exact .refl _
  · exact id
  · exact fun _ _ => ⟨rfl, rfl, rfl⟩
  · exact id
  · exact id

theorem roomChanged_of {n : StationId} {s : State} {tag code : Byte} (hs : List Holder) (outcome : LockOutcome)
    (hroom : s.upstreamShort = false) :
    RoomChanged n s (respond tag code s (changeRoom n hs outcome { s with responder := some (tag, code) })) hs outcome
      tag code := by
  have h := withHolders_edit n hs { s with responder := some (tag, code) }
  have hz := h.settles (some ⟨0, outcome, standingScope hs 0⟩)
  have honly := h.only.trans hz.only
  have hothers := fun m hm => (hz.others m hm).trans (h.others m hm)
  have he := respond_ends (n := n) (tag := tag) (code := code) (s := s)
    (a := changeRoom n hs outcome { s with responder := some (tag, code) }) honly.wind hothers
  have hown : (withHolders n hs { s with responder := some (tag, code) }).station n = { s.station n with holders := hs } := by
    rw [withHolders_station, if_pos rfl]
    rfl
  have hnews := withHolders_news n hs { s with responder := some (tag, code) }
  have hends : Ends n { s with responder := some (tag, code) } _ _ := ⟨he.stations, he.faults, he.attention, he.wind⟩
  have hlist := listChanged_of h hz hends (by rw [decide_eq_true_iff, hown]) hnews.toTells (by rw [hown]; rfl)
  rw [hown] at hlist
  have c := hz.closed hends
  refine { holders := hlist.holders, installed := hlist.installed, up := hlist.up, seen := hlist.seen, rest := hlist.rest
           waits := hlist.waits, leaves := hlist.leaves, clearing := hlist.clearing, block := hlist.block
           motion := hlist.motion, news := hlist.news, starts := hlist.starts
           link := c.link.trans (by rw [hown]), outside := respond_sameOutside honly hothers, answered := ?_ }
  refine respond_answered hroom honly.upQueue honly.upTx ?_ (stowActive_of_wind honly.wind)
  exact (hnews.trans hz.news).latched

/-! ### A refused request -/

/-- Where no station and no cause has changed, nothing follows for the locks of a station. -/
theorem follows_of_same {n : StationId} {s t : State} (hst : t.stations = s.stations) (hwind : t.wind = s.wind)
    (hatt : s.restLaw → t.attention = s.attention) :
    s.clearingFollows t n ∧ s.blockFollows t n ∧ s.motionFollows t n ∧ s.lockNews t n := by
  have hown : t.station n = s.station n := State.station_congr hst n
  have hauth : t.authority n = s.authority n := by
    unfold State.authority
    rw [hown, stowActive_of_wind hwind]
  have hturned : ¬((s.authority n).permitting = true ∧ (t.authority n).permitting = false) := by
    rw [hauth]
    rintro ⟨h1, h2⟩
    exact absurd (h1.symm.trans h2) (by simp)
  have hzone : ∀ z, t.zone n z = s.zone n z := fun z => by rw [State.zone, hown]; rfl
  refine ⟨?_, ⟨?_, fun z => ?_⟩, ?_, ?_⟩
  · unfold State.clearingFollows
    rw [hown]
    refine fun hlaw => ⟨fun hnot hable => absurd hable hnot, fun hsome hdrive => absurd ((hlaw n).2 hsome).2.2 hdrive,
      fun _ _ => rfl⟩
  · rintro ⟨z, hz⟩
    exact absurd (by rw [hzone]) hz
  · have hsame : t.becomes n z (s.zone n z) := by rw [State.becomes_iff, hzone]; exact .refl _
    rw [hown]
    refine ⟨fun h0 h1 => absurd (h0.symm.trans h1) (by simp), fun h0 h1 => absurd (h0.symm.trans h1) (by simp), fun _ => hsame⟩
  · unfold State.motionFollows
    rw [hown]
    exact ⟨rfl, rfl, rfl, fun h => absurd h hturned, fun h => absurd h hturned, fun _ => rfl,
      fun _ => ⟨rfl, rfl, rfl, rfl, fun _ => rfl⟩⟩
  · unfold State.lockNews
    rw [hown]
    refine ⟨fun h => h.elim (absurd rfl) (absurd rfl), fun _ _ _ hrest => ?_⟩
    rw [hatt hrest]
    exact ⟨rfl, Iff.rfl⟩

/-- What every outcome of REMOTE_LOCK and REMOTE_UNLOCK leaves of the station and outside it. -/
structure RoomFollows (n : StationId) (s t : State) : Prop where
  outside : State.sameOutside n { s with responder := none } t
  rest : { s.station n with
      holders := (t.station n).holders, clearing := (t.station n).clearing
      zones := (t.station n).zones }.sameButMotion (t.station n)
  clearing : s.clearingFollows t n
  block : s.blockFollows t n
  motion : s.motionFollows t n
  news : s.lockNews t n

theorem RoomChanged.follows {n : StationId} {s t : State} {hs : List Holder} {outcome : LockOutcome} {tag code : Byte}
    (h : RoomChanged n s t hs outcome tag code) : RoomFollows n s t := by
  have hrest := h.rest
  rw [h.link] at hrest
  exact ⟨h.outside, hrest, h.clearing, h.block, h.motion, h.news s.responder⟩

theorem State.sameButPort.roomFollows {s t : State} (h : s.sameButPort t) (n : StationId) : RoomFollows n s t := by
  have hst : t.stations = s.stations := by rw [h.1]
  have hown := State.station_congr hst
  obtain ⟨h1, h2, h3, h4⟩ := follows_of_same (n := n) hst (by rw [h.1]) h.2
  refine ⟨⟨?_, fun m _ => hown m⟩, ?_, h1, h2, h3, h4⟩
  · refine h.1.trans ?_
    rw [h.1]
  · rw [hown n]
    exact SameBody.sameButPort (.refl _)

/-! ### The requests (R95, R96) -/

theorem requestScope_eq {c : Byte} (h3 : c.toNat ≤ 3) :
    requestScope c = some { drive := c.getLsbD 0, heat := c.getLsbD 1 } := if_pos h3

theorem byte_cases {c : Byte} (h1 : 1 ≤ c.toNat) (h3 : c.toNat ≤ 3) : c = 1 ∨ c = 2 ∨ c = 3 := by
  have h : c.toNat = 1 ∨ c.toNat = 2 ∨ c.toNat = 3 := by omega
  rcases h with h | h | h
  · exact .inl (BitVec.eq_of_toNat_eq h)
  · exact .inr (.inl (BitVec.eq_of_toNat_eq h))
  · exact .inr (.inr (BitVec.eq_of_toNat_eq h))

theorem scope_not_empty {c : Byte} (h1 : 1 ≤ c.toNat) (h3 : c.toNat ≤ 3) :
    emptyScope { drive := c.getLsbD 0, heat := c.getLsbD 1 } = false := by
  rcases byte_cases h1 h3 with rfl | rfl | rfl <;> decide

theorem encScope_byte {c : Byte} (h1 : 1 ≤ c.toNat) (h3 : c.toNat ≤ 3) :
    encScope { drive := c.getLsbD 0, heat := c.getLsbD 1 } = [c] := by
  rcases byte_cases h1 h3 with rfl | rfl | rfl <;> decide

theorem withClaim_eq {b c : Byte} {n : StationId} (hb : b.toNat = n.val) (h1 : 1 ≤ c.toNat) (h3 : c.toNat ≤ 3)
    (run : StationId → Scope → State → Answer) (s : State) :
    withClaim [b, c] run s = run n { drive := c.getLsbD 0, heat := c.getLsbD 1 } s := by
  simp only [withClaim, stationOf_eq_some hb, requestScope_eq h3, scope_not_empty h1 h3, Bool.false_eq_true, if_false]

/-- A REMOTE_LOCK whose claim is not refused. -/
theorem remoteLock_done {tag b c : Byte} {n : StationId} {s : State} (hroom : s.upstreamShort = false) (hb : b.toNat = n.val)
    (h1 : 1 ≤ c.toNat) (h3 : c.toNat ≤ 3) {hs : List Holder} {outcome : LockOutcome} (hne : outcome ≠ .full)
    (hout : claim (s.station n).holders 0 { drive := c.getLsbD 0, heat := c.getLsbD 1 } = (hs, outcome)) :
    RoomChanged n s (manage tag 0x0C (withClaim [b, c] runRemoteLock) s) hs outcome tag 0x0C := by
  have hrun : runRemoteLock n { drive := c.getLsbD 0, heat := c.getLsbD 1 } { s with responder := some (tag, 0x0C) }
      = changeRoom n hs outcome { s with responder := some (tag, 0x0C) } := by
    unfold runRemoteLock
    change (if (claim (s.station n).holders 0 _).2 = .full then _ else
      changeRoom n (claim (s.station n).holders 0 _).1 (claim (s.station n).holders 0 _).2 _) = _
    rw [hout, if_neg hne]
  rw [manage_room tag 0x0C _ s hroom, withClaim_eq hb h1 h3, hrun]
  exact roomChanged_of hs outcome hroom

/-- A REMOTE_UNLOCK of a badge that holds a record. -/
theorem remoteUnlock_done {tag b c : Byte} {n : StationId} {s : State} (hroom : s.upstreamShort = false) (hb : b.toNat = n.val)
    (h1 : 1 ≤ c.toNat) (h3 : c.toNat ≤ 3) {hs : List Holder} {outcome : LockOutcome} (hne : outcome ≠ .notHolder)
    (hout : unclaim (s.station n).holders 0 { drive := c.getLsbD 0, heat := c.getLsbD 1 } = (hs, outcome)) :
    RoomChanged n s (manage tag 0x0D (withClaim [b, c] runRemoteUnlock) s) hs outcome tag 0x0D := by
  have hrun : runRemoteUnlock n { drive := c.getLsbD 0, heat := c.getLsbD 1 } { s with responder := some (tag, 0x0D) }
      = changeRoom n hs outcome { s with responder := some (tag, 0x0D) } := by
    unfold runRemoteUnlock
    change (if (unclaim (s.station n).holders 0 _).2 = .notHolder then _ else
      changeRoom n (unclaim (s.station n).holders 0 _).1 (unclaim (s.station n).holders 0 _).2 _) = _
    rw [hout, if_neg hne]
  rw [manage_room tag 0x0D _ s hroom, withClaim_eq hb h1 h3, hrun]
  exact roomChanged_of hs outcome hroom

/-- A REMOTE_LOCK for which the list has no room (R95). -/
theorem remoteLock_refused {tag b c : Byte} {n : StationId} {s : State} (hroom : s.upstreamShort = false) (hb : b.toNat = n.val)
    (h1 : 1 ≤ c.toNat) (h3 : c.toNat ≤ 3)
    (hout : claim (s.station n).holders 0 { drive := c.getLsbD 0, heat := c.getLsbD 1 } = ((s.station n).holders, .full)) :
    s.sameButPort (manage tag 0x0C (withClaim [b, c] runRemoteLock) s)
      ∧ s.answered (manage tag 0x0C (withClaim [b, c] runRemoteLock) s) (.mgmtResp tag 0x0C .noRoom []) := by
  refine manage_same hroom .noRoom [] ?_
  rw [withClaim_eq hb h1 h3]
  unfold runRemoteLock
  change (if (claim (s.station n).holders 0 _).2 = .full then refuse .noRoom _ else _) = _
  rw [hout, if_pos rfl]
  rfl

/-- A REMOTE_UNLOCK of a badge that holds nothing (R96). -/
theorem remoteUnlock_refused {tag b c : Byte} {n : StationId} {s : State} (hroom : s.upstreamShort = false)
    (hb : b.toNat = n.val) (h1 : 1 ≤ c.toNat) (h3 : c.toNat ≤ 3)
    (hout : unclaim (s.station n).holders 0 { drive := c.getLsbD 0, heat := c.getLsbD 1 }
      = ((s.station n).holders, .notHolder)) :
    s.sameButPort (manage tag 0x0D (withClaim [b, c] runRemoteUnlock) s)
      ∧ s.answered (manage tag 0x0D (withClaim [b, c] runRemoteUnlock) s) (.mgmtResp tag 0x0D .notHolder []) := by
  refine manage_same hroom .notHolder [] ?_
  rw [withClaim_eq hb h1 h3]
  unfold runRemoteUnlock
  change (if (unclaim (s.station n).holders 0 _).2 = .notHolder then refuse .notHolder _ else _) = _
  rw [hout, if_pos rfl]
  rfl

/-- A DRIVE claim of the control room makes a permitting station LOCKED (R20, R95). -/
theorem RoomChanged.locked {n : StationId} {s t : State} {hs : List Holder} {outcome : LockOutcome} {tag code : Byte}
    {scope : Scope} (h : RoomChanged n s t hs outcome tag code) (hout : claim (s.station n).holders 0 scope = (hs, outcome))
    (hd : scope.drive = true) (hlen : (s.station n).holders.length < 6) (hp : (s.authority n).permitting = true) :
    t.authority n = .locked := by
  have hcount := driveCount_claimed (badge := 0) hd hlen
  rw [hout] at hcount
  exact (h.driven hcount hp).1

/-- Settles O56: a DONE is a change of the list, made with the request in hand; a refusal changes nothing. -/
theorem remoteLocks : Obligations.RemoteLocks := by
  intro tag b c n s hroom hb h1 h3
  dsimp only
  refine ⟨⟨manage tag 0x0C (withClaim [b, c] runRemoteLock) s, rfl, ?_⟩,
    ⟨manage tag 0x0D (withClaim [b, c] runRemoteUnlock) s, rfl, ?_⟩⟩
  · by_cases hheld : ∃ h ∈ (s.station n).holders, h.badge = 0
    · have hout : claim (s.station n).holders 0 { drive := c.getLsbD 0, heat := c.getLsbD 1 } = (_, .merged) :=
        if_pos (holds_iff.mpr hheld)
      have h := remoteLock_done (tag := tag) hroom hb h1 h3 (by simp) hout
      have hanswered := h.answered
      have hwaits := h.waits
      rw [standingScope_union _ hheld] at hanswered hwaits
      have hf := h.follows
      exact ⟨fun _ => ⟨h.holders, hanswered, hwaits⟩, fun hnot => absurd hheld hnot, fun hnot => absurd hheld hnot,
        fun hd hlen hp => h.locked hout hd hlen hp, hf.outside, hf.rest, hf.clearing, hf.block, hf.motion, hf.news⟩
    · by_cases hlen : (s.station n).holders.length < 6
      · have hlen' : (s.station n).holders.length < Config.holderListSize := hlen
        have hout : claim (s.station n).holders 0 { drive := c.getLsbD 0, heat := c.getLsbD 1 } = (_, .taken) :=
          (if_neg (holds_iff.not.mpr hheld)).trans (if_pos hlen')
        have h := remoteLock_done (tag := tag) hroom hb h1 h3 (by simp) hout
        have hanswered := h.answered
        have hwaits := h.waits
        rw [standingScope_append hheld] at hanswered hwaits
        rw [encScope_byte h1 h3] at hanswered
        have hf := h.follows
        exact ⟨fun hh => absurd hh hheld, fun _ _ => ⟨h.holders, hanswered, hwaits⟩, fun _ hfull => absurd hlen (by omega),
          fun hd hlen hp => h.locked hout hd hlen hp, hf.outside, hf.rest, hf.clearing, hf.block, hf.motion, hf.news⟩
      · have hlen' : ¬(s.station n).holders.length < Config.holderListSize := hlen
        have hout : claim (s.station n).holders 0 { drive := c.getLsbD 0, heat := c.getLsbD 1 }
            = ((s.station n).holders, .full) := (if_neg (holds_iff.not.mpr hheld)).trans (if_neg hlen')
        have h := remoteLock_refused (tag := tag) hroom hb h1 h3 hout
        have hf := h.1.roomFollows n
        exact ⟨fun hh => absurd hh hheld, fun _ hl => absurd hl hlen, fun _ _ => h, fun _ hl => absurd hl hlen, hf.outside,
          hf.rest, hf.clearing, hf.block, hf.motion, hf.news⟩
  · by_cases hheld : ∃ h ∈ (s.station n).holders, h.badge = 0
    · have hout : unclaim (s.station n).holders 0 { drive := c.getLsbD 0, heat := c.getLsbD 1 } = (_, .released) :=
        if_pos (holds_iff.mpr hheld)
      have h := remoteUnlock_done (tag := tag) hroom hb h1 h3 (by simp) hout
      have hf := h.follows
      refine ⟨fun _ => h.holders, fun _ hlaw => ?_, fun hnot => absurd hheld hnot, hf.outside, hf.rest, hf.clearing, hf.block,
        hf.motion, hf.news⟩
      have hanswered := h.answered
      have hwaits := h.waits
      rw [standingScope_minus _ (hlaw n).2.1 hheld] at hanswered hwaits
      exact ⟨hanswered, hwaits⟩
    · have hout : unclaim (s.station n).holders 0 { drive := c.getLsbD 0, heat := c.getLsbD 1 }
          = ((s.station n).holders, .notHolder) := if_neg (holds_iff.not.mpr hheld)
      have h := remoteUnlock_refused (tag := tag) hroom hb h1 h3 hout
      have hf := h.1.roomFollows n
      exact ⟨fun hh => absurd hh hheld, fun hh => absurd hh hheld, fun _ => h, hf.outside, hf.rest, hf.clearing, hf.block,
        hf.motion, hf.news⟩

end Sys2Proof.Machine
end

section
/-! SUPPORT. The crew set of a lock report and the list that a report leaves (R91 to R93). -/

namespace Sys2Proof.Machine

/-! ### The crew set (R92 steps 1 and 2) -/

/-- The record of a badge: every claim that one of its entries makes. -/
def claimsOf (crew : List ReportEntry) (badge : Badge) : Holder where
  badge := badge
  scope := {
    drive := crew.any fun e => e.badge == badge && e.scope.drive
    heat := crew.any fun e => e.badge == badge && e.scope.heat }

theorem crewOf_eq (es : List ReportEntry) : crewOf es =
    (((es.filter fun e => e.badge != 0).map (·.badge)).eraseDups).map (claimsOf (es.filter fun e => e.badge != 0)) := rfl

theorem eraseDups_concat (l : List Badge) (b : Badge) : (l ++ [b]).eraseDups = if b ∈ l then l.eraseDups else l.eraseDups ++ [b] := by
  rw [List.eraseDups_append, List.removeAll]
  by_cases h : b ∈ l <;> simp [h, List.eraseDups_cons]

theorem claimsOf_concat_other {crew : List ReportEntry} {e : ReportEntry} {badge : Badge} (h : badge ≠ e.badge) :
    claimsOf (crew ++ [e]) badge = claimsOf crew badge := by
  have hne : (e.badge == badge) = false := by simpa using h.symm
  simp [claimsOf, hne]

theorem claimsOf_concat_own (crew : List ReportEntry) (e : ReportEntry) :
    claimsOf (crew ++ [e]) e.badge = { claimsOf crew e.badge with scope := unionScope (claimsOf crew e.badge).scope e.scope } := by
  simp [claimsOf, unionScope]

theorem claimsOf_absent {crew : List ReportEntry} {badge : Badge} (h : badge ∉ crew.map (·.badge)) :
    (claimsOf crew badge).scope = noScope := by
  have hnone : ∀ e ∈ crew, (e.badge == badge) = false := fun e he => by
    simpa using fun hb : e.badge = badge => h (List.mem_map.mpr ⟨e, he, hb⟩)
  have hany : ∀ p : ReportEntry → Bool, (crew.any fun e => e.badge == badge && p e) = false := fun p => by
    rw [List.any_eq_false]
    intro e he
    simp [hnone e he]
  simp [claimsOf, noScope, hany]

/-- One entry more is united into the crew set. -/
theorem addCrew_claims (crew : List ReportEntry) (e : ReportEntry) :
    addCrew ((crew.map (·.badge)).eraseDups.map (claimsOf crew)) e
      = ((crew ++ [e]).map (·.badge)).eraseDups.map (claimsOf (crew ++ [e])) := by
  have hmem : holds ((crew.map (·.badge)).eraseDups.map (claimsOf crew)) e.badge = true ↔ e.badge ∈ crew.map (·.badge) := by
    rw [holds_iff]
    constructor
    · rintro ⟨h, hh, hb⟩
      obtain ⟨b, hbm, rfl⟩ := List.mem_map.mp hh
      exact hb ▸ List.mem_eraseDups.mp hbm
    · exact fun hb => ⟨claimsOf crew e.badge, List.mem_map.mpr ⟨_, List.mem_eraseDups.mpr hb, rfl⟩, rfl⟩
  rw [List.map_append, List.map_singleton, eraseDups_concat, addCrew]
  by_cases hb : e.badge ∈ crew.map (·.badge)
  · rw [if_pos (hmem.mpr hb), if_pos hb, List.map_map]
    refine List.map_congr_left fun b _ => ?_
    rw [Function.comp]
    by_cases hbe : b = e.badge
    · subst hbe
      rw [claimsOf_concat_own]
      exact if_pos rfl
    · rw [claimsOf_concat_other hbe]
      exact if_neg hbe
  · rw [if_neg (hmem.not.mpr hb), if_neg hb, List.map_append, List.map_singleton, claimsOf_concat_own]
    congr 1
    · refine List.map_congr_left fun b hbm => (claimsOf_concat_other ?_).symm
      rintro rfl
      exact hb (List.mem_eraseDups.mp hbm)
    · rw [claimsOf_absent hb]
      simp [unionScope, noScope, claimsOf]

/-- The crew set is the distinct badges with all that they claim. -/
theorem crewSet_eq (es : List ReportEntry) : crewSet es = crewOf es := by
  have hfold : ∀ (l crew : List ReportEntry), l.foldl addCrew ((crew.map (·.badge)).eraseDups.map (claimsOf crew))
      = ((crew ++ l).map (·.badge)).eraseDups.map (claimsOf (crew ++ l)) := by
    intro l
    induction l with
    | nil => intro crew; rw [List.append_nil]; rfl
    | cons e l ih =>
      intro crew
      rw [List.foldl_cons, addCrew_claims, ih, List.append_assoc, List.singleton_append]
  exact hfold _ []

theorem eraseDups_of_nodup {l : List Badge} (h : l.Nodup) : l.eraseDups = l := by
  induction l with
  | nil => rfl
  | cons b l ih =>
    obtain ⟨hb, hl⟩ := List.nodup_cons.mp h
    rw [List.eraseDups_cons, List.filter_eq_self.mpr (fun x hx => ?_), ih hl]
    simpa using fun he : x = b => hb (he ▸ hx)

/-- A report without badge 0 and without a repeated badge is its own crew set. -/
theorem crewOf_plain {es : List ReportEntry} (hnodup : (es.map (·.badge)).Nodup) (hzero : ∀ e ∈ es, e.badge ≠ 0) :
    crewOf es = es.map fun e => { badge := e.badge, scope := e.scope } := by
  have hfilter : es.filter (fun e => e.badge != 0) = es := List.filter_eq_self.mpr fun e he => by simpa using hzero e he
  rw [crewOf_eq, hfilter, eraseDups_of_nodup hnodup, List.map_map]
  refine List.map_congr_left fun e he => ?_
  have hany : ∀ p : ReportEntry → Bool, (es.any fun x => x.badge == e.badge && p x) = p e := by
    intro p
    rw [Bool.eq_iff_iff, List.any_eq_true]
    constructor
    · rintro ⟨x, hx, hp⟩
      rw [Bool.and_eq_true, beq_iff_eq] at hp
      exact List.inj_on_of_nodup_map hnodup hx he hp.1 ▸ hp.2
    · exact fun hp => ⟨e, he, by rw [hp]; simp⟩
  simp [claimsOf, hany]

/-! ### The list that a report leaves (R92, R93) -/

theorem rebuild_plain {hs : List Holder} (es : List ReportEntry) (h : ∀ h ∈ hs, h.badge ≠ 0) :
    rebuild hs es = (crewOf es, none) := by
  have hnone : hs.find? (·.badge == 0) = none := List.find?_eq_none.mpr fun x hx => by simpa using h x hx
  unfold rebuild
  rw [hnone, crewSet_eq]

theorem find_room {pre post : List Holder} {room : Holder} (hroom : room.badge = 0) (hpre : ∀ h ∈ pre, h.badge ≠ 0) :
    (pre ++ room :: post).find? (·.badge == 0) = some room ∧ (pre ++ room :: post).findIdx (·.badge == 0) = pre.length := by
  induction pre with
  | nil => simp [hroom, List.findIdx_cons]
  | cons x pre ih =>
    have hx : (x.badge == 0) = false := by simpa using hpre x (by simp)
    obtain ⟨h1, h2⟩ := ih fun h hh => hpre h (by simp [hh])
    rw [List.cons_append, List.find?_cons, hx, List.findIdx_cons, hx, h1, h2]
    exact ⟨rfl, rfl⟩

theorem rebuild_room {pre post : List Holder} {room : Holder} (es : List ReportEntry) (hroom : room.badge = 0)
    (hpre : ∀ h ∈ pre, h.badge ≠ 0) (hlen : (crewOf es).length ≤ 5) :
    rebuild (pre ++ room :: post) es = ((crewOf es).take pre.length ++ room :: (crewOf es).drop pre.length, none) := by
  obtain ⟨h1, h2⟩ := find_room (post := post) hroom hpre
  unfold rebuild
  simp only [h1, h2, crewSet_eq]
  rw [List.drop_eq_nil_of_le hlen]
  rfl

theorem rebuild_sixth {pre post : List Holder} {room sixth : Holder} (es : List ReportEntry) (hroom : room.badge = 0)
    (hpre : ∀ h ∈ pre, h.badge ≠ 0) (hsixth : (crewOf es).drop 5 = [sixth]) :
    rebuild (pre ++ room :: post) es =
      (((crewOf es).take 5).take pre.length
        ++ { room with scope := unionScope room.scope sixth.scope } :: ((crewOf es).take 5).drop pre.length,
        some sixth.badge) := by
  obtain ⟨h1, h2⟩ := find_room (post := post) hroom hpre
  unfold rebuild
  simp only [h1, h2, crewSet_eq]
  rw [hsixth]
  rfl

theorem malformedReport_iff {es : List ReportEntry} :
    malformedReport es = true ↔ 6 < es.length ∨ ∃ e ∈ es, e.badge = 0xFFFF ∨ emptyScope e.scope = true := by
  simp [malformedReport]

/-- The scope of the control room in a list without a repeated badge. -/
theorem standingScope_of_mem {hs : List Holder} {room : Holder} (hmem : room ∈ hs) (hnodup : (hs.map (·.badge)).Nodup) :
    standingScope hs room.badge = room.scope := by
  induction hs with
  | nil => exact absurd hmem (by simp)
  | cons x hs ih =>
    rw [List.map_cons, List.nodup_cons] at hnodup
    rw [standingScope_cons]
    rcases List.mem_cons.mp hmem with rfl | hmem
    · exact if_pos rfl
    · rw [if_neg fun hx => hnodup.1 (List.mem_map.mpr ⟨room, hmem, hx.symm⟩), ih hmem hnodup.2]

end Sys2Proof.Machine
end

section
/-! SUPPORT. LOCK_REPORT (O32): a report taken is a change of the locks, and one dropped changes nothing but the link (R91 to
R94). -/

namespace Sys2Proof.Machine

/-! ### A report taken (R92 to R94) -/

/-- The record and the reports of a well-formed lock report, before its station is settled (R87, R92, R93). -/
def afterReport (n : StationId) (built : List Holder × Option Badge) (s : State) : State :=
  let s1 := s.updStation n fun st => { st with holders := built.1, lockReportSeen := true }
  raise .lockChange
    (match built.2 with
    | none => s1
    | some badge => recordFault (.station n) .lockFull (badgeDetail badge) s1)

/-- The reply of a report: to a list with a control-room record (R94). -/
def standingReply (hs : List Holder) : Option LockReply :=
  if holds hs 0 then some ⟨0, .standing, standingScope hs 0⟩ else none

theorem takeReport_eq (n : StationId) (s0 : State) (es : List ReportEntry) (s : State) : takeReport n s0 es s =
    settleStation n s0 (standingReply (rebuild (s.station n).holders es).1)
      (afterReport n (rebuild (s.station n).holders es) s) := rfl

theorem afterReport_only (n : StationId) (built : List Holder × Option Badge) (s : State) :
    OnlyStations s (afterReport n built s) := by
  unfold afterReport
  simp only
  refine OnlyStations.trans ?_ (raise_ports _ _).only
  split
  · exact s.updStation_only n _
  · exact (s.updStation_only n _).trans (recordFault_ports _ _ _ _).only

theorem afterReport_station (n m : StationId) (built : List Holder × Option Badge) (s : State) :
    (afterReport n built s).station m =
      if m = n then { s.station n with holders := built.1, lockReportSeen := true } else s.station m := by
  unfold afterReport
  simp only
  rw [raise_station]
  split
  · exact State.updStation_station _ _ _ _
  · rw [recordFault_station]
    exact State.updStation_station _ _ _ _

theorem afterReport_tells (n : StationId) (built : List Holder × Option Badge) (s : State) :
    Tells true s (afterReport n built s) := by
  have hupd : Tells false s (s.updStation n fun st => { st with holders := built.1, lockReportSeen := true }) := .of_same rfl
  have hraise := fun u : State => Tells.raise .lockChange u
  unfold afterReport
  simp only
  split
  · exact hupd.trans (hraise _)
  · exact (hupd.trans (recordFault_tells _ _ _ _)).trans (hraise _)

theorem afterReport_sixth {n : StationId} {built : List Holder × Option Badge} {badge : Badge} (h : built.2 = some badge)
    (s : State) : afterReport n built s = raise .lockChange (recordFault (.station n) .lockFull (badgeDetail badge)
      (s.updStation n fun st => { st with holders := built.1, lockReportSeen := true })) := by
  unfold afterReport
  simp only [h]

section
variable {n : StationId} {s : State} {built : List Holder × Option Badge}

theorem afterReport_own : (afterReport n built (goodFrame n s)).station n
    = { (goodFrame n s).station n with holders := built.1, lockReportSeen := true } := by
  rw [afterReport_station, if_pos rfl]

theorem afterReport_edit : LockEdit n s (afterReport n built (goodFrame n s)) := by
  refine .of_frame (fun st => { st with holders := built.1, lockReportSeen := true })
    ((goodFrame_only n s).trans (afterReport_only n built _)) (fun m hm => ?_) afterReport_own (fun _ => rfl) (fun _ _ => rfl)
  rw [afterReport_station, if_neg hm, goodFrame_station_ne n m s hm]

theorem afterReport_up : ((afterReport n built (goodFrame n s)).station n).link = .up ⟨s.now, s.settings.timing.linkTimeout⟩ := by
  rw [afterReport_own]
  exact goodFrame_link n s

/-- The HORN on that a report offers to a station whose link was DOWN. -/
theorem afterReport_horns (haway : s.away n) : ((afterReport n built (goodFrame n s)).station n).horns false false
    = if eligible ((afterReport n built (goodFrame n s)).station n) then [.horn true] else [] := by
  have hclear : ((afterReport n built (goodFrame n s)).station n).clearing = none :=
    (afterReport_edit (s := s)).sameClearing.trans haway.2.2.2.2
  simp [Station.horns, Station.cancels, Station.starts, hclear]

end

/-- The report of a sixth crew member (R93). -/
theorem afterReport_recorded {n : StationId} {s z t : State} {built : List Holder × Option Badge} {badge : Badge} {locks : Bool}
    (h : built.2 = some badge) (hz : News locks (afterReport n built (goodFrame n s)) z) (he : Ends n s z t) :
    s.recorded t (.station n) .lockFull (BitVec.ofNat 32 badge.toNat) := by
  have hupd : News false (goodFrame n s) ((goodFrame n s).updStation n fun st =>
    { st with holders := built.1, lockReportSeen := true }) := .updStation _ n _
  rw [afterReport_sixth h] at hz
  have hafter := ((News.raise_lock _).trans hz).trans (markAt_news n s z)
  rw [← badgeDetail_eq]
  exact recorded_of_news (by simp) ((goodFrame_news n s).trans hupd) (goodFrame_only n s).now hafter he.faults he.attention

theorem Closed.of_reply {n : StationId} {s y t : State} {reply reply' : Option LockReply} (c : Closed n s y t reply)
    (h : reply = reply') : Closed n s y t reply' := h ▸ c

/-- A LOCK_REPLY that waits after an event without one waited before it. -/
theorem Closed.reply_waited {n : StationId} {s y t : State} (c : Closed n s y t none) (h : LockEdit n s y) {r : LockReply}
    (hq : s.queueing n) (hr : .lockReply r ∈ (t.station n).queue) : .lockReply r ∈ (s.station n).queue := by
  obtain ⟨hup, htx⟩ := hq
  obtain ⟨marks, hmarks, hoffers⟩ := c.offers
  obtain ⟨htx', hqueue⟩ := h.stilled_port (s.turnedAt y n) (y.stopSetpoint n) hup (h.up hup)
  rw [(hoffers.sending (h.up hup) (by rw [htx']; exact htx)).2] at hr
  rcases mem_of_mem_foldl_admitted hr with hr | hr
  · rw [hqueue] at hr
    split at hr
    · obtain ⟨e, he, hre⟩ := List.mem_map.mp hr
      cases e with
      | setpoint sp => simp only at hre; split at hre <;> exact absurd hre (by simp)
      | lockReply r' => exact hre ▸ he
      | heat | horn _ | pin _ | linkUp | cabinetData _ => exact absurd hre (by simp)
    · exact hr
  · exfalso
    simp only [List.mem_append] at hr
    rcases hr with (hr | hr) | hr
    · exact absurd hr (by simp [repliesOf])
    · exact absurd (Station.horns_kind hr) (by simp)
    · rcases hmarks with rfl | rfl <;> simp at hr

/-- What a lock report that is taken has brought about in an event from `s` to `t`, with the list and the sixth badge
`built`. -/
structure ReportTaken (n : StationId) (s t : State) (built : List Holder × Option Badge) : Prop where
  outside : s.sameOutside n t
  rest : { s.station n with
      link := .up ⟨s.now, s.settings.timing.linkTimeout⟩, lockReportSeen := (t.station n).lockReportSeen
      holders := (t.station n).holders, clearing := (t.station n).clearing
      zones := (t.station n).zones }.sameButMotion (t.station n)
  holders : (t.station n).holders = built.1
  seen : (t.station n).lockReportSeen = true
  raises : s.raises t .lockChange
  sixth : ∀ badge, built.2 = some badge → s.recorded t (.station n) .lockFull (BitVec.ofNat 32 badge.toNat)
  starts : (s.station n).installed = true → (s.station n).lockReportSeen = false → driveCount (t.station n) = 0 →
    (t.station n).clearing = some ⟨s.now, s.settings.timing.clearDelay⟩ ∧ s.offered t n (.horn true)
  clearing : s.clearingFollows t n
  motion : s.motionFollows t n
  block : s.blockFollows t n
  waits : ∀ r, standingReply built.1 = some r →
    (s.queueing n → (s.station n).queue.length ≤ 5 → .lockReply r ∈ (t.station n).queue)
      ∧ (s.idling n → (t.station n).tx = some (.lockReply r))
  silent : standingReply built.1 = none → s.queueing n → ∀ r, .lockReply r ∈ (t.station n).queue → .lockReply r ∈ (s.station n).queue
  returns : s.linkReturns t n (repliesOf (standingReply built.1)
    ++ if (s.station n).installed = true ∧ driveCount (t.station n) = 0 then [.horn true] else [])

theorem reportTaken_of (n : StationId) (es : List ReportEntry) (s : State) :
    ReportTaken n s (closeEvent s (takeReport n s es (goodFrame n s))) (rebuild (s.station n).holders es) := by
  rw [takeReport_eq, goodFrame_holders]
  generalize rebuild (s.station n).holders es = built
  have h : LockEdit n s (afterReport n built (goodFrame n s)) := afterReport_edit
  have hz := h.settles (standingReply built.1)
  have hothers := fun m hm => (hz.others m hm).trans (h.others m hm)
  have hwind := (h.only.trans hz.only).wind
  have he := closeEvent_ends hwind hothers
  have c := hz.closed he
  have hown := afterReport_own (n := n) (s := s) (built := built)
  have hlink := afterReport_up (n := n) (s := s) (built := built)
  have hup : ((afterReport n built (goodFrame n s)).station n).link.isUp = true := by rw [hlink]; rfl
  have hseen : ((afterReport n built (goodFrame n s)).station n).lockReportSeen = true := by rw [hown]
  have htells := (goodFrame_news n s).toTells.trans (afterReport_tells n built (goodFrame n s))
  have hraises := clears_raises hz he htells
  have hable : eligible ((afterReport n built (goodFrame n s)).station n) = true
      ↔ (s.station n).installed = true
        ∧ driveCount ((closeEvent s (settleStation n s (standingReply built.1)
            (afterReport n built (goodFrame n s)))).station n) = 0 := by
    rw [eligible_iff, c.driveCount, h.body.installed]
    simp [hup, hseen]
  refine { outside := ?_, rest := ?_, holders := c.holders.trans (by rw [hown]), seen := c.lockReportSeen.trans hseen
           raises := he.raises_lock (htells.trans hz.news.toTells), sixth := fun badge hbadge => ?_
           starts := fun hinst hs hdrive => ?_, clearing := c.clearingFollows h hraises
           motion := c.motionFollows h.toEdited (fun hup _ => h.stop hup) (fun hup _ => h.up hup)
           block := hz.blockFollows he h, waits := fun r hr => ?_, silent := fun hnone hq r hr => ?_, returns := ?_ }
  · rw [closeEvent_eq hwind hothers]
    refine .of_only ((h.only.trans hz.only).trans (markAt_ports n s _).only) fun m hm => ?_
    rw [markAt_station_ne s _ hm]
    exact hothers m hm
  · have hrest := c.sameButMotion h.toEdited
    rw [c.link, hlink, c.faultLatch, h.sameLatch,
      (c.body.lastTelemetry.trans (by cases s.turnedAt _ n <;> rfl)).trans h.sameTelemetry] at hrest
    exact hrest
  · exact afterReport_recorded hbadge hz.news he
  · have hstarts : ((afterReport n built (goodFrame n s)).station n).starts (eligible (s.station n)) = true :=
      Station.starts_iff.mpr ⟨by simp [eligible, hs], hable.mpr ⟨hinst, hdrive⟩⟩
    obtain ⟨h1, h2, -⟩ := c.clearing_started h hstarts
    exact ⟨h1, h2⟩
  · exact (c.of_reply hr).replied h
  · exact (c.of_reply hnone).reply_waited h hq hr
  · have hhorns := fun haway : s.away n => afterReport_horns (built := built) haway
    have hret := c.linkReturns h.toEdited hup
      (fun haway => by rw [hown]; exact goodFrame_returns haway)
      (fun haway => by rw [hhorns haway]; split <;> simp)
    intro haway
    obtain ⟨h1, h2, h3⟩ := hret haway
    refine ⟨h1, h2, h3.trans ?_⟩
    rw [hhorns haway]
    simp only [hable]

/-! ### A report dropped (R91) -/

/-- What a malformed lock report has brought about in an event from `s` to `t`. -/
structure ReportDropped (n : StationId) (s t : State) (detail : BitVec 32) : Prop where
  outside : s.sameOutside n t
  body : SameBody { s.station n with link := .up ⟨s.now, s.settings.timing.linkTimeout⟩ } (t.station n)
  stow : t.stowActive = s.stowActive
  recorded : s.recorded t (.station n) .badFrame detail
  silent : s.silent t .lockChange
  queue : (s.station n).link.isUp = true → (t.station n).queue = (s.station n).queue
  returns : s.linkReturns t n []
  zones : ∀ z, (t.zone n z).state = (s.zone n z).state

theorem onMask_congr {s t : State} {n : StationId} (h : ∀ z, (t.zone n z).state = (s.zone n z).state) : t.onMask n = s.onMask n := by
  unfold State.onMask State.zoneOn
  simp only [h]

theorem reportDropped_of (n : StationId) (detail : BitVec 32) (s : State) :
    ReportDropped n s (closeEvent s (recordFault (.station n) .badFrame detail (goodFrame n s))) detail := by
  have hg := goodFrame_body n s
  have honly := (goodFrame_only n s).trans (recordFault_ports (.station n) .badFrame detail (goodFrame n s)).only
  have hothers : ∀ m, m ≠ n → (recordFault (.station n) .badFrame detail (goodFrame n s)).station m = s.station m := fun m hm => by
    rw [recordFault_station]
    exact goodFrame_station_ne n m s hm
  have he := closeEvent_ends honly.wind hothers
  have hmask : (recordFault (.station n) .badFrame detail (goodFrame n s)).onMask n = s.onMask n :=
    onMask_congr fun z => by
      unfold State.zone
      rw [recordFault_station]
      exact hg.zone_state z
  have hmark : markAt n s (recordFault (.station n) .badFrame detail (goodFrame n s))
      = recordFault (.station n) .badFrame detail (goodFrame n s) := if_pos hmask.symm
  have hown : (closeEvent s (recordFault (.station n) .badFrame detail (goodFrame n s))).station n = (goodFrame n s).station n := by
    rw [he.station, hmark, recordFault_station]
  refine { outside := ?_, body := hown ▸ hg, stow := he.stowActive.trans honly.stowActive, recorded := ?_, silent := ?_
           queue := fun hup => ?_, returns := fun haway => ?_, zones := fun z => ?_ }
  · rw [closeEvent_eq honly.wind hothers]
    refine .of_only (honly.trans (markAt_ports n s _).only) fun m hm => ?_
    rw [markAt_station_ne s _ hm]
    exact hothers m hm
  · exact recorded_of_news (by simp) (goodFrame_news n s) (goodFrame_only n s).now (markAt_news n s _) he.faults he.attention
  · exact he.silent_lock ((goodFrame_news n s).toTells.trans (recordFault_tells _ _ _ _))
  · rw [hown]
    exact (goodFrame_port hup).2.1
  · rw [hown]
    obtain ⟨h1, h2⟩ := goodFrame_returns haway
    exact ⟨by rw [goodFrame_link]; rfl, h1, h2⟩
  · unfold State.zone
    rw [hown]
    exact hg.zone_state z

section
variable {n : StationId} {s t : State} {detail : BitVec 32}

/-- Of a link the authority reads only whether it is UP. -/
theorem authorityOf_link {stow : Bool} {st : Station} {l : Link} (h : l.isUp = st.link.isUp) :
    authorityOf stow { st with link := l } = authorityOf stow st := by
  unfold authorityOf
  rw [h]
  rfl

/-- A station whose link was UP keeps its authority through a frame that is dropped. -/
theorem ReportDropped.not_turned (h : ReportDropped n s t detail) :
    ¬((s.authority n).permitting = true ∧ (t.authority n).permitting = false) := by
  rintro ⟨hp, ht⟩
  have hfree := Station.free_of_mayMove (s.authority_permitting n ▸ hp)
  have hauth : t.authority n = s.authority n := by
    unfold State.authority
    rw [h.stow, h.body.authorityOf]
    exact authorityOf_link (Station.free_up hfree).symm
  rw [hauth] at ht
  exact absurd (hp.symm.trans ht) (by simp)

theorem ReportDropped.motion (h : ReportDropped n s t detail) : s.motionFollows t n := by
  have hb := h.body
  exact ⟨hb.progress, hb.stowStart, hb.stowTimeout, fun ht => absurd ht h.not_turned, fun ht => absurd ht h.not_turned,
    fun _ => hb.warnTimer, fun _ => ⟨hb.demand, hb.grant, hb.freshness, hb.stale, fun hw => by rw [h.queue hw.1.1]⟩⟩

theorem ReportDropped.clearing (h : ReportDropped n s t detail) : s.clearingFollows t n := by
  intro hlaw
  have hb := h.body
  have hdrive : driveCount (t.station n) = driveCount (s.station n) := by
    rw [hb.driveCount]
    rfl
  refine ⟨fun hnot hable => absurd ?_ hnot, fun hsome hd => ?_, fun _ _ => hb.clearing⟩
  · obtain ⟨h1, -, h3, h4⟩ := hable
    have hseen : (s.station n).lockReportSeen = true := hb.lockReportSeen.symm.trans h3
    refine ⟨hb.installed.symm.trans h1, ?_, hseen, hdrive.symm.trans h4⟩
    rw [← Bool.not_eq_false]
    intro hdown
    exact absurd (((hlaw n).1 hdown).symm.trans hseen) (by simp)
  · rw [hdrive] at hd
    exact absurd ((hlaw n).2 hsome).2.2 hd

theorem ReportDropped.block (h : ReportDropped n s t detail) (hlaw : s.clearingLaw) : s.blockFollows t n := by
  have hb := h.body
  have hblock : heatBlock (s.station n) = heatBlock (t.station n) := by
    unfold heatBlock
    rw [hb.heatCount, hb.lockReportSeen, hb.link]
    have hseen := (hlaw n).1
    cases hup : (s.station n).link.isUp with
    | true => rfl
    | false => rw [hseen hup]; rfl
  refine ⟨?_, fun z => ⟨fun h0 h1 => ?_, fun h0 h1 => ?_, fun _ => hb.zone z⟩⟩
  · rintro ⟨z, hz⟩
    exact absurd (by rw [h.zones z]) hz
  · rw [← hblock, h0] at h1
    exact absurd h1 (by simp)
  · rw [← hblock, h0] at h1
    exact absurd h1 (by simp)

end

/-! ### LOCK_REPORT -/

/-- Settles O32: a well-formed report is taken, a malformed one is dropped. -/
theorem lockReport : Obligations.LockReport := by
  intro n es s
  refine ⟨closeEvent s (handleReport n es s), rfl, ?_⟩
  cases hmal : malformedReport es with
  | true =>
    rw [show handleReport n es s = _ from if_pos hmal]
    have hbad := malformedReport_iff.mp hmal
    have h := reportDropped_of n (BitVec.ofNat 32 es.length) s
    generalize closeEvent s _ = t at *
    have hb := h.body
    have hrest : { s.station n with
        link := .up ⟨s.now, s.settings.timing.linkTimeout⟩, lockReportSeen := (t.station n).lockReportSeen
        holders := (t.station n).holders, clearing := (t.station n).clearing
        zones := (t.station n).zones }.sameButMotion (t.station n) := by
      refine SameBody.sameButPort ?_
      constructor
      case installed => exact hb.installed
      case link => exact hb.link
      case faultLatch => exact hb.faultLatch
      case lastTelemetry => exact hb.lastTelemetry
      case clipStatus => exact hb.clipStatus
      case clipLog => exact hb.clipLog
      all_goals first | rfl | exact fun _ => rfl
    refine ⟨h.outside, hrest, fun _ => ⟨hb.holders, hb.lockReportSeen, h.recorded, fun _ => h.silent⟩,
      fun hnot => absurd hbad hnot, fun hplain => crewOf_plain hplain.1 hplain.2, fun hnot => absurd hbad hnot,
      fun hnot => absurd hbad hnot, fun hnot => absurd hbad hnot, fun hnot => absurd hbad hnot, h.clearing, h.motion,
      fun hor => hor.elim (fun hnot => absurd hbad hnot) h.block, fun hnot => absurd hbad hnot, fun _ => ⟨fun hq _ r hr => ?_, ?_⟩⟩
    · rw [h.queue hq.1] at hr
      exact hr
    · rw [if_pos hbad]
      exact h.returns
  | false =>
    have hgood : ¬(6 < es.length ∨ ∃ e ∈ es, e.badge = 0xFFFF ∨ emptyScope e.scope = true) := by
      rw [← malformedReport_iff, hmal]
      simp
    have h := reportTaken_of n es s
    rw [show handleReport n es s = _ from if_neg (by rw [hmal]; simp)]
    generalize closeEvent s _ = t at *
    refine ⟨h.outside, h.rest, fun hbad => absurd hbad hgood, fun _ => ⟨h.seen, h.raises⟩,
      fun hplain => crewOf_plain hplain.1 hplain.2, fun _ hnone => ?_, fun _ hlen pre room post hhs hroom hpre => ?_,
      fun _ sixth hsixth pre room post hhs hroom hpre => ?_, fun _ => h.starts, h.clearing, h.motion, fun _ => h.block,
      fun _ room hmem hroom hnodup => ?_, fun hor => ?_⟩
    · rw [h.holders, rebuild_plain es hnone]
    · rw [h.holders, hhs, rebuild_room es hroom hpre hlen]
    · have hbuilt := rebuild_sixth (post := post) es hroom hpre hsixth
      rw [h.holders]
      rw [hhs] at h ⊢
      rw [hbuilt] at h ⊢
      exact ⟨rfl, h.sixth _ rfl⟩
    · rw [h.holders] at hmem hnodup
      have hstanding := standingScope_of_mem hmem hnodup
      rw [hroom] at hstanding
      have hreply : standingReply (rebuild (s.station n).holders es).1 = some ⟨0, .standing, room.scope⟩ := by
        rw [standingReply, if_pos (holds_iff.mpr ⟨room, hmem, hroom⟩), hstanding]
      obtain ⟨h1, h2⟩ := h.waits _ hreply
      have hret := h.returns
      rw [hreply] at hret
      exact ⟨h1, h2, hret⟩
    · have hnone : ∀ h ∈ (t.station n).holders, h.badge ≠ 0 := hor.resolve_left hgood
      rw [h.holders] at hnone
      have hreply : standingReply (rebuild (s.station n).holders es).1 = none :=
        if_neg (holds_iff.not.mpr fun ⟨x, hx, hb⟩ => hnone x hx hb)
      have hret := h.returns
      rw [hreply] at hret
      rw [if_neg hgood]
      exact ⟨fun hq _ => h.silent hreply hq, hret⟩

end Sys2Proof.Machine
end

section
/-! SUPPORT. LIVENESS_DEADLINE_EXPIRY (O40): on a link that is DOWN every offer is discarded, so that the event leaves a record that
can be written out (R6, R7). -/

namespace Sys2Proof.Machine

section
variable {n : StationId} {s y : State}

/-- A record whose authority turns, or does not, on a link that is DOWN. -/
def Station.stopped (turned : Bool) (stop : Setpoint) (st : Station) : Station :=
  { st.suspended turned with queue := (st.stilled turned stop).queue }

theorem settleMotion_down (turned : Bool) (h : (y.station n).link.isUp = false) :
    settleMotion n turned none y = y.updStation n (Station.stopped turned (y.stopSetpoint n)) := by
  cases turned with
  | false =>
    exact (State.updStation_self y n _ rfl).symm
  | true =>
    have hrev : (revokeMotion n y).station n = { clearDemand (y.station n) with
        queue := replaceSetpoints Setpoint.moving (y.stopSetpoint n) (y.station n).queue, grant := noGrant } := by
      rw [revokeMotion, State.updStation_station, if_pos rfl]
    change suspendWarning n (revokeMotion n y) = _
    unfold suspendWarning
    rw [hrev]
    split
    · next hw =>
      have hw : (y.station n).progress = .warning := hw
      rw [offer_down n _ _ (by rw [State.updStation_station, if_pos rfl, hrev]; exact h), revokeMotion,
        State.updStation_updStation]
      refine State.updStation_congr ?_
      simp only [Station.stopped, Station.suspended, Station.stilled, if_true, hw]
    · next hw =>
      have hw : ¬(y.station n).progress = .warning := hw
      rw [revokeMotion]
      refine State.updStation_congr ?_
      simp only [Station.stopped, Station.suspended, Station.stilled, if_true, if_neg hw]
      rfl

/-- The settling of a station whose link is DOWN. -/
theorem settleStation_down (h : (y.station n).link.isUp = false) (hclear : (y.station n).clearing = none) :
    settleStation n s none y = settleHeatBlock n (heatBlock (s.station n))
      (y.updStation n (Station.stopped (s.turnedAt y n) (y.stopSetpoint n))) := by
  have hown : (y.updStation n (Station.stopped (s.turnedAt y n) (y.stopSetpoint n))).station n
      = (y.station n).stopped (s.turnedAt y n) (y.stopSetpoint n) := by
    rw [State.updStation_station, if_pos rfl]
  have hup : ((y.station n).stopped (s.turnedAt y n) (y.stopSetpoint n)).link.isUp = false :=
    (congrArg Link.isUp (Station.suspended_link (s.turnedAt y n) (y.station n))).trans h
  have hcl : ((y.station n).stopped (s.turnedAt y n) (y.stopSetpoint n)).clearing = none := by
    cases s.turnedAt y n <;> exact hclear
  rw [settleStation_eq, settleMotion_down _ h, cancelClearing_of_none (by rw [hown]; exact hcl)]
  have hstart : startClearing n (eligible (s.station n)) (y.updStation n (Station.stopped (s.turnedAt y n) (y.stopSetpoint n)))
      = y.updStation n (Station.stopped (s.turnedAt y n) (y.stopSetpoint n)) := by
    unfold startClearing
    rw [hown]
    simp [eligible, hup]
  rw [hstart]
  have hresume : resumeStow n (s.authority n).blocked (y.updStation n (Station.stopped (s.turnedAt y n) (y.stopSetpoint n)))
      = y.updStation n (Station.stopped (s.turnedAt y n) (y.stopSetpoint n)) := by
    unfold resumeStow
    rw [State.authority_blocked (y.updStation n _) n, hown]
    simp [Station.free, hup]
  rw [hresume]

end

/-! ### The lost link (R6) -/

/-- The state of a lost link before its station is settled (R6, R87). -/
def afterLoss (n : StationId) (lastGood : Time) (s : State) : State :=
  let s1 := recordFault (.station n) .linkLost lastGood (dropLink n s)
  if (s.station n).clearing.isSome then raise .lockChange s1 else s1

theorem loseLink_eq (n : StationId) (lastGood : Time) (s : State) :
    loseLink n lastGood s = settleStation n s none (afterLoss n lastGood s) := rfl

theorem recordFault_faults_congr {s t : State} (src : FaultSource) (r : FaultReason) (d : BitVec 32) (hf : t.faults = s.faults)
    (hnow : t.now = s.now) : (recordFault src r d t).faults = (recordFault src r d s).faults := by
  unfold recordFault
  rw [hf, hnow]
  split
  · rfl
  · split
    · rfl
    · split <;> rfl

section
variable {n : StationId} {lastGood : Time} {s : State}

theorem afterLoss_only : OnlyStations s (afterLoss n lastGood s) := by
  have h := (dropLink_only n s).trans (recordFault_ports (.station n) .linkLost lastGood (dropLink n s)).only
  unfold afterLoss
  simp only
  split
  · exact h.trans (raise_ports _ _).only
  · exact h

theorem afterLoss_station (m : StationId) : (afterLoss n lastGood s).station m = (dropLink n s).station m := by
  unfold afterLoss
  simp only
  split
  · rw [raise_station, recordFault_station]
  · rw [recordFault_station]

theorem afterLoss_own : (afterLoss n lastGood s).station n = { s.station n with
    link := .down, lockReportSeen := false, clearing := none, queue := [], tx := none
    zones := Tab.ofFn fun z => { (s.station n).zones.get z with mismatch := none } } := by
  rw [afterLoss_station, dropLink, State.updStation_station, if_pos rfl]

theorem afterLoss_faults : (afterLoss n lastGood s).faults = (recordFault (.station n) .linkLost lastGood s).faults := by
  have h : (recordFault (.station n) .linkLost lastGood (dropLink n s)).faults
      = (recordFault (.station n) .linkLost lastGood s).faults := recordFault_faults_congr _ _ _ rfl rfl
  unfold afterLoss
  simp only
  split
  · exact h
  · exact h

theorem afterLoss_tells : Tells (s.station n).clearing.isSome s (afterLoss n lastGood s) := by
  have hdrop : Tells false s (dropLink n s) := .of_same rfl
  have h := hdrop.trans (recordFault_tells (.station n) .linkLost lastGood (dropLink n s))
  unfold afterLoss
  simp only
  split
  · next hsome => rw [hsome]; exact h.trans (Tells.raise .lockChange _)
  · next hnone => rw [Bool.eq_false_iff.mpr hnone]; exact h

theorem afterLoss_edited : Edited n s (afterLoss n lastGood s) := by
  have hzone : ∀ z, (((afterLoss n lastGood s).station n).zones.get z) = { (s.station n).zones.get z with mismatch := none } :=
    fun z => by rw [afterLoss_own]; exact Tab.get_ofFn _ z
  have hown := afterLoss_own (n := n) (lastGood := lastGood) (s := s)
  refine { only := afterLoss_only, others := fun m hm => ?_, body := ?_, clearing := fun _ => by rw [hown], port := fun _ h => ?_ }
  · rw [afterLoss_station, dropLink, State.updStation_station, if_neg hm]
  · constructor
    case zone_state => exact fun z => by rw [hzone]
    case zone_onStart => exact fun z => by rw [hzone]
    case zone_minOnReached => exact fun z => by rw [hzone]
    case zone_offStart => exact fun z => by rw [hzone]
    case zone_faultReason => exact fun z => by rw [hzone]
    all_goals rw [hown]
  · rw [hown] at h
    exact absurd h (by simp [Link.isUp])

/-- The state of a lost link after its station is settled: its zones are inhibited where no heat block held before (R101, R163). -/
def lostState (n : StationId) (lastGood : Time) (s : State) : State :=
  settleHeatBlock n (heatBlock (s.station n)) ((afterLoss n lastGood s).updStation n
    (Station.stopped (s.turnedAt (afterLoss n lastGood s) n) ((afterLoss n lastGood s).stopSetpoint n)))

theorem loseLink_lostState : loseLink n lastGood s = lostState n lastGood s := by
  rw [loseLink_eq, lostState]
  exact settleStation_down (by rw [afterLoss_own]; rfl) (by rw [afterLoss_own])

/-- Under a heat block nothing is evaluated: the settling of a block that holds is its beginning, or nothing. -/
theorem settleHeatBlock_held {before : Bool} {u : State} (h : heatBlock (u.station n) = true) :
    settleHeatBlock n before u = if before then u else beginHeatBlock n u := by
  unfold settleHeatBlock
  cases before <;> simp [h]

theorem lostState_eq : lostState n lastGood s = (afterLoss n lastGood s).updStation n fun st =>
    let a := st.stopped (s.turnedAt (afterLoss n lastGood s) n) ((afterLoss n lastGood s).stopSetpoint n)
    { a with zones := if heatBlock (s.station n) then a.zones else Tab.ofFn fun z => (a.zones.get z).inhibit s.now } := by
  have hblock : heatBlock (((afterLoss n lastGood s).updStation n (Station.stopped (s.turnedAt (afterLoss n lastGood s) n)
      ((afterLoss n lastGood s).stopSetpoint n))).station n) = true := by
    rw [State.updStation_station, if_pos rfl]
    unfold heatBlock
    rw [show ((afterLoss n lastGood s).station n |>.stopped _ _).link.isUp = false from
      (congrArg Link.isUp (Station.suspended_link _ _)).trans (by rw [afterLoss_own]; rfl)]
    rfl
  rw [lostState, settleHeatBlock_held hblock]
  cases heatBlock (s.station n) with
  | true => rfl
  | false =>
    unfold beginHeatBlock
    rw [if_neg (by simp), State.updStation_updStation]
    simp only [State.updStation_now, afterLoss_only.now]
    rfl

theorem lostState_own : (lostState n lastGood s).station n =
    let a := ((afterLoss n lastGood s).station n).stopped (s.turnedAt (afterLoss n lastGood s) n)
      ((afterLoss n lastGood s).stopSetpoint n)
    { a with zones := if heatBlock (s.station n) then a.zones else Tab.ofFn fun z => (a.zones.get z).inhibit s.now } := by
  rw [lostState_eq, State.updStation_station, if_pos rfl]

end

end Sys2Proof.Machine
end

section
/-! SUPPORT. The record of a lost link, and the settlement of O40. -/

namespace Sys2Proof.Machine

section
variable {n : StationId} {lastGood : Time} {s t : State}

theorem afterLoss_settles : Settles n s (afterLoss n lastGood s) (lostState n lastGood s) none := by
  rw [← loseLink_lostState, loseLink_eq]
  refine settleStation_settles none (fun h => ?_) fun _ h => ?_
  · rw [afterLoss_own] at h
    exact h
  · rw [afterLoss_own] at h
    exact absurd h (by simp [eligible, Link.isUp])

theorem lostState_down : ((lostState n lastGood s).station n).link.isUp = false := by
  rw [lostState_own]
  exact (congrArg Link.isUp (Station.suspended_link _ _)).trans (by rw [afterLoss_own]; rfl)

theorem markAt_down {s0 x : State} (h : (x.station n).link.isUp = false) : markAt n s0 x = x := by
  unfold markAt
  split
  · rfl
  · exact offer_down n .heat x h

theorem lostState_others (m : StationId) (h : m ≠ n) : (lostState n lastGood s).station m = s.station m :=
  ((afterLoss_settles (lastGood := lastGood)).others m h).trans ((afterLoss_edited (lastGood := lastGood)).others m h)

theorem lostState_only : OnlyStations s (lostState n lastGood s) :=
  afterLoss_only.trans (afterLoss_settles (lastGood := lastGood)).only

theorem lostState_ends : Ends n s (lostState n lastGood s) (closeEvent s (lostState n lastGood s)) :=
  closeEvent_ends lostState_only.wind lostState_others

theorem lostState_faults : (lostState n lastGood s).faults = (recordFault (.station n) .linkLost lastGood s).faults := by
  rw [lostState_eq]
  exact afterLoss_faults

/-- The record of a station whose link an event has lost. -/
theorem lost_own (ht : t = closeEvent s (lostState n lastGood s)) : t.station n = (lostState n lastGood s).station n := by
  rw [ht, lostState_ends.station, markAt_down lostState_down]

/-- The fields of a record that a stop leaves as they are. -/
theorem Station.stopped_fields (turned : Bool) (stop : Setpoint) (st : Station) :
    (st.stopped turned stop).link = st.link ∧ (st.stopped turned stop).tx = st.tx
      ∧ (st.stopped turned stop).lockReportSeen = st.lockReportSeen ∧ (st.stopped turned stop).clearing = st.clearing
      ∧ (st.stopped turned stop).holders = st.holders ∧ (st.stopped turned stop).lastTelemetry = st.lastTelemetry
      ∧ (st.stopped turned stop).lastSent = st.lastSent ∧ (st.stopped turned stop).faultLatch = st.faultLatch
      ∧ (st.stopped turned stop).progress = st.progress ∧ (st.stopped turned stop).commandedMask = st.commandedMask
      ∧ (st.stopped turned stop).installed = st.installed ∧ (st.stopped turned stop).stowStart = st.stowStart
      ∧ (st.stopped turned stop).stowTimeout = st.stowTimeout ∧ (st.stopped turned stop).clipStatus = st.clipStatus
      ∧ (st.stopped turned stop).clipLog = st.clipLog ∧ (st.stopped turned stop).zones = st.zones := by
  cases turned <;> exact ⟨rfl, rfl, rfl, rfl, rfl, rfl, rfl, rfl, rfl, rfl, rfl, rfl, rfl, rfl, rfl, rfl⟩

theorem Station.stopped_queue_nil (turned : Bool) (stop : Setpoint) {st : Station} (h : st.queue = []) :
    (st.stopped turned stop).queue = [] := by
  change (if turned then replaceSetpoints Setpoint.moving stop st.queue else st.queue) = []
  rw [h]
  cases turned <;> rfl

/-- A zone of a station whose link is lost (R101, R163, R165). -/
theorem lostState_zone (z : ZoneNum) : ((lostState n lastGood s).station n).zones.get z =
    if heatBlock (s.station n) then { (s.station n).zones.get z with mismatch := none }
    else ({ (s.station n).zones.get z with mismatch := none } : Zone).inhibit s.now := by
  have hzones : ∀ turned stop, ((((afterLoss n lastGood s).station n).stopped turned stop).zones.get z)
      = { (s.station n).zones.get z with mismatch := none } := fun turned stop => by
    rw [(Station.stopped_fields turned stop _).2.2.2.2.2.2.2.2.2.2.2.2.2.2.2, afterLoss_own]
    exact Tab.get_ofFn _ z
  rw [lostState_own]
  cases heatBlock (s.station n) with
  | true => exact hzones _ _
  | false =>
    change (Tab.ofFn _).get z = _
    rw [Tab.get_ofFn, hzones]
    rfl

end

/-- Settles O40. -/
theorem linkLost : Obligations.LinkLost := by
  intro n deadline s hlink hdue
  refine ⟨closeEvent s (lostState n deadline.start s), ?_, ?_⟩
  · change execLivenessDeadlineExpiry n s = _
    unfold execLivenessDeadlineExpiry
    rw [hlink]
    simp only [hdue, if_true, loseLink_lostState]
  have he := lostState_ends (n := n) (lastGood := deadline.start) (s := s)
  have hz := afterLoss_settles (n := n) (lastGood := deadline.start) (s := s)
  have hown := lost_own (n := n) (lastGood := deadline.start) (s := s) rfl
  have hoff : s.sameOutside n (closeEvent s (lostState n deadline.start s)) := by
    rw [closeEvent_eq lostState_only.wind lostState_others, markAt_down lostState_down]
    exact .of_only lostState_only lostState_others
  have hfaults : (closeEvent s (lostState n deadline.start s)).faults
      = (recordFault (.station n) .linkLost deadline.start s).faults := by
    rw [he.faults, markAt_down lostState_down, lostState_faults]
  have hmotion := (hz.closed he).motionFollows afterLoss_edited
    (fun _ hup => by rw [hown, lostState_down] at hup; exact absurd hup (by simp))
    (fun _ hup => by rw [hown, lostState_down] at hup; exact absurd hup (by simp))
  have htells : Tells (s.station n).clearing.isSome s (lostState n deadline.start s) := by
    have h := (afterLoss_tells (n := n) (lastGood := deadline.start) (s := s)).trans hz.news.toTells
    have hstill : (((afterLoss n deadline.start s).station n).cancels
        || ((afterLoss n deadline.start s).station n).starts (eligible (s.station n))) = false := by
      rw [afterLoss_own]
      simp [Station.cancels, Station.starts, eligible, Link.isUp]
    rwa [hstill, Bool.or_false] at h
  have hactive : (closeEvent s (lostState n deadline.start s)).stowActive = s.stowActive :=
    he.stowActive.trans lostState_only.stowActive
  generalize closeEvent s (lostState n deadline.start s) = t at *
  obtain ⟨f1, f2, f3, f4, f5, f6, f7, f8, f9, f10, f11, f12, f13, f14, f15, -⟩ := Station.stopped_fields
    (s.turnedAt (afterLoss n deadline.start s) n) ((afterLoss n deadline.start s).stopSetpoint n)
    ((afterLoss n deadline.start s).station n)
  have hq := Station.stopped_queue_nil (s.turnedAt (afterLoss n deadline.start s) n)
    ((afterLoss n deadline.start s).stopSetpoint n) (st := (afterLoss n deadline.start s).station n) (by rw [afterLoss_own])
  rw [afterLoss_own] at f1 f2 f3 f4 f5 f6 f7 f8 f9 f10 f11 f12 f13 f14 f15 hq
  have hzone := lostState_zone (n := n) (lastGood := deadline.start) (s := s)
  have hrecord := lostState_own (n := n) (lastGood := deadline.start) (s := s)
  rw [afterLoss_own] at hrecord
  rw [← hown] at hzone hrecord
  have hinst : (t.station n).installed = (s.station n).installed := by rw [hrecord]; exact f11
  have hdown : (t.station n).link = .down := by rw [hrecord]; exact f1
  have hpermit : (t.authority n).permitting = false := by
    rw [State.authority_permitting, Station.mayMove, Station.free]
    simp [hdown, Link.isUp]
  refine ⟨hoff, hfaults, hdown, ?_, ?_, ?_, ?_, ?_, ?_, ?_, ?_, ?_, ?_, hinst, ?_, ?_, ?_, ?_, fun hi => ?_, fun hp => ?_, hmotion,
    fun hsome => ?_, fun hnone => ?_, fun z => ?_⟩
  case refine_15 =>
    unfold State.authority authorityOf
    simp [hinst, hi, hdown, Link.isUp]
  case refine_16 =>
    obtain ⟨-, -, -, hturned, -⟩ := hmotion
    obtain ⟨h1, h2, h3, -⟩ := hturned ⟨hp, hpermit⟩
    exact ⟨h1, h2, h3⟩
  case refine_17 => exact he.raises_lock (hsome ▸ htells)
  case refine_18 =>
    rw [hnone] at htells
    exact he.silent_lock htells
  case refine_19 =>
    have hzn := hzone z
    refine ⟨fun h => ?_, fun hb hx => ?_, fun hsafe h1 h2 => ?_⟩
    · cases hb : heatBlock (s.station n) with
      | true => rw [hzn, hb]; rfl
      | false =>
        have hx : ((s.station n).zones.get z).state.exempt := h.resolve_left (by rw [hb]; simp)
        rw [hzn, hb, if_neg (by simp), Zone.inhibit_exempt]
        exact hx
    · have hx : ¬((s.station n).zones.get z).state.exempt := hx
      rw [hzn, hb, if_neg (by simp), Zone.inhibit_of_not_exempt _ (by exact hx)]
    · rw [hzn]
      cases hb : heatBlock (s.station n) with
      | true =>
        have hcold := hsafe n z hb
        unfold State.zone at hcold
        change ((s.station n).zones.get z).state = .inhibited
        cases hstate : ((s.station n).zones.get z).state <;> simp_all [ZoneState.coldUnderBlock]
      | false =>
        rw [if_neg (by simp)]
        by_cases hx : ((s.station n).zones.get z).state.exempt
        · rw [Zone.inhibit_exempt _ (by exact hx)]
          exact (hx.resolve_left h1).resolve_left h2
        · rw [Zone.inhibit_of_not_exempt _ (by exact hx)]
  all_goals
    rw [hrecord]
    assumption

end Sys2Proof.Machine
end

section
/-! SUPPORT. A telemetry frame: the latch it sets, the stow test, the contactor watch and its place upstream (R15, R45, R80, R81,
R144, R165). -/

namespace Sys2Proof.Machine

/-! ### The upstream port stands apart -/

/-- A state with another upstream port. -/
def State.withUpstream (s : State) (q : List UpEntry) (tx : Option UpEntry) : State := { s with upQueue := q, upTx := tx }

theorem offerUp_withUpstream (e : UpEntry) (s : State) :
    offerUp e s = s.withUpstream (offerUp e s).upQueue (offerUp e s).upTx := offerUp_eq e s

theorem recordFault_withUpstream (src : FaultSource) (r : FaultReason) (d : BitVec 32) (s : State) (q : List UpEntry)
    (tx : Option UpEntry) : recordFault src r d (s.withUpstream q tx) = (recordFault src r d s).withUpstream q tx := by
  unfold recordFault State.withUpstream
  simp only
  repeat' split
  all_goals rfl

theorem offer_heat_withUpstream (n : StationId) (s : State) (q : List UpEntry) (tx : Option UpEntry) :
    offer n .heat (s.withUpstream q tx) = (offer n .heat s).withUpstream q tx := by
  have hadmit : admitEntry n .heat (s.withUpstream q tx) = (admitEntry n .heat s).withUpstream q tx := by
    rw [admitEntry_eq, admitEntry_eq]
    change reportLost n (lostReply (s.station n).queue .heat)
      ((setQueue n (admitted (s.station n).queue .heat) s).withUpstream q tx) = _
    cases lostReply (s.station n).queue .heat with
    | none => rfl
    | some badge => exact recordFault_withUpstream _ _ _ _ q tx
  change (if (s.station n).link.isUp = true then depart n (admitEntry n .heat (s.withUpstream q tx)) else s.withUpstream q tx)
    = (if (s.station n).link.isUp = true then depart n (admitEntry n .heat s) else s).withUpstream q tx
  rw [hadmit, depart_eq, depart_eq]
  split <;> rfl

theorem markAt_withUpstream (n : StationId) (s0 s : State) (q : List UpEntry) (tx : Option UpEntry) :
    markAt n s0 (s.withUpstream q tx) = (markAt n s0 s).withUpstream q tx := by
  change (if s0.onMask n = s.onMask n then s.withUpstream q tx else offer n .heat (s.withUpstream q tx)) = _
  rw [offer_heat_withUpstream]
  unfold markAt
  split <;> rfl

theorem markAt_offerUp (n : StationId) (e : UpEntry) (s0 s : State) :
    markAt n s0 (offerUp e s) = offerUp e (markAt n s0 s) := by
  have hq := (markAt_ports n s0 s).only.upQueue
  have htx := (markAt_ports n s0 s).only.upTx
  have hsame : (offerUp e (markAt n s0 s)).upQueue = (offerUp e s).upQueue
      ∧ (offerUp e (markAt n s0 s)).upTx = (offerUp e s).upTx := by
    cases h : s.upTx with
    | some x =>
      obtain ⟨h1, h2⟩ := offerUp_sending (e := e) (s := s) (by rw [h]; rfl)
      obtain ⟨k1, k2⟩ := offerUp_sending (e := e) (s := markAt n s0 s) (by rw [htx, h]; rfl)
      exact ⟨by rw [k2, h2, hq], by rw [k1, h1, htx]⟩
    | none =>
      obtain ⟨h1, h2⟩ := offerUp_idle (e := e) h
      obtain ⟨k1, k2⟩ := offerUp_idle (e := e) (htx.trans h)
      exact ⟨by rw [k2, h2, hq], by rw [k1, h1, hq]⟩
  rw [offerUp_withUpstream e s, markAt_withUpstream, offerUp_withUpstream e (markAt n s0 s), hsame.1, hsame.2]

/-- The end of an event that changes one station and offers one entry upstream. -/
theorem closeEvent_offerUp {n : StationId} {s x : State} (e : UpEntry) (hwind : x.wind = s.wind)
    (h : ∀ m, m ≠ n → x.station m = s.station m) : closeEvent s (offerUp e x) = examine (offerUp e (markAt n s x)) := by
  rw [closeEvent_eq (by rw [offerUp_eq]; exact hwind) fun m hm => (offerUp_station e x m).trans (h m hm), markAt_offerUp]

theorem closeEvent_offerUp_ends {n : StationId} {s x : State} (e : UpEntry) (hwind : x.wind = s.wind)
    (h : ∀ m, m ≠ n → x.station m = s.station m) : Ends n s x (closeEvent s (offerUp e x)) := by
  rw [closeEvent_offerUp e hwind h]
  refine ⟨?_, ?_, examine_attention_congr (offerUp_attention _ _), ?_⟩
  · rw [examine_stations, offerUp_eq]
  · rw [examine_eq, offerUp_eq]
  · rw [examine_eq, offerUp_eq]
    exact (markAt_ports n s x).only.wind

theorem Ends.sendsUp {n : StationId} {s x : State} {e : UpEntry} (hwind : x.wind = s.wind)
    (h : ∀ m, m ≠ n → x.station m = s.station m) (hq : x.upQueue = s.upQueue) (htx : x.upTx = s.upTx)
    (hl : x.attention.latched = s.attention.latched) :
    s.sendsUp (closeEvent s (offerUp e x)) (admitUp s.upQueue e) := by
  have hports := markAt_ports n s x
  rw [closeEvent_offerUp e hwind h]
  exact sendsUp_examine_offerUp (hports.only.upQueue.trans hq) (hports.only.upTx.trans htx)
    ((markAt_news n s x).latched.trans hl)

/-! ### The latch (R80, R81) -/

/-- The latch a telemetry sets, with its report. -/
def State.latches (s : State) (n : StationId) (t : Telemetry) : Option (FaultLatch × FaultReason × BitVec 32) :=
  if (s.station n).installed && (s.station n).faultLatch == .none then
    if beyond (s.envelope n).azMin (s.envelope n).azMax (s.envelope n).overrunMargin t.az then
      some (.overrun, .overrun, overrunDetail 0 t.az)
    else if beyond (s.envelope n).elMin (s.envelope n).elMax (s.envelope n).overrunMargin t.el then
      some (.overrun, .overrun, overrunDetail 1 t.el)
    else if t.driveFault then some (.driveFault, .driveFault, 0)
    else none
  else none

theorem checkTelemetry_eq (n : StationId) (t : Telemetry) (s : State) :
    checkTelemetry n t s = match s.latches n t with
      | none => s
      | some (l, r, d) => latch n l r d s := by
  unfold checkTelemetry State.latches
  simp only
  repeat' split
  all_goals simp_all

/-- The latch after a telemetry. -/
def State.latchAfter (s : State) (n : StationId) (t : Telemetry) : FaultLatch :=
  match s.latches n t with
  | none => (s.station n).faultLatch
  | some (l, _, _) => l

theorem checkTelemetry_station (n m : StationId) (t : Telemetry) (s : State) :
    (checkTelemetry n t s).station m
      = if m = n then { s.station n with faultLatch := s.latchAfter n t } else s.station m := by
  rw [checkTelemetry_eq, State.latchAfter]
  split
  · next h =>
    split
    · next hm => rw [hm]
    · rfl
  · next l r d h =>
    rw [latch, recordFault_station, State.updStation_station]

theorem checkTelemetry_tells (n : StationId) (t : Telemetry) (s : State) : Tells false s (checkTelemetry n t s) := by
  rw [checkTelemetry_eq]
  split
  · exact .refl s
  · next l r d h =>
    have hupd : Tells false s (s.updStation n fun st => { st with faultLatch := l }) := .of_same rfl
    exact hupd.trans (recordFault_tells _ _ _ _)

/-- The state in which a telemetry has been taken, before its station is settled. -/
def afterTelemetry (n : StationId) (t : Telemetry) (s : State) : State :=
  checkTelemetry n t (storeTelemetry n t (goodFrame n s))

theorem latches_taken (n : StationId) (t : Telemetry) (s : State) :
    (storeTelemetry n t (goodFrame n s)).latches n t = s.latches n t := by
  have hg := goodFrame_body n s
  have henv : (storeTelemetry n t (goodFrame n s)).envelope n = s.envelope n := (goodFrame_only n s).envelope n
  have hst : (storeTelemetry n t (goodFrame n s)).station n = { (goodFrame n s).station n with lastTelemetry := some t } := by
    rw [storeTelemetry, State.updStation_station, if_pos rfl]
  unfold State.latches
  rw [henv, hst]
  simp only
  rw [hg.installed, hg.faultLatch]

section
variable {n : StationId} {s : State} {t : Telemetry}

theorem afterTelemetry_own : (afterTelemetry n t s).station n
    = { (goodFrame n s).station n with lastTelemetry := some t, faultLatch := s.latchAfter n t } := by
  have hst : (storeTelemetry n t (goodFrame n s)).station n = { (goodFrame n s).station n with lastTelemetry := some t } := by
    rw [storeTelemetry, State.updStation_station, if_pos rfl]
  have hlatch : (storeTelemetry n t (goodFrame n s)).latchAfter n t = s.latchAfter n t := by
    unfold State.latchAfter
    rw [latches_taken, hst]
    simp only
    rw [(goodFrame_body n s).faultLatch]
  rw [afterTelemetry, checkTelemetry_station, if_pos rfl, hst, hlatch]

theorem afterTelemetry_other {m : StationId} (hm : m ≠ n) : (afterTelemetry n t s).station m = s.station m := by
  rw [afterTelemetry, checkTelemetry_station, if_neg hm, storeTelemetry, State.updStation_station, if_neg hm,
    goodFrame_station_ne n m s hm]

theorem afterTelemetry_only : OnlyStations s (afterTelemetry n t s) :=
  ((goodFrame_only n s).trans ((goodFrame n s).updStation_only n _)).trans (checkTelemetry_only n t _)

theorem afterTelemetry_tells : Tells false s (afterTelemetry n t s) := by
  have hstore : Tells false (goodFrame n s) (storeTelemetry n t (goodFrame n s)) := .of_same rfl
  exact ((goodFrame_news n s).toTells.trans hstore).trans (checkTelemetry_tells n t _)

theorem afterTelemetry_edit : Edited n s (afterTelemetry n t s) := by
  have hg := goodFrame_body n s
  have hown := afterTelemetry_own (n := n) (s := s) (t := t)
  refine ⟨afterTelemetry_only, fun m => afterTelemetry_other, ?_, fun h => ?_, fun hup _ => ?_⟩
  · rw [hown]
    obtain ⟨h1, -, h3, h4, -, -, h7, h8, h9, h10, h11, h12, h13, h14, -, h16, h17, h18, h19, h20, h21, h22⟩ := hg
    exact ⟨h1, rfl, rfl, rfl, rfl, rfl, h7, h8, h9, h10, h11, h12, h13, h14, rfl, h16, h17, h18, h19, h20, h21, h22⟩
  · rw [hown]
    exact hg.clearing.trans h
  · rw [hown]
    exact goodFrame_port hup

theorem latches_faultLatch (h : (s.station n).faultLatch ≠ .none) : s.latches n t = none := by
  simp [State.latches, h]

theorem latchAfter_ne_none : s.latchAfter n t = .none → (s.station n).faultLatch = .none := by
  intro h
  by_contra hne
  rw [State.latchAfter, latches_faultLatch hne] at h
  exact hne h

theorem afterTelemetry_settles : Settles n s (afterTelemetry n t s) (settleStation n s none (afterTelemetry n t s)) none := by
  refine settleStation_settles none (fun h => ?_) fun h _ => ?_
  · rw [afterTelemetry_own] at h
    exact latchAfter_ne_none h
  · rw [afterTelemetry_own] at h
    exact (goodFrame_body n s).clearing.symm.trans h

end

/-! ### The stow test and the contactor watch (R144, R145, R165) -/

theorem stowTest_of_other {n : StationId} {t : Telemetry} {s : State} (h1 : s.authority n ≠ .stowMoving)
    (h2 : s.authority n ≠ .stowStowed) : stowTest n t s = s := by
  unfold stowTest
  split
  · next h => exact absurd h h1
  · next h => exact absurd h h2
  · rfl

/-- A record with the stow fields of another. -/
def Station.withStowOf (a b : Station) : Station :=
  { a with progress := b.progress, warnTimer := b.warnTimer, stowStart := b.stowStart, stowTimeout := b.stowTimeout }

theorem SameBody.withStowOf {a b : Station} (h : SameBody a b) : SameBody (a.withStowOf b) b := by
  obtain ⟨h1, h2, h3, h4, h5, h6, -, -, -, -, h11, h12, h13, h14, h15, h16, h17, h18, h19, h20, h21, h22⟩ := h
  exact ⟨h1, h2, h3, h4, h5, h6, rfl, rfl, rfl, rfl, h11, h12, h13, h14, h15, h16, h17, h18, h19, h20, h21, h22⟩

/-- What a change of a station's stow fields and the offer of a PIN leave. -/
structure StowTested (n : StationId) (s t : State) : Prop where
  only : OnlyStations s t
  others : ∀ m, m ≠ n → t.station m = s.station m
  body : SameBody ((s.station n).withStowOf (t.station n)) (t.station n)
  offers : ∃ pins, (pins = [] ∨ pins = [.pin true]) ∧ Offers s.nodeAddress pins (s.station n) (t.station n)
  news : News false s t

theorem StowTested.refl (n : StationId) (s : State) : StowTested n s s :=
  ⟨.refl s, fun _ _ => rfl, .refl _, ⟨[], .inl rfl, .refl⟩, .refl s⟩

theorem StowTested.updStation (n : StationId) (s : State) (f : Station → Station)
    (hf : f (s.station n) = (s.station n).withStowOf (f (s.station n))) : StowTested n s (s.updStation n f) := by
  have hown : (s.updStation n f).station n = f (s.station n) := by rw [State.updStation_station, if_pos rfl]
  refine ⟨s.updStation_only n f, fun m hm => by rw [State.updStation_station, if_neg hm], ?_, ⟨[], .inl rfl, ?_⟩,
    .updStation s n f⟩
  · rw [hown, ← hf]
    exact .refl _
  · rw [hown, hf]
    exact .of_same rfl rfl rfl

theorem stowTest_tested (n : StationId) (t : Telemetry) (s : State) : StowTested n s (stowTest n t s) := by
  have hpin : StowTested n s (offer n (.pin true) s) :=
    ⟨(offer_ports n _ s).only, fun m hm => offer_station_ne n m _ s hm, ((offer_ports n _ s).same n).withStowOf,
      ⟨_, .inr rfl, offers_offer s rfl⟩, offer_news n _ s⟩
  unfold stowTest
  simp only
  split
  · split
    · split
      · exact .updStation n s _ rfl
      · exact hpin
    · exact .refl n s
  · split
    · exact .refl n s
    · exact .updStation n s _ rfl
  · exact .refl n s

theorem Zone.watch_alike (z : Zone) (differ : Bool) (t : Timer) : z.alike (z.watch differ t) := by
  unfold Zone.watch
  split <;> rfl

theorem contactorWatch_own (n : StationId) (mask : BitVec 4) (s : State) :
    (contactorWatch n mask s).station n = { s.station n with
      zones := Tab.ofFn fun z => ((s.station n).zones.get z).watch
        (mask.getLsbD z.val != (s.station n).commandedMask.getLsbD z.val) (s.timer s.settings.timing.contactorMismatch) } := by
  rw [contactorWatch, State.updStation_station, if_pos rfl]

theorem contactorWatch_body (n : StationId) (mask : BitVec 4) (s : State) :
    SameBody (s.station n) ((contactorWatch n mask s).station n) := by
  have hz : ∀ z, ((s.station n).zones.get z).alike (((contactorWatch n mask s).station n).zones.get z) := fun z => by
    rw [contactorWatch_own, Tab.get_ofFn]
    exact Zone.watch_alike _ _ _
  have hzone := fun z => Zone.alike_iff.mp (hz z)
  rw [contactorWatch_own] at hzone ⊢
  exact ⟨rfl, rfl, rfl, rfl, rfl, rfl, rfl, rfl, rfl, rfl, rfl, rfl, rfl, rfl, rfl, rfl, rfl, fun z => (hzone z).1,
    fun z => (hzone z).2.1, fun z => (hzone z).2.2.1, fun z => (hzone z).2.2.2.1, fun z => (hzone z).2.2.2.2⟩

theorem contactorWatch_other {n m : StationId} (mask : BitVec 4) (s : State) (hm : m ≠ n) :
    (contactorWatch n mask s).station m = s.station m := by
  rw [contactorWatch, State.updStation_station, if_neg hm]

theorem StowTested.watched {n : StationId} {s u : State} (h : StowTested n s u) (mask : BitVec 4) :
    StowTested n s (contactorWatch n mask u) := by
  have hbody := contactorWatch_body n mask u
  have hwatch : News false u (contactorWatch n mask u) := .of_same rfl rfl
  refine ⟨h.only.trans (contactorWatch_only n mask u), fun m hm => (contactorWatch_other mask u hm).trans (h.others m hm), ?_, ?_,
    h.news.trans hwatch⟩
  · exact (h.body.trans hbody).withStowOf
  · obtain ⟨pins, hpins, hoffers⟩ := h.offers
    have hsame : Offers s.nodeAddress [] (u.station n) ((contactorWatch n mask u).station n) := by
      rw [contactorWatch_own]
      exact .of_same rfl rfl rfl
    exact ⟨pins, hpins, (hoffers.trans hsame).congr (List.append_nil _)⟩

end Sys2Proof.Machine
end

section
/-! SUPPORT. TELEMETRY (O27): the whole event, and what leaves the zones of a station as they are (R4, R5, R15, R40, R45, R165). -/

namespace Sys2Proof.Machine

/-! ### Zones that no departing HEAT frame touches (R165) -/

/-- A port that is sending, or on which nothing waits. -/
def Station.ready (st : Station) : Prop := st.tx.isSome = true ∨ st.queue = []

/-- From a ready port no HEAT frame has departed at station `n`. -/
def Unheated (n : StationId) (u v : State) : Prop :=
  (u.station n).ready → (v.station n).ready ∧ (v.station n).zones = (u.station n).zones
    ∧ (v.station n).commandedMask = (u.station n).commandedMask

section
variable {n : StationId} {u v w : State}

theorem Unheated.of_same (h : v.station n = u.station n) : Unheated n u v := fun hr => by
  rw [h]
  exact ⟨hr, rfl, rfl⟩

theorem Unheated.trans (h : Unheated n u v) (k : Unheated n v w) : Unheated n u w := fun hr => by
  obtain ⟨h1, h2, h3⟩ := h hr
  obtain ⟨k1, k2, k3⟩ := k h1
  exact ⟨k1, k2.trans h2, k3.trans h3⟩

theorem Unheated.updStation (n : StationId) (u : State) (f : Station → Station)
    (hf : (f (u.station n)).tx = (u.station n).tx ∧ ((u.station n).queue = [] → (f (u.station n)).queue = [])
      ∧ (f (u.station n)).zones = (u.station n).zones
      ∧ (f (u.station n)).commandedMask = (u.station n).commandedMask) : Unheated n u (u.updStation n f) := fun hr => by
  obtain ⟨htx, hq, hz, hm⟩ := hf
  rw [State.updStation_station, if_pos rfl]
  exact ⟨hr.imp (fun h => by rw [htx]; exact h) hq, hz, hm⟩

theorem Station.sends_zones {node : Byte} {e : StationEntry} (st : Station) (he : e.kind ≠ .heat) :
    (st.sends node e).zones = st.zones ∧ (st.sends node e).commandedMask = st.commandedMask := by
  cases e with
  | heat => exact absurd rfl he
  | setpoint _ | horn _ | pin _ | linkUp | lockReply _ | cabinetData _ => exact ⟨rfl, rfl⟩

theorem Unheated.offer (n : StationId) {e : StationEntry} (u : State) (hc : checked n e u = e) (he : e.kind ≠ .heat) :
    Unheated n u (offer n e u) := fun hr => by
  rw [offer_station_self, hc]
  cases hup : (u.station n).link.isUp with
  | false =>
    rw [Station.takes_down hup]
    exact ⟨hr, rfl, rfl⟩
  | true =>
    cases htx : (u.station n).tx with
    | some frame =>
      have hsend : (u.station n).tx.isSome = true := by rw [htx]; rfl
      rw [Station.takes_sending hup hsend]
      exact ⟨.inl hsend, rfl, rfl⟩
    | none =>
      have hnil : (u.station n).queue = [] := hr.resolve_left (by rw [htx]; simp)
      rw [Station.takes_idle hup htx hnil]
      exact ⟨.inl (Station.sends_tx_isSome _ _ _), Station.sends_zones _ he⟩

theorem settleMotion_unheated (n : StationId) (turned : Bool) (u : State) : Unheated n u (settleMotion n turned none u) := by
  cases turned with
  | false => exact .of_same rfl
  | true =>
    have hrevoke : Unheated n u (revokeMotion n u) :=
      .updStation n u _ ⟨rfl, fun h => by simp [h, replaceSetpoints], rfl, rfl⟩
    refine hrevoke.trans ?_
    change Unheated n _ (suspendWarning n (revokeMotion n u))
    unfold suspendWarning
    split
    · exact (Unheated.updStation n _ _ ⟨rfl, id, rfl, rfl⟩).trans (.offer n _ rfl (by simp))
    · exact .of_same rfl

theorem cancelClearing_unheated (n : StationId) (u : State) : Unheated n u (cancelClearing n u) := by
  unfold cancelClearing
  split
  · exact ((Unheated.updStation n u _ ⟨rfl, id, rfl, rfl⟩).trans (.offer n _ rfl (by simp))).trans
      (.of_same (raise_station _ _ _))
  · exact .of_same rfl

theorem startClearing_unheated (n : StationId) (able : Bool) (u : State) : Unheated n u (startClearing n able u) := by
  unfold startClearing
  split
  · exact ((Unheated.updStation n u _ ⟨rfl, id, rfl, rfl⟩).trans (.offer n _ rfl (by simp))).trans
      (.of_same (raise_station _ _ _))
  · exact .of_same rfl

theorem stowTest_unheated (n : StationId) (t : Telemetry) (u : State) : Unheated n u (stowTest n t u) := by
  unfold stowTest
  simp only
  split
  · split
    · split
      · exact .updStation n u _ ⟨rfl, id, rfl, rfl⟩
      · exact .offer n u rfl (by simp)
    · exact .of_same rfl
  · split
    · exact .of_same rfl
    · exact .updStation n u _ ⟨rfl, id, rfl, rfl⟩
  · exact .of_same rfl

/-- A heat block that stands leaves every zone. -/
theorem settleHeatBlock_self (n : StationId) (u : State) : settleHeatBlock n (heatBlock (u.station n)) u = u := by
  unfold settleHeatBlock
  cases heatBlock (u.station n) <;> rfl

end

/-! ### The event -/

/-- What a telemetry has made of its station before the end of its event. -/
def testedTelemetry (n : StationId) (t : Telemetry) (s : State) : State :=
  contactorWatch n t.contactors (stowTest n t (settleStation n s none (afterTelemetry n t s)))

theorem exec_telemetry (n : StationId) (f : TelemetryFrame) (s : State) : exec (.telemetry n f) s
    = .next (closeEvent s (offerUp (.telemetry n f) (testedTelemetry n (telemetryOf f s.now) s))) := rfl

section
variable {n : StationId} {s : State} {t : Telemetry}

theorem testedTelemetry_tested : StowTested n (settleStation n s none (afterTelemetry n t s)) (testedTelemetry n t s) :=
  (stowTest_tested n t _).watched t.contactors

theorem testedTelemetry_only : OnlyStations s (testedTelemetry n t s) :=
  (afterTelemetry_only.trans afterTelemetry_settles.only).trans testedTelemetry_tested.only

theorem testedTelemetry_others (m : StationId) (hm : m ≠ n) : (testedTelemetry n t s).station m = s.station m :=
  (testedTelemetry_tested.others m hm).trans ((afterTelemetry_settles.others m hm).trans (afterTelemetry_other hm))

theorem testedTelemetry_latched : (testedTelemetry n t s).attention.latched = s.attention.latched :=
  testedTelemetry_tested.news.latched.trans (afterTelemetry_settles.news.latched.trans afterTelemetry_tells.latched)

theorem testedTelemetry_ends (e : UpEntry) :
    Ends n s (testedTelemetry n t s) (closeEvent s (offerUp e (testedTelemetry n t s))) :=
  closeEvent_offerUp_ends e testedTelemetry_only.wind testedTelemetry_others

theorem testedTelemetry_outside (e : UpEntry) : s.sameOutside n (closeEvent s (offerUp e (testedTelemetry n t s))) := by
  rw [closeEvent_offerUp e testedTelemetry_only.wind testedTelemetry_others]
  refine .of_only_offerUp e (testedTelemetry_only.trans (markAt_ports n s _).only) fun m hm => ?_
  rw [markAt_station_ne s _ hm]
  exact testedTelemetry_others m hm

theorem testedTelemetry_sendsUp (e : UpEntry) :
    s.sendsUp (closeEvent s (offerUp e (testedTelemetry n t s))) (admitUp s.upQueue e) :=
  Ends.sendsUp testedTelemetry_only.wind testedTelemetry_others testedTelemetry_only.upQueue testedTelemetry_only.upTx
    testedTelemetry_latched

end

/-! ### The record -/

/-- What a telemetry event leaves of the record of its station in `x`, up to the port. -/
structure TelemetryRecord (n : StationId) (t : Telemetry) (s x : State) : Prop where
  body : SameBody (({ ((afterTelemetry n t s).station n).settled (s.turnedAt (afterTelemetry n t s) n) (eligible (s.station n))
    ⟨s.now, s.settings.timing.clearDelay⟩ with zones := (x.station n).zones } : Station).withStowOf (x.station n)) (x.station n)
  zone : ∀ i, ((afterTelemetry n t s).blockZone n (heatBlock (s.station n)) i).alike (x.zone n i)

section
variable {n : StationId} {s x : State} {t : Telemetry}

theorem telemetryRecord_of (h : SameBody ((testedTelemetry n t s).station n) (x.station n)) : TelemetryRecord n t s x := by
  have hz := afterTelemetry_settles (n := n) (s := s) (t := t)
  have htested := testedTelemetry_tested (n := n) (s := s) (t := t)
  have honly := afterTelemetry_only (n := n) (s := s) (t := t)
  have hbody := hz.body
  rw [honly.now, honly.settings] at hbody
  refine ⟨?_, fun i => ((hz.zone i).trans (htested.body.zone i)).trans (h.zone i)⟩
  have hchain := htested.body.trans h
  obtain ⟨h1, h2, h3, h4, h5, h6, -, -, -, -, h11, h12, h13, h14, h15, h16, h17, -⟩ := hbody
  obtain ⟨k1, k2, k3, k4, k5, k6, -, -, -, -, k11, k12, k13, k14, k15, k16, k17, -⟩ := hchain
  exact ⟨k1.trans h1, k2.trans h2, k3.trans h3, k4.trans h4, k5.trans h5, k6.trans h6, rfl, rfl, rfl, rfl, k11.trans h11,
    k12.trans h12, k13.trans h13, k14.trans h14, k15.trans h15, k16.trans h16, k17.trans h17, fun _ => rfl, fun _ => rfl,
    fun _ => rfl, fun _ => rfl, fun _ => rfl⟩

theorem TelemetryRecord.link (h : TelemetryRecord n t s x) :
    (x.station n).link = .up ⟨s.now, s.settings.timing.linkTimeout⟩ := by
  have := h.body.link.trans (Station.suspended_link _ _)
  rw [this, afterTelemetry_own]
  exact goodFrame_link n s

theorem TelemetryRecord.faultLatch (h : TelemetryRecord n t s x) : (x.station n).faultLatch = s.latchAfter n t := by
  have := h.body.faultLatch.trans (Station.suspended_faultLatch _ _)
  rw [this, afterTelemetry_own]

theorem Station.suspended_lastTelemetry (turned : Bool) (st : Station) :
    (st.suspended turned).lastTelemetry = st.lastTelemetry := by
  cases turned <;> rfl

theorem TelemetryRecord.lastTelemetry (h : TelemetryRecord n t s x) : (x.station n).lastTelemetry = some t := by
  have := h.body.lastTelemetry.trans (Station.suspended_lastTelemetry _ _)
  rw [this, afterTelemetry_own]

/-- Where the link was UP, or the report unseen, a frame changes nothing of what the heat block and the eligibility read. -/
theorem afterTelemetry_able (h : (s.station n).link.isUp = true ∨ s.away n) :
    eligible ((afterTelemetry n t s).station n) = eligible (s.station n)
      ∧ heatBlock ((afterTelemetry n t s).station n) = heatBlock (s.station n) := by
  have hg := goodFrame_body n s
  rw [afterTelemetry_own]
  unfold eligible heatBlock heatCount driveCount
  simp only
  rw [hg.installed, hg.lockReportSeen, hg.holders, hg.link]
  rcases h with hup | haway
  · rw [hup]
    exact ⟨rfl, rfl⟩
  · obtain ⟨-, -, -, hseen, -⟩ := haway
    simp [hseen]

theorem afterTelemetry_clearing (h : (s.station n).clearing = none ∨ driveCount (s.station n) = 0) :
    ((afterTelemetry n t s).station n).cancels = false := by
  have hg := goodFrame_body n s
  rw [← Bool.not_eq_true, Station.cancels_iff, afterTelemetry_own]
  rintro ⟨h1, h2⟩
  have h1 : (s.station n).clearing.isSome = true := hg.clearing ▸ h1
  have h2 : driveCount (s.station n) ≠ 0 := hg.driveCount ▸ h2
  rcases h with h | h
  · rw [h] at h1
    exact absurd h1 (by simp)
  · exact h2 h

theorem TelemetryRecord.clearing (h : TelemetryRecord n t s x) (hup : (s.station n).link.isUp = true ∨ s.away n)
    (hclear : (s.station n).clearing = none ∨ driveCount (s.station n) = 0) :
    (x.station n).clearing = (s.station n).clearing := by
  have hstarts : ((afterTelemetry n t s).station n).starts (eligible (s.station n)) = false := by
    rw [Station.starts, (afterTelemetry_able hup).1]
    cases eligible (s.station n) <;> rfl
  have hown : ((afterTelemetry n t s).station n).clearing = (s.station n).clearing := by
    rw [afterTelemetry_own]
    exact (goodFrame_body n s).clearing
  refine h.body.clearing.trans ?_
  change (if ((afterTelemetry n t s).station n).cancels = true then none
    else if ((afterTelemetry n t s).station n).starts (eligible (s.station n)) = true then _
    else ((afterTelemetry n t s).station n).clearing) = _
  rw [afterTelemetry_clearing hclear, hstarts, hown]
  rfl

theorem TelemetryRecord.sameButMotion (h : TelemetryRecord n t s x) (hup : (s.station n).link.isUp = true ∨ s.away n)
    (hclear : (s.station n).clearing = none ∨ driveCount (s.station n) = 0) :
    { s.station n with
      link := (x.station n).link, lastTelemetry := (x.station n).lastTelemetry
      faultLatch := (x.station n).faultLatch }.sameButMotion (x.station n) := by
  have hedit := (afterTelemetry_edit (n := n) (s := s) (t := t)).body
  have hown := afterTelemetry_own (n := n) (s := s) (t := t)
  have hg := goodFrame_body n s
  have hb := h.body
  have hzones : ∀ i, (s.zone n i).alike (x.zone n i) := fun i => by
    obtain ⟨-, -, hsame⟩ := (afterTelemetry n t s).blockZone_cases n (heatBlock (s.station n)) i
    have hz := h.zone i
    rw [hsame (afterTelemetry_able hup).2.symm] at hz
    exact (hedit.zone i).trans hz
  have hz := fun i => Zone.alike_iff.mp (hzones i)
  refine SameBody.sameButPort ⟨?_, rfl, ?_, ?_, h.clearing hup hclear, rfl, rfl, rfl, rfl, rfl, rfl, rfl, rfl, rfl, rfl, ?_, ?_,
    fun i => (hz i).1, fun i => (hz i).2.1, fun i => (hz i).2.2.1, fun i => (hz i).2.2.2.1, fun i => (hz i).2.2.2.2⟩
  · exact (hb.installed.trans (Station.suspended_installed _ _)).trans hedit.installed
  · rw [hb.lockReportSeen.trans (Station.suspended_lockReportSeen _ _), hown]
    exact hg.lockReportSeen
  · rw [hb.holders.trans (Station.suspended_holders _ _), hown]
    exact hg.holders
  · exact (hb.clipStatus.trans (Station.suspended_clipStatus _ _)).trans hedit.clipStatus
  · exact (hb.clipLog.trans (Station.suspended_clipLog _ _)).trans hedit.clipLog

/-! ### The zones (R165) -/

theorem afterTelemetry_unheated (h : (s.station n).link.isUp = true ∨ s.away n) : Unheated n s (afterTelemetry n t s) := by
  intro hr
  rw [afterTelemetry_own]
  rcases h with hup | haway
  · rw [goodFrame_up hup, State.updStation_station, if_pos rfl]
    exact ⟨hr, rfl, rfl⟩
  · obtain ⟨hl, hq, htx, -, -⟩ := haway
    rw [goodFrame_away (Link.isUp_of_down hl) hq htx, State.updStation_station, if_pos rfl]
    exact ⟨.inl rfl, rfl, rfl⟩

theorem settleStation_afterTelemetry_unheated (h : (s.station n).link.isUp = true ∨ s.away n) :
    Unheated n (afterTelemetry n t s) (settleStation n s none (afterTelemetry n t s)) := by
  rw [settleStation_unresumed none (fun h => ?_) fun h _ => ?_]
  · obtain ⟨-, hbody, -, -⟩ := settleClearing_stage n (s.turnedAt (afterTelemetry n t s) n) (eligible (s.station n)) none
      (afterTelemetry n t s)
    have hsettled := ((settleMotion_unheated n (s.turnedAt (afterTelemetry n t s) n) (afterTelemetry n t s)).trans
      (cancelClearing_unheated n _)).trans (startClearing_unheated n (eligible (s.station n)) _)
    generalize startClearing n (eligible (s.station n)) _ = v at *
    have hblock : heatBlock (v.station n) = heatBlock (s.station n) :=
      hbody.heatBlock.trans ((Station.suspended_heatBlock _ _).trans (afterTelemetry_able h).2)
    rw [← hblock, settleHeatBlock_self]
    exact hsettled
  · rw [afterTelemetry_own] at h
    exact latchAfter_ne_none h
  · rw [afterTelemetry_own] at h
    exact (goodFrame_body n s).clearing.symm.trans h

theorem testedTelemetry_zone (h : (s.station n).link.isUp = true ∨ s.away n) (hr : (s.station n).ready) (z : ZoneNum) :
    (testedTelemetry n t s).zone n z = (s.zone n z).watch
      (t.contactors.getLsbD z.val != (s.station n).commandedMask.getLsbD z.val)
      ⟨s.now, s.settings.timing.contactorMismatch⟩ := by
  obtain ⟨-, hz, hm⟩ := ((afterTelemetry_unheated (t := t) h).trans (settleStation_afterTelemetry_unheated h)).trans
    (stowTest_unheated n t _) hr
  have honly := (afterTelemetry_only.trans afterTelemetry_settles.only).trans
    (stowTest_only n t (settleStation n s none (afterTelemetry n t s)))
  unfold testedTelemetry State.zone
  rw [contactorWatch_own, Tab.get_ofFn, hz, hm, State.timer, honly.now, honly.settings]

end

end Sys2Proof.Machine
end

section
/-! SUPPORT. TELEMETRY (O27): its place upstream, and the obligation (R40, R45). -/

namespace Sys2Proof.Machine

/-! ### The place upstream (R40) -/

theorem isTelemetryOf_telemetry (n : StationId) (f : TelemetryFrame) : (UpEntry.telemetry n f).isTelemetryOf n = true := by
  simp [UpEntry.isTelemetryOf]

theorem map_telemetry_of_none {n : StationId} (e : UpEntry) {q : List UpEntry} (h : ∀ x ∈ q, x.isTelemetryOf n = false) :
    (q.map fun x => if x.isTelemetryOf n then e else x) = q := by
  refine (List.map_congr_left fun x hx => ?_).trans (List.map_id q)
  rw [h x hx]
  rfl

theorem admitUp_telemetry_place {n : StationId} {pre post : List UpEntry} (f f' : TelemetryFrame)
    (h : ∀ e ∈ pre ++ post, e.isTelemetryOf n = false) :
    admitUp (pre ++ .telemetry n f' :: post) (.telemetry n f) = pre ++ .telemetry n f :: post := by
  have hany : (pre ++ .telemetry n f' :: post).any (·.isTelemetryOf n) = true :=
    List.any_eq_true.mpr ⟨.telemetry n f', by simp, isTelemetryOf_telemetry n f'⟩
  unfold admitUp
  simp only
  rw [if_pos hany, List.map_append, List.map_cons, isTelemetryOf_telemetry,
    map_telemetry_of_none _ fun x hx => h x (List.mem_append_left _ hx),
    map_telemetry_of_none _ fun x hx => h x (List.mem_append_right _ hx)]
  rfl

theorem admitUp_telemetry_tail {n : StationId} {q : List UpEntry} (f : TelemetryFrame) (h : ∀ e ∈ q, e.isTelemetryOf n = false) :
    admitUp q (.telemetry n f) = if q.length ≤ 27 then q ++ [.telemetry n f] else q := by
  have hany : ¬q.any (·.isTelemetryOf n) = true := by simpa using h
  have hroom : q.length < Config.upstreamThreshold ↔ q.length ≤ 27 := by
    rw [Config.upstreamThreshold]
    omega
  unfold admitUp
  simp only [if_neg hany, hroom]

/-! ### The zones and the port in the words of R5 and R165 -/

theorem testedTelemetry_marks {n : StationId} {s : State} {t : Telemetry} (h : (s.station n).link.isUp = true ∨ s.away n) :
    markAt n s (testedTelemetry n t s) = testedTelemetry n t s := by
  have hrecord := telemetryRecord_of (n := n) (s := s) (t := t) (.refl _)
  refine if_pos (onMask_congr fun z => ?_).symm
  obtain ⟨-, -, hsame⟩ := (afterTelemetry n t s).blockZone_cases n (heatBlock (s.station n)) z
  have hz := hrecord.zone z
  rw [hsame (afterTelemetry_able h).2.symm] at hz
  exact (Zone.alike_iff.mp (((afterTelemetry_edit (n := n) (s := s) (t := t)).body.zone z).trans hz)).1

theorem Zone.watch_of_exempt {z : Zone} {differ : Bool} {t : Timer} (h : z.state = .disabled ∨ z.state = .fault) :
    z.watch differ t = z := by
  unfold Zone.watch
  rcases h with h | h <;> rw [h]

theorem Zone.watch_of_watched {z : Zone} {differ : Bool} {t : Timer} (h1 : z.state ≠ .disabled) (h2 : z.state ≠ .fault) :
    z.watch differ t = { z with mismatch := if differ then some (z.mismatch.getD t) else none } := by
  unfold Zone.watch
  split
  · next h => exact absurd h h1
  · next h => exact absurd h h2
  · rfl

theorem telemetryOf_contactors (f : TelemetryFrame) (now : Time) (z : ZoneNum) :
    (telemetryOf f now).contactors.getLsbD z.val = f.mask.getLsbD z.val := by
  change (f.mask.setWidth 4).getLsbD z.val = _
  rw [BitVec.getLsbD_setWidth, decide_eq_true z.isLt, Bool.true_and]

theorem mismatch_eq {a b : Bool} {m : Option Timer} {t : Timer} :
    (if (a != b) = true then some (m.getD t) else none) = if a = b then none else match m with
      | some deadline => some deadline
      | none => some t := by
  by_cases hab : a = b
  · subst hab
    rw [if_pos rfl, bne_self_eq_false, if_neg (by simp)]
  · rw [if_neg hab, if_pos (by simpa using hab)]
    cases m <;> rfl

/-- A station that stood away stays held: no stow test is made of it. -/
theorem afterTelemetry_away {n : StationId} {s : State} {t : Telemetry} (h : s.away n) :
    testedTelemetry n t s = contactorWatch n t.contactors (settleStation n s none (afterTelemetry n t s))
      ∧ s.turnedAt (afterTelemetry n t s) n = false
      ∧ ((afterTelemetry n t s).station n).horns false (eligible (s.station n)) = [] := by
  have hz := (afterTelemetry_settles (n := n) (s := s) (t := t)).body
  have hown := afterTelemetry_own (n := n) (s := s) (t := t)
  have hg := goodFrame_body n s
  obtain ⟨hdown, -, -, hseen, hclear⟩ := h
  have hable : eligible (s.station n) = false := by simp [eligible, hseen]
  have hseen' : ((afterTelemetry n t s).station n).lockReportSeen = false := by
    rw [hown]
    exact hg.lockReportSeen.trans hseen
  have hclear' : ((afterTelemetry n t s).station n).clearing = none := by
    rw [hown]
    exact hg.clearing.trans hclear
  have hheld : ∀ b, authorityOf b ((settleStation n s none (afterTelemetry n t s)).station n) ≠ .stowMoving
      ∧ authorityOf b ((settleStation n s none (afterTelemetry n t s)).station n) ≠ .stowStowed := fun b => by
    have hseen'' := hz.lockReportSeen.trans ((Station.suspended_lockReportSeen _ _).trans hseen')
    unfold authorityOf
    rw [hseen'']
    cases ((settleStation n s none (afterTelemetry n t s)).station n).installed <;> simp
  refine ⟨?_, ?_, ?_⟩
  · rw [testedTelemetry, stowTest_of_other (hheld _).1 (hheld _).2]
  · rw [← Bool.not_eq_true, turnedAt_iff]
    rintro ⟨hp, -⟩
    exact absurd (((afterTelemetry_edit (t := t)).still hp).1.symm.trans hable) (by simp)
  · simp [Station.horns, Station.cancels, Station.starts, hclear', eligible, hseen']

/-- The port of a station whose link was DOWN (R5, R33). -/
theorem telemetry_returns {n : StationId} {s x : State} {t : Telemetry} (hx : x.station n = (testedTelemetry n t s).station n) :
    s.linkReturns x n [] := by
  intro haway
  obtain ⟨htested, hturned, hhorns⟩ := afterTelemetry_away (t := t) haway
  have hz := (afterTelemetry_settles (n := n) (s := s) (t := t)).offers
  obtain ⟨htx, hq⟩ := goodFrame_returns haway
  have hown := afterTelemetry_own (n := n) (s := s) (t := t)
  rw [hturned, hhorns] at hz
  have hup : ((afterTelemetry n t s).station n).link.isUp = true := by
    rw [hown]
    change ((goodFrame n s).station n).link.isUp = true
    rw [goodFrame_link]
    rfl
  have htx' : ((afterTelemetry n t s).station n).tx = some (.linkUp s.nodeAddress) := by
    rw [hown]
    exact htx
  obtain ⟨h1, h2⟩ := hz.sending hup (by change ((afterTelemetry n t s).station n).tx.isSome = true; rw [htx']; rfl)
  rw [hx, htested, contactorWatch_own]
  refine ⟨hz.up.trans hup, h1.trans htx', h2.trans ?_⟩
  change ((afterTelemetry n t s).station n).queue = _
  rw [hown]
  exact hq

/-- Settles O27: the settling, the stow test and the watch each leave the parts of the record that are not theirs, and no HEAT
frame departs from a port that is sending or on which nothing waits. -/
theorem telemetryTaken : Obligations.TelemetryTaken := by
  intro n f s
  have hends := testedTelemetry_ends (n := n) (s := s) (t := telemetryOf f s.now) (.telemetry n f)
  have hrecord := telemetryRecord_of (t := telemetryOf f s.now) hends.body
  have hsends := testedTelemetry_sendsUp (n := n) (s := s) (t := telemetryOf f s.now) (.telemetry n f)
  have hstay := fun h : (s.station n).link.isUp = true ∨ s.away n => (hends.station n).trans
    (congrArg (·.station n) (testedTelemetry_marks (t := telemetryOf f s.now) h))
  refine ⟨_, exec_telemetry n f s, testedTelemetry_outside _, hrecord.link, hrecord.lastTelemetry, ?_,
    fun hup hclear => hrecord.sameButMotion hup hclear, fun hup hready z => ?_, fun pre f' post hq hnone => ?_, fun hnone => ?_⟩
  · exact fun haway => telemetry_returns (hstay (.inr haway)) haway
  · have hzone := testedTelemetry_zone (t := telemetryOf f s.now) hup hready z
    rw [telemetryOf_contactors] at hzone
    have hzone' := (congrArg (fun st : Station => st.zones.get z) (hstay hup)).trans hzone
    refine ⟨fun hx => hzone'.trans (Zone.watch_of_exempt hx), fun h1 h2 => hzone'.trans ?_⟩
    exact (Zone.watch_of_watched h1 h2).trans (congrArg (fun m => { s.zone n z with mismatch := m }) mismatch_eq)
  · rw [hq, admitUp_telemetry_place f f' hnone] at hsends
    exact hsends
  · rw [admitUp_telemetry_tail f hnone] at hsends
    exact hsends

end Sys2Proof.Machine
end

section
/-! SUPPORT. TELEMETRY (O28): the latch with its report, and the motion of a station whose stow is not tested (R20, R80, R81, R82,
R140, R147). -/

namespace Sys2Proof.Machine

/-! ### The report (R80, R81) -/

theorem ofInt_toInt_low (v : BitVec 32) : (BitVec.ofInt 24 v.toInt).toNat = v.toNat % 2 ^ 24 := by
  rw [BitVec.toNat_ofInt]
  have hv := v.isLt
  rw [BitVec.toInt_eq_toNat_cond]
  split <;> omega

theorem overrunDetail_az (v : BitVec 32) : overrunDetail 0 v.toInt = v &&& 0x00FFFFFF := by
  refine BitVec.eq_of_toNat_eq ?_
  rw [overrunDetail, BitVec.toNat_append, ofInt_toInt_low, BitVec.toNat_and]
  change 0 ||| v.toNat % 2 ^ 24 = v.toNat &&& (2 ^ 24 - 1)
  rw [Nat.and_two_pow_sub_one_eq_mod, Nat.zero_or]

theorem overrunDetail_el (v : BitVec 32) : overrunDetail 1 v.toInt = 0x01000000 ||| (v &&& 0x00FFFFFF) := by
  refine BitVec.eq_of_toNat_eq ?_
  rw [overrunDetail, BitVec.toNat_append, ofInt_toInt_low, BitVec.toNat_or, BitVec.toNat_and]
  change _ = 2 ^ 24 ||| (v.toNat &&& (2 ^ 24 - 1))
  rw [Nat.and_two_pow_sub_one_eq_mod]
  rfl

section
variable {n : StationId} {s : State} {t : Telemetry}

theorem testedTelemetry_recorded {e : UpEntry} {l : FaultLatch} {r : FaultReason} {d : BitVec 32} (hr : r ≠ .queueFull)
    (h : s.latches n t = some (l, r, d)) :
    s.recorded (closeEvent s (offerUp e (testedTelemetry n t s))) (.station n) r d := by
  have hends := testedTelemetry_ends (n := n) (s := s) (t := t) e
  have hlatch : afterTelemetry n t s = recordFault (.station n) r d
      ((storeTelemetry n t (goodFrame n s)).updStation n fun st => { st with faultLatch := l }) := by
    rw [afterTelemetry, checkTelemetry_eq, latches_taken, h]
    rfl
  have hstore : News false (goodFrame n s)
      ((storeTelemetry n t (goodFrame n s)).updStation n fun st => { st with faultLatch := l }) := .of_same rfl rfl
  have hafter := ((afterTelemetry_settles (n := n) (s := s) (t := t)).news.trans testedTelemetry_tested.news).trans
    (markAt_news n s (testedTelemetry n t s))
  exact recorded_of_news hr ((goodFrame_news n s).trans hstore) (goodFrame_only n s).now (hlatch ▸ hafter) hends.faults
    hends.attention

/-! ### A station whose stow is not tested -/

theorem authorityOf_stowing {stow : Bool} {st : Station}
    (h : authorityOf stow st = .stowMoving ∨ authorityOf stow st = .stowStowed) : st.free = true ∧ stow = true := by
  have hblocked : (authorityOf stow st).blocked = false := by rcases h with h | h <;> rw [h] <;> rfl
  rw [authorityOf_blocked, Bool.not_eq_false'] at hblocked
  refine ⟨hblocked, ?_⟩
  cases stow with
  | true => rfl
  | false =>
    unfold authorityOf at h
    rw [if_neg (c := false = true) (by simp)] at h
    split_ifs at h <;> rcases h with h | h <;> exact absurd h (by simp)

/-- Under active stow the progress alone tells the authorities of stations that nothing blocks apart. -/
theorem authorityOf_free {st : Station} (h : st.free = true) : authorityOf true st = match st.progress with
    | .none | .pending => .stowPending
    | .warning => .stowWarning
    | .moving => .stowMoving
    | .stowed => .stowStowed := by
  rw [Station.free_eq, Bool.and_eq_true, Bool.and_eq_true, eligible_iff] at h
  obtain ⟨⟨⟨h1, h2, h3, h4⟩, h5⟩, h6⟩ := h
  simp only [authorityOf, h1, h2, h3, h4, Option.isNone_iff_eq_none.mp h5, beq_iff_eq.mp h6]
  rfl

theorem authorityOf_stopped {stow : Bool} {st : Station} (hable : eligible st = true) (hclear : st.clearing = none)
    (hlatch : st.faultLatch ≠ .none) : authorityOf stow st = .stopped := by
  obtain ⟨h1, h2, h3, h4⟩ := eligible_iff.mp hable
  simp [authorityOf, h1, h2, h3, h4, hclear, hlatch]

theorem faultLatch_of_stopped {stow : Bool} {st : Station} (h : authorityOf stow st = .stopped) : st.faultLatch ≠ .none := by
  intro hnone
  unfold authorityOf at h
  rw [hnone, if_neg (c := (FaultLatch.none != FaultLatch.none) = true) (by simp)] at h
  split_ifs at h
  split at h <;> exact absurd h (by simp)

/-- What a settling leaves free was free when its event began. -/
theorem Settles.free {y z : State} {reply : Option LockReply} (h : Settles n s y z reply)
    (hlatch : (y.station n).faultLatch = .none → (s.station n).faultLatch = .none)
    (hclear : (y.station n).clearing = none → (s.station n).clearing = none) (hz : (z.station n).free = true) :
    (s.station n).free = true := by
  rw [Station.free_eq, Bool.and_eq_true, Bool.and_eq_true, beq_iff_eq, Option.isNone_iff_eq_none] at hz
  obtain ⟨⟨hable, hcl⟩, hl⟩ := hz
  have hable : eligible (y.station n) = true := by
    rw [← hable, h.body.eligible]
    exact (Station.suspended_eligible _ _).symm
  have hl : (y.station n).faultLatch = .none := by
    rw [← hl, h.body.faultLatch]
    exact (Station.suspended_faultLatch _ _).symm
  have hcl := h.body.clearing.symm.trans hcl
  change (if (y.station n).cancels = true then none
    else if (y.station n).starts (eligible (s.station n)) = true then _ else (y.station n).clearing) = none at hcl
  rw [Station.not_cancels_of_eligible hable, if_neg (by simp)] at hcl
  cases hstart : (y.station n).starts (eligible (s.station n)) with
  | true => rw [hstart] at hcl; exact absurd hcl (by simp)
  | false =>
    rw [hstart, if_neg (by simp)] at hcl
    have hs : eligible (s.station n) = true := by simpa [Station.starts, hable] using hstart
    rw [Station.free_eq, hs, hclear hcl, hlatch hl]
    rfl

theorem testedTelemetry_untested
    (h : s.latchAfter n t ≠ .none ∨ (s.authority n ≠ .stowMoving ∧ s.authority n ≠ .stowStowed)) :
    testedTelemetry n t s = contactorWatch n t.contactors (settleStation n s none (afterTelemetry n t s)) := by
  have hz := afterTelemetry_settles (n := n) (s := s) (t := t)
  have hown := afterTelemetry_own (n := n) (s := s) (t := t)
  have hlatch : ((settleStation n s none (afterTelemetry n t s)).station n).faultLatch = s.latchAfter n t := by
    refine (hz.body.faultLatch.trans (Station.suspended_faultLatch _ _)).trans ?_
    rw [hown]
  have hprogress : ((settleStation n s none (afterTelemetry n t s)).station n).progress = (s.station n).progress :=
    (hz.body.progress.trans (Station.suspended_progress _ _)).trans afterTelemetry_edit.body.progress
  have hactive : (settleStation n s none (afterTelemetry n t s)).stowActive = s.stowActive :=
    (afterTelemetry_only.trans hz.only).stowActive
  have hother : ¬((settleStation n s none (afterTelemetry n t s)).authority n = .stowMoving
      ∨ (settleStation n s none (afterTelemetry n t s)).authority n = .stowStowed) := by
    intro hstowing
    obtain ⟨hfree, hstow⟩ := authorityOf_stowing hstowing
    have hsfree : (s.station n).free = true := hz.free
      (fun h => by rw [hown] at h; exact latchAfter_ne_none h)
      (fun h => by rw [hown] at h; exact (goodFrame_body n s).clearing.symm.trans h) hfree
    rcases h with hlatched | ⟨h1, h2⟩
    · rw [Station.free_eq, hlatch, Bool.and_eq_true, beq_iff_eq] at hfree
      exact hlatched hfree.2
    · have hsame : (settleStation n s none (afterTelemetry n t s)).authority n = s.authority n := by
        unfold State.authority
        rw [← hactive, hstow, authorityOf_free hfree, authorityOf_free hsfree, hprogress]
      rw [hsame] at hstowing
      exact hstowing.elim h1 h2
  rw [testedTelemetry, stowTest_of_other (fun hm => hother (.inl hm)) fun hm => hother (.inr hm)]

theorem Settles.closed_watched {y z x : State} {reply : Option LockReply} (h : Settles n s y z reply) {mask : BitVec 4}
    (k : Ends n s (contactorWatch n mask z) x) : Closed n s y x reply where
  body := h.body.with_own_zones ((contactorWatch_body n mask z).trans k.body)
  stowActive := (k.stowActive.trans (contactorWatch_only n mask z).stowActive).trans h.only.stowActive
  offers := by
    have hsame : Offers y.nodeAddress [] (z.station n) ((contactorWatch n mask z).station n) := by
      rw [contactorWatch_own]
      exact .of_same rfl rfl rfl
    have hmark := k.offers
    rw [((h.only.trans (contactorWatch_only n mask z)).nodeAddress :)] at hmark
    refine ⟨markOf n s (contactorWatch n mask z), ?_, ((h.offers.trans hsame).congr (List.append_nil _)).trans hmark⟩
    unfold markOf
    split <;> simp
  quiet hturned := by
    rw [k.station]
    have hcalm : Calm z (markAt n s (contactorWatch n mask z)) := by
      refine (contactorWatch_reach n mask z).calm.trans ?_
      unfold markAt
      split
      · exact .refl _
      · exact .offer_of_ne n .heat _
    exact hcalm.quiet n (h.quiet hturned)

theorem telemetry_closed (e : UpEntry)
    (h : s.latchAfter n t ≠ .none ∨ (s.authority n ≠ .stowMoving ∧ s.authority n ≠ .stowStowed)) :
    Closed n s (afterTelemetry n t s) (closeEvent s (offerUp e (testedTelemetry n t s))) none := by
  have hends := testedTelemetry_ends (n := n) (s := s) (t := t) e
  refine afterTelemetry_settles.closed_watched (mask := t.contactors) ?_
  rw [← testedTelemetry_untested h]
  exact hends

/-! ### The stop of a station that a telemetry latches (R20, R140) -/

/-- The telemetry replaced in the record that an event began with. -/
def State.withTelemetry (s : State) (n : StationId) (a : Option Telemetry) : State :=
  s.updStation n fun st => { st with lastTelemetry := a }

theorem withTelemetry_station (a : Option Telemetry) :
    (s.withTelemetry n a).station n = { s.station n with lastTelemetry := a } := by
  rw [State.withTelemetry, State.updStation_station, if_pos rfl]

theorem withTelemetry_turnedAt (a : Option Telemetry) (y : State) : (s.withTelemetry n a).turnedAt y n = s.turnedAt y n := by
  unfold State.turnedAt State.authority
  rw [withTelemetry_station]
  rfl

theorem Edited.withTelemetry {y : State} (h : Edited n s y) (a : Option Telemetry) : Edited n (s.withTelemetry n a) y := by
  have hst := withTelemetry_station (n := n) (s := s) a
  obtain ⟨h1, h2, h3, h4, h5, h6, h7, h8, h9, h10, h11, h12, h13, h14, h15, h16, h17, h18, h19⟩ := h.only
  refine ⟨⟨h1, h2, h3, h4, h5, h6, h7, h8, h9, h10, h11, h12, h13, h14, h15, h16, h17, h18, h19⟩, fun m hm => ?_, ?_, ?_, ?_⟩
  · rw [h.others m hm, State.withTelemetry, State.updStation_station, if_neg hm]
  · rw [hst]
    exact h.body
  · rw [hst]
    exact h.clearing
  · rw [hst]
    exact h.port

theorem Closed.withTelemetry {y x : State} {reply : Option LockReply} (c : Closed n s y x reply) (a : Option Telemetry) :
    Closed n (s.withTelemetry n a) y x reply := by
  have hable : Machine.eligible ((s.withTelemetry n a).station n) = Machine.eligible (s.station n) := by
    rw [withTelemetry_station]
    rfl
  obtain ⟨h1, h2, h3, h4⟩ := c
  have hturned := withTelemetry_turnedAt (n := n) (s := s) a y
  constructor
  · rw [hturned, hable]
    exact h1
  · exact h2
  · rw [hturned, hable]
    exact h3
  · rw [hturned]
    exact h4

end

end Sys2Proof.Machine
end

section
/-! SUPPORT. TELEMETRY (O28): the obligation (R20, R80, R81, R82, R140, R147). -/

namespace Sys2Proof.Machine

section
variable {n : StationId} {s : State}

/-- The overrun of an axis, as R80 puts it. -/
theorem beyond_iff {lo hi : Int} {margin : Nat} {v : Int} : beyond lo hi margin v = true ↔ v < lo - margin ∨ hi + margin < v :=
  decide_eq_true_iff

theorem latches_overrun {f : TelemetryFrame} (hinst : (s.station n).installed = true) (hnone : (s.station n).faultLatch = .none)
    (h : (f.az.toInt < (s.envelope n).azMin - (s.envelope n).overrunMargin
        ∨ (s.envelope n).azMax + (s.envelope n).overrunMargin < f.az.toInt)
      ∨ (f.el.toInt < (s.envelope n).elMin - (s.envelope n).overrunMargin
        ∨ (s.envelope n).elMax + (s.envelope n).overrunMargin < f.el.toInt)) :
    s.latches n (telemetryOf f s.now) = some (.overrun, .overrun,
      if f.az.toInt < (s.envelope n).azMin - (s.envelope n).overrunMargin
          ∨ (s.envelope n).azMax + (s.envelope n).overrunMargin < f.az.toInt
        then f.az &&& 0x00FFFFFF else 0x01000000 ||| (f.el &&& 0x00FFFFFF)) := by
  unfold State.latches
  rw [if_pos (by rw [hinst, hnone]; rfl)]
  simp only [beyond_iff]
  rw [show (telemetryOf f s.now).az = f.az.toInt from rfl, show (telemetryOf f s.now).el = f.el.toInt from rfl,
    overrunDetail_az, overrunDetail_el]
  split
  · rfl
  · next haz => rw [if_pos (h.resolve_left haz)]

theorem latches_within {f : TelemetryFrame} (hinst : (s.station n).installed = true) (hnone : (s.station n).faultLatch = .none)
    (h : ¬((f.az.toInt < (s.envelope n).azMin - (s.envelope n).overrunMargin
        ∨ (s.envelope n).azMax + (s.envelope n).overrunMargin < f.az.toInt)
      ∨ (f.el.toInt < (s.envelope n).elMin - (s.envelope n).overrunMargin
        ∨ (s.envelope n).elMax + (s.envelope n).overrunMargin < f.el.toInt))) :
    s.latches n (telemetryOf f s.now) = if f.flags.getLsbD 1 then some (.driveFault, .driveFault, 0) else none := by
  obtain ⟨haz, hel⟩ := not_or.mp h
  unfold State.latches
  rw [if_pos (by rw [hinst, hnone]; rfl)]
  simp only [beyond_iff]
  exact (if_neg haz).trans (if_neg hel)

theorem latchAfter_unchecked {t : Telemetry} (h : (s.station n).installed = false ∨ (s.station n).faultLatch ≠ .none) :
    s.latchAfter n t = (s.station n).faultLatch := by
  have hnone : s.latches n t = none := by
    refine if_neg ?_
    rcases h with h | h <;> simp [h]
  rw [State.latchAfter, hnone]

/-- What the latch takes from a station that was permitting (R20, R82, R140). -/
theorem telemetry_stops {t : Telemetry} {x : State} (c : Closed n s (afterTelemetry n t s) x none)
    (hp : (s.authority n).permitting = true) (hlatch : (x.station n).faultLatch ≠ .none) :
    x.authority n = .stopped ∧ (x.station n).demand = noDemand ∧ (x.station n).grant = noGrant
      ∧ (∀ sp ∈ queuedSetpoints (x.station n).queue, sp.moving = false)
      ∧ (s.authority n = .stowWarning → (x.station n).progress = .warning ∧ (x.station n).warnTimer = none
          ∧ s.offered x n (.horn false) ∧ (s.idling n → (x.station n).tx = some (.horn false))) := by
  have h := afterTelemetry_edit (n := n) (s := s) (t := t)
  obtain ⟨hable, hclear, hcancels, hstarts⟩ := h.still hp
  have hup := (eligible_iff.mp hable).2.1
  have hable' := (afterTelemetry_able (t := t) (.inl hup)).1.trans hable
  have hup' := (eligible_iff.mp hable').2.1
  have hlatch' : ((afterTelemetry n t s).station n).faultLatch ≠ .none := by rw [← c.faultLatch]; exact hlatch
  have hclear' : (x.station n).clearing = none := by
    rw [c.clearing, hcancels, hstarts]
    exact hclear
  have hturned : s.turnedAt (afterTelemetry n t s) n = true := turnedAt_iff.mpr ⟨hp, by
    rw [show (afterTelemetry n t s).authority n = .stopped from authorityOf_stopped hable' hclear hlatch']
    rfl⟩
  have hb := c.body
  rw [hturned] at hb
  refine ⟨authorityOf_stopped (c.eligible.trans hable') hclear' hlatch, hb.demand, hb.grant, c.quiet hturned, fun ha => ?_⟩
  have hwarn0 : (s.station n).progress = .warning := authorityOf_stowWarning ha
  have hwarn : ((afterTelemetry n t s).station n).progress = .warning := h.body.progress.trans hwarn0
  have hhorns : ((afterTelemetry n t s).station n).horns (s.turnedAt (afterTelemetry n t s) n) (eligible (s.station n))
      = [.horn false] := by
    rw [Station.horns, hturned, hcancels, hstarts, hwarn]
    rfl
  refine ⟨hb.progress.trans hwarn, hb.warnTimer.trans (if_pos hwarn), c.horn_offered h (pre := []) hhorns fun _ => hup', ?_⟩
  rintro ⟨-, htx, hnil⟩
  obtain ⟨marks, -, hoffers⟩ := c.offers
  obtain ⟨htx', hq⟩ := h.stilled_port (s.turnedAt (afterTelemetry n t s) n) ((afterTelemetry n t s).stopSetpoint n) hup hup'
  rw [hhorns] at hoffers
  refine hoffers.first_leaves hup' (htx'.trans htx) ?_ rfl
  rw [hq, hnil]
  split <;> rfl

/-- Settles O28: the latch is the one the checks select on the record the event began with, and a station latched or outside
its stow is settled and no more. -/
theorem telemetryLatches : Obligations.TelemetryLatches := by
  intro n f s
  have hends := testedTelemetry_ends (n := n) (s := s) (t := telemetryOf f s.now) (.telemetry n f)
  have hrecord := telemetryRecord_of (t := telemetryOf f s.now) hends.body
  have hlatch := hrecord.faultLatch
  have hclosed := telemetry_closed (n := n) (s := s) (t := telemetryOf f s.now) (.telemetry n f)
  refine ⟨_, exec_telemetry n f s, fun hinst hnone hbeyond => ?_, fun hinst hnone hwithin => ?_, fun h => ?_, fun hp hl => ?_,
    fun ha hl => ?_, fun hup _ h => ?_⟩
  · have hl := latches_overrun hinst hnone hbeyond
    exact ⟨hlatch.trans (by rw [State.latchAfter, hl]), testedTelemetry_recorded (by simp) hl⟩
  · have hl := latches_within hinst hnone hwithin
    refine ⟨hlatch.trans ?_, fun hflag => testedTelemetry_recorded (by simp) (hl.trans (if_pos hflag))⟩
    rw [State.latchAfter, hl]
    cases f.flags.getLsbD 1 with
    | true => rfl
    | false => exact hnone
  · exact hlatch.trans (latchAfter_unchecked h)
  · obtain ⟨h1, h2, h3, h4, -⟩ := telemetry_stops (hclosed (.inl (hlatch ▸ hl))) hp hl
    exact ⟨h1, h2, h3, h4⟩
  · exact (telemetry_stops (hclosed (.inl (hlatch ▸ hl))) (by rw [ha]; rfl) hl).2.2.2.2 ha
  · have c := hclosed (h.imp (fun hstopped => hlatch ▸ faultLatch_of_stopped hstopped) id)
    have hedit := afterTelemetry_edit (n := n) (s := s) (t := telemetryOf f s.now)
    have hst := fun a => withTelemetry_station (n := n) (s := s) a
    refine (c.withTelemetry _).motionFollows (hedit.withTelemetry _) (fun _ _ => ?_) fun _ hu => by rw [← c.link]; exact hu
    refine stopSetpoint_congr (hedit.only.envelope n) ?_ ?_
    · rw [hst, hrecord.lastTelemetry, afterTelemetry_own]
    · rw [hst, afterTelemetry_own]
      exact (goodFrame_port hup).2.2

end

end Sys2Proof.Machine
end

section
/-! SUPPORT. A new active entry for a station that nobody holds and that is not in stow motion: the record it leaves, as a function
of the record before it (R3, R20, R73, R74, R97, R138). -/

namespace Sys2Proof.Machine

/-! ### The record -/

/-- The STOP setpoint of a record under an entry (R16). -/
def Station.stopUnder (e : Envelope) (st : Station) : Setpoint where
  azTarget := clampInt e.azMin e.azMax (stopTargets st).1
  azSpeed := 0
  elTarget := clampInt e.elMin e.elMax (stopTargets st).2
  elSpeed := 0

theorem State.stopSetpoint_eq (s : State) (n : StationId) : s.stopSetpoint n = (s.station n).stopUnder (s.envelope n) := rfl

/-- A station that lets a new active entry in: nobody holds it, and it is not in stow motion (R72, R77). -/
structure Station.unbarred (st : Station) : Prop where
  holders : st.holders = []
  notWarning : st.progress ≠ .warning
  notMoving : st.progress ≠ .moving

/-- A record under a new active entry, with what the entry does to its stow (R3, R74, R138). -/
def Station.joined (stow : Bool) (e : Envelope) (st : Station) : Station :=
  let a := st.underEnvelope e
  match st.installed, isYes e.installed with
  | true, false => { a with progress := .none, warnTimer := none, stowTimeout := none }
  | false, true => if stow then activateStation (st.stopUnder e) a else a
  | _, _ => a

/-- Whether a new active entry turns the authority of a record to non-permitting (R20). -/
def Station.turns (stow : Bool) (e : Envelope) (st : Station) : Bool :=
  st.installed && !isYes e.installed && (authorityOf stow st).permitting

/-- A record whose motion is taken (R20). -/
def Station.revoked (stop : Setpoint) (st : Station) : Station :=
  { clearDemand st with queue := replaceSetpoints Setpoint.moving stop st.queue, grant := noGrant }

/-- A record under a new active entry, but for the clearing that may start. -/
def Station.rewritten (stow : Bool) (e : Envelope) (st : Station) : Station :=
  if st.turns stow e then (st.joined stow e).revoked (st.stopUnder e) else st.joined stow e

/-- What no new active entry touches of a record. -/
structure SameBelow (a b : Station) : Prop where
  link : b.link = a.link
  lockReportSeen : b.lockReportSeen = a.lockReportSeen
  holders : b.holders = a.holders
  clearing : b.clearing = a.clearing
  faultLatch : b.faultLatch = a.faultLatch
  stowStart : b.stowStart = a.stowStart
  lastTelemetry : b.lastTelemetry = a.lastTelemetry
  lastSent : b.lastSent = a.lastSent
  clipStatus : b.clipStatus = a.clipStatus
  clipLog : b.clipLog = a.clipLog
  tx : b.tx = a.tx
  commandedMask : b.commandedMask = a.commandedMask
  zones : b.zones = a.zones
  length : b.queue.length = a.queue.length

section
variable {stow : Bool} {e : Envelope} {st : Station}

theorem joined_below (stow : Bool) (e : Envelope) (st : Station) : SameBelow st (st.joined stow e) := by
  have hunder : SameBelow st (st.underEnvelope e) :=
    ⟨rfl, rfl, rfl, rfl, rfl, rfl, rfl, rfl, rfl, rfl, rfl, rfl, rfl, List.length_map _⟩
  unfold Station.joined
  split
  · exact ⟨rfl, rfl, rfl, rfl, rfl, rfl, rfl, rfl, rfl, rfl, rfl, rfl, rfl, hunder.length⟩
  · split
    · exact ⟨rfl, rfl, rfl, rfl, rfl, rfl, rfl, rfl, rfl, rfl, rfl, rfl, rfl, (List.length_map _).trans hunder.length⟩
    · exact hunder
  · exact hunder

theorem rewritten_below (stow : Bool) (e : Envelope) (st : Station) : SameBelow st (st.rewritten stow e) := by
  have h := joined_below stow e st
  unfold Station.rewritten
  split
  · exact ⟨h.link, h.lockReportSeen, h.holders, h.clearing, h.faultLatch, h.stowStart, h.lastTelemetry, h.lastSent,
      h.clipStatus, h.clipLog, h.tx, h.commandedMask, h.zones, (List.length_map _).trans h.length⟩
  · exact h

theorem joined_installed (stow : Bool) (e : Envelope) (st : Station) : (st.joined stow e).installed = isYes e.installed := by
  unfold Station.joined
  split
  · rfl
  · split <;> rfl
  · rfl

theorem rewritten_installed (stow : Bool) (e : Envelope) (st : Station) : (st.rewritten stow e).installed = isYes e.installed := by
  unfold Station.rewritten
  split
  · exact joined_installed stow e st
  · exact joined_installed stow e st

theorem joined_progress (h : st.progress ≠ .warning) : (st.joined stow e).progress ≠ .warning := by
  unfold Station.joined
  split
  · simp
  · split
    · change (if _ then StowProgress.pending else .none) ≠ .warning
      split <;> simp
    · exact h
  · exact h

theorem joined_same (h : st.installed = isYes e.installed) : st.joined stow e = st.underEnvelope e := by
  unfold Station.joined
  rw [h]
  cases isYes e.installed <;> rfl

theorem turns_same (h : st.installed = isYes e.installed) : st.turns stow e = false := by
  rw [Station.turns, h]
  cases isYes e.installed <;> rfl

theorem rewritten_same (h : st.installed = isYes e.installed) : st.rewritten stow e = st.underEnvelope e := by
  rw [Station.rewritten, turns_same h, if_neg (by simp), joined_same h]

theorem authorityOf_absent (h : st.installed = false) : authorityOf stow st = .absent := by
  simp [authorityOf, h]

theorem underEnvelope_authority (h : st.installed = isYes e.installed) :
    authorityOf stow (st.underEnvelope e) = authorityOf stow st := by
  unfold authorityOf
  rw [show (st.underEnvelope e).installed = st.installed from h.symm]
  rfl

/-- The settling finds the authority turned where `turns` says so. -/
theorem turns_eq (stow : Bool) (e : Envelope) (st : Station) :
    ((authorityOf stow st).permitting && !(authorityOf stow (st.joined stow e)).permitting) = st.turns stow e := by
  by_cases hsame : st.installed = isYes e.installed
  · rw [turns_same hsame, joined_same hsame, underEnvelope_authority hsame]
    cases (authorityOf stow st).permitting <;> rfl
  · cases hwas : st.installed with
    | true =>
      have hnow : isYes e.installed = false := by simpa [hwas] using hsame
      rw [authorityOf_absent ((joined_installed stow e st).trans hnow), Station.turns, hwas, hnow]
      cases (authorityOf stow st).permitting <;> rfl
    | false =>
      rw [authorityOf_absent hwas, Station.turns, hwas]
      rfl

end

/-! ### The event's part at one station -/

theorem SameBelow.driveCount {a b : Station} (h : SameBelow a b) : driveCount b = driveCount a := by
  unfold Machine.driveCount
  rw [h.holders]

theorem SameBelow.heatBlock {a b : Station} (h : SameBelow a b) : heatBlock b = heatBlock a := by
  unfold Machine.heatBlock heatCount
  rw [h.link, h.lockReportSeen, h.holders]

section
variable {n : StationId} {e : Envelope} {s : State}

theorem putActive_stop : (s.putActive n e).stopSetpoint n = (s.station n).stopUnder e := by
  rw [State.stopSetpoint_eq, State.putActive_envelope, if_pos rfl, State.putActive_station, if_pos rfl]
  rfl

theorem settleInstalled_putActive (h : (s.station n).unbarred) :
    settleInstalled n (s.station n).installed (s.putActive n e)
      = (s.putActive n e).updStation n fun _ => (s.station n).joined s.stowActive e := by
  have hput : (s.putActive n e).station n = (s.station n).underEnvelope e := by rw [State.putActive_station, if_pos rfl]
  have hstow : (s.putActive n e).stowActive = s.stowActive := rfl
  have hself : ∀ st : Station, st = (s.station n).underEnvelope e → s.putActive n e = (s.putActive n e).updStation n fun _ => st :=
    fun st hst => (State.updStation_self _ n _ (by rw [hput, hst])).symm
  unfold settleInstalled
  rw [hput, hstow, putActive_stop]
  unfold Station.joined
  cases hwas : (s.station n).installed <;> cases hnow : isYes e.installed <;>
    rw [show ((s.station n).underEnvelope e).installed = isYes e.installed from rfl, hnow]
  case true.false =>
    have hwarn : ¬((s.putActive n e).station n).progress = .warning := by
      rw [hput]
      exact h.notWarning
    refine (if_neg hwarn).trans (State.updStation_congr ?_)
    rw [hput]
  case false.true =>
    cases hs : s.stowActive with
    | true =>
      refine State.updStation_congr ?_
      rw [hput]
      rfl
    | false => exact hself _ rfl
  all_goals exact hself _ rfl

theorem settleMotion_updStation (turned : Bool) (y : State) (h : (y.station n).progress ≠ .warning) :
    settleMotion n turned none y
      = if turned then y.updStation n fun st => st.revoked (y.stopSetpoint n) else y := by
  cases turned with
  | false => rfl
  | true =>
    have hwarn : ¬((revokeMotion n y).station n).progress = .warning := by
      rw [revokeMotion, State.updStation_station, if_pos rfl]
      exact h
    exact if_neg hwarn

/-- A new active entry brings the record within it, and starts clearing where it makes the station eligible (R73, R74, R97). -/
theorem writeActive_unbarred (h : (s.station n).unbarred) : writeActive n e s
    = startClearing n (eligible (s.station n)) ((s.putActive n e).updStation n fun _ => (s.station n).rewritten s.stowActive e) := by
  have hy : (settleInstalled n (s.station n).installed (s.putActive n e)).station n = (s.station n).joined s.stowActive e := by
    rw [settleInstalled_putActive h, State.updStation_station, if_pos rfl]
  have hbelow := joined_below s.stowActive e (s.station n)
  have hstow : (settleInstalled n (s.station n).installed (s.putActive n e)).stowActive = s.stowActive :=
    (settleInstalled_only n _ _).stowActive
  have hturned : s.turnedAt (settleInstalled n (s.station n).installed (s.putActive n e)) n
      = (s.station n).turns s.stowActive e := by
    unfold State.turnedAt State.authority
    rw [hy, hstow, turns_eq]
  have hmotion : settleMotion n ((s.station n).turns s.stowActive e) none
        (settleInstalled n (s.station n).installed (s.putActive n e))
      = (s.putActive n e).updStation n fun _ => (s.station n).rewritten s.stowActive e := by
    rw [settleMotion_updStation _ _ (by rw [hy]; exact joined_progress h.notWarning)]
    have hstop : (settleInstalled n (s.station n).installed (s.putActive n e)).stopSetpoint n = (s.station n).stopUnder e := by
      rw [← putActive_stop (s := s) (n := n)]
      refine stopSetpoint_congr ((settleInstalled_only n _ _).envelope n) ?_ ?_
      · rw [hy, State.putActive_station, if_pos rfl]
        exact hbelow.lastTelemetry
      · rw [hy, State.putActive_station, if_pos rfl]
        exact hbelow.lastSent
    rw [hstop, settleInstalled_putActive h, State.updStation_updStation]
    unfold Station.rewritten
    split <;> rfl
  rw [writeActive_eq, settleStation_unresumed none (fun hl => by rw [hy] at hl; exact hbelow.faultLatch.symm.trans hl)
    fun hc _ => by rw [hy] at hc; exact hbelow.clearing.symm.trans hc]
  rw [hturned, hmotion]
  have hown : ((s.putActive n e).updStation n fun _ => (s.station n).rewritten s.stowActive e).station n
      = (s.station n).rewritten s.stowActive e := by rw [State.updStation_station, if_pos rfl]
  have hbelow' := rewritten_below s.stowActive e (s.station n)
  generalize (s.putActive n e).updStation n (fun _ => (s.station n).rewritten s.stowActive e) = x at *
  have hcancel : cancelClearing n x = x := by
    have hzero : driveCount (x.station n) = 0 := by
      rw [hown, hbelow'.driveCount, Machine.driveCount, h.holders]
      rfl
    refine if_neg ?_
    simp [hzero]
  have hblock : heatBlock ((startClearing n (eligible (s.station n)) x).station n) = heatBlock (s.station n) := by
    rw [(startClearing_stage n (eligible (s.station n)) x).body.heatBlock, ← hbelow'.heatBlock, ← hown]
    rfl
  rw [hcancel, ← hblock, settleHeatBlock_self]

end

end Sys2Proof.Machine
end

section
/-! SUPPORT. New active entries for several stations in one event: each station's record is rewritten by its own entry, whatever
the others are given (R73, R77, R87, R97). -/

namespace Sys2Proof.Machine

/-! ### One station -/

/-- Whether a new active entry starts a clearing (R97). -/
def Station.begins (stow : Bool) (e : Envelope) (st : Station) : Bool := (st.rewritten stow e).starts (eligible st)

/-- A record under a new active entry, its clearing started where the entry makes the station eligible (R73, R97). -/
def Station.written (node : Byte) (timer : Timer) (stow : Bool) (e : Envelope) (st : Station) : Station :=
  if st.begins stow e then { st.rewritten stow e with clearing := some timer }.takes node (.horn true)
  else st.rewritten stow e

/-- What new active entries for the stations of a list have done between `s` and `t`. -/
structure Wrote (l : List StationId) (entry : StationId → Envelope) (s t : State) : Prop where
  only : OnlyStations { s with settings := { s.settings with active := t.settings.active } } t
  inside : ∀ n ∈ l, t.station n
    = (s.station n).written s.nodeAddress ⟨s.now, s.settings.timing.clearDelay⟩ s.stowActive (entry n)
  entered : ∀ n ∈ l, t.envelope n = entry n
  outside : ∀ n, n ∉ l → t.station n = s.station n ∧ t.envelope n = s.envelope n
  latched : t.attention.latched = s.attention.latched
  kept : ∀ k, s.attention.raised.has k = true → t.attention.raised.has k = true
  locks : ∀ n ∈ l, (s.station n).begins s.stowActive (entry n) = true → t.attention.raised.has .lockChange = true
  still : (∀ n ∈ l, (s.station n).begins s.stowActive (entry n) = false) → t.attention = s.attention ∧ t.faults = s.faults
  room : (∀ n ∈ l, (s.station n).queue.length ≤ 7) → t.faults = s.faults

section
variable {n : StationId} {e : Envelope} {s t u : State} {l : List StationId} {entry : StationId → Envelope}

theorem putActive_only (f : Station → Station) :
    OnlyStations { s with settings := { s.settings with active := s.settings.active.set n e } } ((s.putActive n e).updStation n f) :=
  (State.updStation_only _ n _).trans (State.updStation_only _ n f)

theorem putActive_written (f : Station → Station) (m : StationId) :
    ((s.putActive n e).updStation n f).envelope m = if m = n then e else s.envelope m := State.putActive_envelope s n m e

theorem writeActive_only (h : (s.station n).unbarred) :
    OnlyStations { s with settings := { s.settings with active := (writeActive n e s).settings.active } } (writeActive n e s) := by
  rw [writeActive_unbarred h]
  have hput := putActive_only (s := s) (n := n) (e := e) fun _ => (s.station n).rewritten s.stowActive e
  have hstart := startClearing_only n (eligible (s.station n)) ((s.putActive n e).updStation n fun _ =>
    (s.station n).rewritten s.stowActive e)
  have hall := hput.trans hstart
  have hactive := congrArg Settings.active hall.settings
  rw [hactive]
  exact hall

theorem writeActive_envelope (h : (s.station n).unbarred) (m : StationId) :
    (writeActive n e s).envelope m = if m = n then e else s.envelope m := by
  rw [writeActive_unbarred h, (startClearing_only n _ _).envelope, putActive_written]

theorem writeActive_other (h : (s.station n).unbarred) {m : StationId} (hm : m ≠ n) :
    (writeActive n e s).station m = s.station m := by
  rw [writeActive_unbarred h]
  unfold startClearing
  split
  · rw [raise_station, offer_station_ne n m _ _ hm, State.updStation_station, if_neg hm, State.updStation_station, if_neg hm,
      State.putActive_station, if_neg hm]
  · rw [State.updStation_station, if_neg hm, State.putActive_station, if_neg hm]

/-- The state a new active entry leaves, by whether a clearing starts. -/
theorem writeActive_begins (h : (s.station n).unbarred) : writeActive n e s =
    if (s.station n).begins s.stowActive e then
      raise .lockChange (offer n (.horn true) ((s.putActive n e).updStation n fun _ =>
        { (s.station n).rewritten s.stowActive e with clearing := some ⟨s.now, s.settings.timing.clearDelay⟩ }))
    else (s.putActive n e).updStation n fun _ => (s.station n).rewritten s.stowActive e := by
  rw [writeActive_unbarred h, startClearing, State.updStation_updStation, State.updStation_station, if_pos rfl]
  rfl

theorem writeActive_own (h : (s.station n).unbarred) : (writeActive n e s).station n
    = (s.station n).written s.nodeAddress ⟨s.now, s.settings.timing.clearDelay⟩ s.stowActive e := by
  rw [writeActive_begins h, Station.written]
  split
  · rw [raise_station, offer_station_self, State.updStation_station, if_pos rfl]
    rfl
  · rw [State.updStation_station, if_pos rfl]

theorem writeActive_tells (h : (s.station n).unbarred) :
    Tells ((s.station n).begins s.stowActive e) s (writeActive n e s) := by
  rw [writeActive_begins h]
  cases (s.station n).begins s.stowActive e with
  | false => exact .of_same rfl
  | true =>
    have hput : Tells false s ((s.putActive n e).updStation n fun _ =>
      { (s.station n).rewritten s.stowActive e with clearing := some ⟨s.now, s.settings.timing.clearDelay⟩ }) := .of_same rfl
    exact (hput.trans (offer_news n _ _).toTells).trans (Tells.raise .lockChange _)

theorem offer_faults_of_room {x : StationEntry} (hroom : (s.station n).queue.length < 8) (hc : checked n x s = x) :
    (offer n x s).faults = s.faults := by
  rw [offer_eq_updStation hc (lostReply_of_room hroom)]
  rfl

theorem writeActive_faults (h : (s.station n).unbarred) (hroom : (s.station n).queue.length ≤ 7) :
    (writeActive n e s).faults = s.faults := by
  have hlen := (rewritten_below s.stowActive e (s.station n)).length
  rw [writeActive_begins h]
  split
  · change (offer n _ _).faults = _
    rw [offer_faults_of_room _ rfl]
    · rfl
    · rw [State.updStation_station, if_pos rfl]
      change ((s.station n).rewritten s.stowActive e).queue.length < 8
      omega
  · rfl

theorem writeActive_wrote (h : (s.station n).unbarred) : Wrote [n] entry s (writeActive n (entry n) s) := by
  have htells := writeActive_tells (e := entry n) h
  refine { only := writeActive_only h, inside := fun m hm => ?_, entered := fun m hm => ?_, outside := fun m hm => ?_
           latched := htells.latched, kept := htells.kept, locks := fun m hm hb => ?_, still := fun hb => ?_
           room := fun hroom => writeActive_faults h (hroom n (List.mem_singleton_self n)) }
  · obtain rfl := List.mem_singleton.mp hm
    exact writeActive_own h
  · obtain rfl := List.mem_singleton.mp hm
    rw [writeActive_envelope h, if_pos rfl]
  · have hm : m ≠ n := fun hmn => hm (by rw [hmn]; exact List.mem_singleton_self n)
    exact ⟨writeActive_other h hm, by rw [writeActive_envelope h, if_neg hm]⟩
  · obtain rfl := List.mem_singleton.mp hm
    rw [htells.lock, hb, Bool.or_true]
  · have hb := hb n (List.mem_singleton_self n)
    rw [writeActive_begins h, if_neg (by rw [hb]; simp)]
    exact ⟨rfl, rfl⟩

/-! ### Several stations -/

/-- New active entries for the stations of a list. -/
def writeAll (l : List StationId) (entry : StationId → Envelope) (s : State) : State :=
  l.foldl (fun s n => writeActive n (entry n) s) s

theorem Wrote.nil (entry : StationId → Envelope) (s : State) : Wrote [] entry s s where
  only := .refl s
  inside _ hn := absurd hn (by simp)
  entered _ hn := absurd hn (by simp)
  outside _ _ := ⟨rfl, rfl⟩
  latched := rfl
  kept _ := id
  locks _ hn := absurd hn (by simp)
  still _ := ⟨rfl, rfl⟩
  room _ := rfl

theorem Wrote.stowActive (h : Wrote l entry s t) : t.stowActive = s.stowActive := h.only.stowActive

theorem Wrote.only_trans (h : Wrote [n] entry s u) (k : Wrote l entry u t) :
    OnlyStations { s with settings := { s.settings with active := t.settings.active } } t := by
  obtain ⟨h1, h2, h3, h4, h5, h6, h7, h8, h9, h10, h11, h12, h13, h14, h15, h16, h17, h18, h19⟩ := h.only
  obtain ⟨k1, k2, k3, k4, k5, k6, k7, k8, k9, k10, k11, k12, k13, k14, k15, k16, k17, k18, k19⟩ := k.only
  exact ⟨k1.trans h1, k2.trans h2, k3.trans h3, k4.trans h4, k5.trans h5,
    k6.trans (congrArg (fun x : Settings => { x with active := t.settings.active }) h6), k7.trans h7, k8.trans h8, k9.trans h9,
    k10.trans h10, k11.trans h11, k12.trans h12, k13.trans h13, k14.trans h14, k15.trans h15, k16.trans h16, k17.trans h17,
    k18.trans h18, k19.trans h19⟩

theorem Wrote.cons (h : Wrote [n] entry s u) (k : Wrote l entry u t) (hn : n ∉ l) : Wrote (n :: l) entry s t := by
  have hsame : ∀ m ∈ l, u.station m = s.station m := fun m hm =>
    (h.outside m fun hmn => hn (List.mem_singleton.mp hmn ▸ hm)).1
  have hnow : u.now = s.now := h.only.now
  have htiming : u.settings.timing = s.settings.timing := (congrArg Settings.timing h.only.settings :)
  have hnode : u.nodeAddress = s.nodeAddress := h.only.nodeAddress
  refine { only := h.only_trans k, inside := fun m hm => ?_, entered := fun m hm => ?_, outside := fun m hm => ?_
           latched := k.latched.trans h.latched, kept := fun c hc => k.kept c (h.kept c hc), locks := fun m hm hb => ?_
           still := fun hb => ?_, room := fun hroom => ?_ }
  · rcases List.mem_cons.mp hm with rfl | hm
    · rw [(k.outside _ hn).1]
      exact h.inside _ (List.mem_singleton_self _)
    · rw [k.inside m hm, hsame m hm, hnow, htiming, hnode, h.stowActive]
  · rcases List.mem_cons.mp hm with rfl | hm
    · rw [(k.outside _ hn).2]
      exact h.entered _ (List.mem_singleton_self _)
    · exact k.entered m hm
  · rw [List.mem_cons, not_or] at hm
    obtain ⟨h1, h2⟩ := h.outside m fun hmn => hm.1 (List.mem_singleton.mp hmn)
    obtain ⟨k1, k2⟩ := k.outside m hm.2
    exact ⟨k1.trans h1, k2.trans h2⟩
  · rcases List.mem_cons.mp hm with rfl | hm
    · exact k.kept _ (h.locks _ (List.mem_singleton_self _) hb)
    · refine k.locks m hm ?_
      rw [hsame m hm, h.stowActive]
      exact hb
  · obtain ⟨h1, h2⟩ := h.still fun m hm => hb m (by rw [List.mem_singleton.mp hm]; exact List.mem_cons_self)
    obtain ⟨k1, k2⟩ := k.still fun m hm => by
      rw [hsame m hm, h.stowActive]
      exact hb m (List.mem_cons_of_mem _ hm)
    exact ⟨k1.trans h1, k2.trans h2⟩
  · have hu := h.room fun m hm => hroom m (by rw [List.mem_singleton.mp hm]; exact List.mem_cons_self)
    refine (k.room fun m hm => ?_).trans hu
    rw [hsame m hm]
    exact hroom m (List.mem_cons_of_mem _ hm)

theorem writeAll_wrote (hl : l.Nodup) (hfree : ∀ n ∈ l, (s.station n).unbarred) : Wrote l entry s (writeAll l entry s) := by
  induction l generalizing s with
  | nil => exact .nil entry s
  | cons n l ih =>
    obtain ⟨hn, hl⟩ := List.nodup_cons.mp hl
    have h : Wrote [n] entry s (writeActive n (entry n) s) := writeActive_wrote (hfree n List.mem_cons_self)
    refine h.cons (ih hl fun m hm => ?_) hn
    rw [(h.outside m fun hmn => hn (List.mem_singleton.mp hmn ▸ hm)).1]
    exact hfree m (List.mem_cons_of_mem _ hm)

end

end Sys2Proof.Machine
end

section
/-! SUPPORT. What a new active entry leaves of a record, in the words of the rules: where installed stands, where it is lost, where
it is gained (R3, R20, R73, R74, R97, R138). -/

namespace Sys2Proof.Machine

/-! ### Queues under an entry -/

theorem mapSetpoints_limitedTo (e : Envelope) (q : List StationEntry) :
    mapSetpoints (limitedTo e) q = q.map (·.within e) := by
  refine List.map_congr_left fun x _ => ?_
  cases x <;> rfl

theorem replaceSetpoints_eq (p : Setpoint → Bool) (stop : Setpoint) (q : List StationEntry) :
    replaceSetpoints p stop q = mapSetpoints (fun sp => if p sp then stop else sp) q := by
  refine List.map_congr_left fun x _ => ?_
  cases x with
  | setpoint sp =>
    change (if p sp = true then StationEntry.setpoint stop else .setpoint sp) = .setpoint (if p sp = true then stop else sp)
    split <;> rfl
  | heat | horn _ | pin _ | linkUp | lockReply _ | cabinetData _ => rfl

theorem mem_queuedSetpoints_mapSetpoints {f : Setpoint → Setpoint} {sp : Setpoint} {q : List StationEntry}
    (h : sp ∈ queuedSetpoints (mapSetpoints f q)) : ∃ x ∈ queuedSetpoints q, sp = f x := by
  rw [mem_queuedSetpoints, mapSetpoints, List.mem_map] at h
  obtain ⟨x, hx, hsp⟩ := h
  cases x with
  | setpoint y => exact ⟨y, mem_queuedSetpoints.mpr hx, (StationEntry.setpoint.inj hsp).symm⟩
  | heat | horn _ | pin _ | linkUp | lockReply _ | cabinetData _ => exact absurd hsp (by simp)

theorem underEnvelope_eq (e : Envelope) (st : Station) :
    st.underEnvelope e = { recordWithin e st with installed := isYes e.installed } := by
  unfold recordWithin
  rw [mapSetpoints_limitedTo]
  rfl

theorem underEnvelope_same {e : Envelope} {st : Station} (h : st.installed = isYes e.installed) :
    st.underEnvelope e = recordWithin e st := by
  rw [underEnvelope_eq, ← h]
  rfl

/-- A setpoint within an entry (R74). -/
def Setpoint.fits (e : Envelope) (sp : Setpoint) : Prop :=
  withinSoft e sp.azTarget sp.elTarget = true ∧ sp.azSpeed ≤ e.azRateMax ∧ sp.elSpeed ≤ e.elRateMax

theorem limitedTo_fits {e : Envelope} (h : e.ordered) (sp : Setpoint) : (limitedTo e sp).fits e :=
  ⟨withinSoft_clampInt h _ _, Nat.min_le_right _ _, Nat.min_le_right _ _⟩

theorem stopUnder_fits {e : Envelope} (h : e.ordered) (st : Station) : (st.stopUnder e).fits e :=
  ⟨withinSoft_clampInt h _ _, Nat.zero_le _, Nat.zero_le _⟩

/-- A record within an entry: its SETPOINTs and its grant (R74). -/
structure Station.fits (e : Envelope) (st : Station) : Prop where
  az : st.grant.azSpeed ≤ e.azRateMax
  el : st.grant.elSpeed ≤ e.elRateMax
  queue : ∀ sp ∈ queuedSetpoints st.queue, sp.fits e

theorem Station.fits.mapped {e : Envelope} {a b : Station} {f : Setpoint → Setpoint} (h : a.fits e) (hgrant : b.grant = noGrant)
    (hq : b.queue = mapSetpoints f a.queue) (hf : ∀ sp, sp.fits e → (f sp).fits e) : b.fits e := by
  refine ⟨by rw [hgrant]; exact Nat.zero_le _, by rw [hgrant]; exact Nat.zero_le _, fun sp hsp => ?_⟩
  rw [hq] at hsp
  obtain ⟨x, hx, rfl⟩ := mem_queuedSetpoints_mapSetpoints hsp
  exact hf x (h.queue x hx)

section
variable {stow : Bool} {e : Envelope} {st : Station}

theorem underEnvelope_fits (h : e.ordered) (st : Station) : (st.underEnvelope e).fits e := by
  rw [underEnvelope_eq]
  refine ⟨Nat.min_le_right _ _, Nat.min_le_right _ _, fun sp hsp => ?_⟩
  obtain ⟨x, -, rfl⟩ := mem_queuedSetpoints_mapSetpoints hsp
  exact limitedTo_fits h x

theorem joined_fits (h : e.ordered) (st : Station) : (st.joined stow e).fits e := by
  have hunder := underEnvelope_fits h st
  unfold Station.joined
  split
  · exact ⟨hunder.az, hunder.el, hunder.queue⟩
  · split
    · exact hunder.mapped rfl (replaceSetpoints_eq _ _ _) fun sp _ => stopUnder_fits h st
    · exact hunder
  · exact hunder

theorem rewritten_fits (h : e.ordered) (st : Station) : (st.rewritten stow e).fits e := by
  have hjoined := joined_fits (stow := stow) h st
  unfold Station.rewritten
  split
  · refine hjoined.mapped rfl (replaceSetpoints_eq _ _ _) fun sp hsp => ?_
    split
    · exact stopUnder_fits h st
    · exact hsp
  · exact hjoined

theorem joined_queueLaw (h : queueLaw st.queue) : queueLaw (st.joined stow e).queue := by
  have hunder : queueLaw (st.underEnvelope e).queue := h.map _ (StationEntry.within_kind e)
  unfold Station.joined
  split
  · exact hunder
  · split
    · exact hunder.replaceSetpoints _ _
    · exact hunder
  · exact hunder

theorem rewritten_queueLaw (h : queueLaw st.queue) : queueLaw (st.rewritten stow e).queue := by
  have hjoined : queueLaw (st.joined stow e).queue := joined_queueLaw h
  unfold Station.rewritten
  split
  · exact hjoined.replaceSetpoints _ _
  · exact hjoined

/-! ### Where installed stands -/

theorem begins_same (h : st.installed = isYes e.installed) : st.begins stow e = false := by
  rw [Station.begins, rewritten_same h, underEnvelope_same h, Station.starts]
  change (!eligible st && eligible st) = false
  cases eligible st <;> rfl

theorem written_same {node : Byte} {timer : Timer} (h : st.installed = isYes e.installed) :
    st.written node timer stow e = recordWithin e st := by
  rw [Station.written, begins_same h, if_neg (by simp), rewritten_same h, underEnvelope_same h]

/-! ### Where installed is lost (R3) -/

theorem begins_lost (hnow : isYes e.installed = false) : st.begins stow e = false := by
  have h : eligible (st.rewritten stow e) = false := by
    rw [eligible, rewritten_installed, hnow]
    rfl
  rw [Station.begins, Station.starts, h, Bool.and_false]

/-- An uninstalled record (R3). -/
def Station.gone (e : Envelope) (st : Station) : Station :=
  { recordWithin e st with installed := false, progress := .none, warnTimer := none, stowTimeout := none }

theorem written_lost {node : Byte} {timer : Timer} (hwas : st.installed = true) (hnow : isYes e.installed = false) :
    st.written node timer stow e =
      if (authorityOf stow st).permitting then
        { st.gone e with
          demand := noDemand
          grant := noGrant
          freshness := none
          stale := false
          queue := mapSetpoints (fun sp => if sp.moving then st.stopUnder e else sp) (recordWithin e st).queue }
      else st.gone e := by
  have hjoined : st.joined stow e = st.gone e := by
    unfold Station.joined
    rw [hwas, hnow, underEnvelope_eq, hnow]
    rfl
  have hturns : st.turns stow e = (authorityOf stow st).permitting := by
    rw [Station.turns, hwas, hnow]
    rfl
  rw [Station.written, begins_lost hnow, if_neg (by simp), Station.rewritten, hturns, hjoined]
  unfold Station.revoked
  rw [replaceSetpoints_eq]
  rfl

/-! ### Where installed is gained (R3, R97, R138) -/

theorem rewritten_gained (hwas : st.installed = false) (hnow : isYes e.installed = true) :
    st.rewritten stow e = if stow then activateStation (st.stopUnder e) (st.underEnvelope e) else st.underEnvelope e := by
  have hturns : st.turns stow e = false := by
    rw [Station.turns, hwas]
    rfl
  rw [Station.rewritten, hturns, if_neg (by simp), Station.joined, hwas, hnow]

theorem begins_gained (hfree : st.unbarred) (hwas : st.installed = false) (hnow : isYes e.installed = true) :
    st.begins stow e = (st.link.isUp && st.lockReportSeen) := by
  have hbelow := rewritten_below stow e st
  have hzero : driveCount st = 0 := by
    rw [driveCount, hfree.holders]
    rfl
  rw [Station.begins, Station.starts, eligible, eligible, rewritten_installed, hwas, hnow, hbelow.link, hbelow.lockReportSeen,
    hbelow.driveCount, hzero]
  cases st.link.isUp <;> cases st.lockReportSeen <;> rfl

/-- An installed record, but for its clearing and its queue (R3, R138). -/
theorem rewritten_progress (hwas : st.installed = false) (hnow : isYes e.installed = true) (hstow : stow = true) :
    (st.rewritten stow e).progress = .pending ∧ (st.rewritten stow e).demand = noDemand ∧ (st.rewritten stow e).grant = noGrant
      ∧ (st.rewritten stow e).freshness = none ∧ (st.rewritten stow e).stale = false
      ∧ (st.rewritten stow e).queue = mapSetpoints (fun _ => st.stopUnder e) (recordWithin e st).queue := by
  rw [rewritten_gained hwas hnow, if_pos hstow]
  have hinst : (st.underEnvelope e).installed = true := hnow
  refine ⟨?_, rfl, rfl, rfl, rfl, ?_⟩
  · change (if (st.underEnvelope e).installed = true then StowProgress.pending else .none) = .pending
    rw [if_pos hinst]
  · change replaceSetpoints (fun _ => true) (st.stopUnder e) (st.underEnvelope e).queue = _
    rw [replaceSetpoints_eq, underEnvelope_eq]
    rfl

theorem rewritten_calm (hwas : st.installed = false) (hnow : isYes e.installed = true) (hstow : stow = false) :
    st.rewritten stow e = { recordWithin e st with installed := true } := by
  rw [rewritten_gained hwas hnow, if_neg (by rw [hstow]; simp), underEnvelope_eq, hnow]

end

/-! ### The HORN that a clearing offers (R97) -/

theorem Station.departs_same (node : Byte) (st : Station) : SameBody st (st.departs node) := by
  unfold Station.departs
  split
  · next x rest _ _ _ =>
    have hqueue : SameBody st { st with queue := rest } := by
      constructor <;> first | rfl | exact fun _ => rfl
    exact hqueue.trans (Station.sends_same node x _)
  · exact .refl st

theorem Station.takes_same (node : Byte) (x : StationEntry) (st : Station) : SameBody st (st.takes node x) := by
  unfold Station.takes
  split
  · have hqueue : SameBody st { st with queue := admitted st.queue x } := by
      constructor <;> first | rfl | exact fun _ => rfl
    exact hqueue.trans (Station.departs_same node _)
  · exact .refl st

theorem filter_map_replaced (x : StationEntry) (q : List StationEntry) :
    (q.map fun y => if y.kind = x.kind then x else y).filter (fun e => e.kind ≠ x.kind) = q.filter fun e => e.kind ≠ x.kind := by
  induction q with
  | nil => rfl
  | cons y q ih =>
    by_cases hy : y.kind = x.kind
    · simpa [hy] using ih
    · simpa [hy] using ih

theorem admitted_others {q : List StationEntry} {x : StationEntry} (hroom : q.length ≤ 7) :
    (admitted q x).filter (fun e => e.kind ≠ x.kind) = q.filter fun e => e.kind ≠ x.kind := by
  unfold admitted
  split
  · exact filter_map_replaced x q
  · rw [if_pos (by rw [Config.stationQueueSize]; omega), List.filter_append]
    simp

/-! ### The station at the end of the event -/

/-- Station `n`, which let it in, has taken the entry `e` in an event from `s` to `t`. -/
structure Entered (n : StationId) (e : Envelope) (s t : State) : Prop where
  own : t.station n = (s.station n).written s.nodeAddress ⟨s.now, s.settings.timing.clearDelay⟩ s.stowActive e
  envelope : t.envelope n = e
  stow : t.stowActive = s.stowActive
  free : (s.station n).unbarred

section
variable {n : StationId} {e : Envelope} {s t : State}

theorem Entered.stop (h : Entered n e s t) (htel : (t.station n).lastTelemetry = (s.station n).lastTelemetry)
    (hsent : (t.station n).lastSent = (s.station n).lastSent) : t.stopSetpoint n = (s.station n).stopUnder e := by
  rw [State.stopSetpoint_eq, h.envelope]
  unfold Station.stopUnder stopTargets
  rw [htel, hsent]

theorem Entered.same (h : Entered n e s t) (hsame : (s.station n).installed = isYes e.installed) :
    t.station n = recordWithin e (s.station n) := h.own.trans (written_same hsame)

theorem Entered.authority_same (h : Entered n e s t) (hsame : (s.station n).installed = isYes e.installed) :
    t.authority n = s.authority n := by
  unfold State.authority
  rw [h.same hsame, h.stow]
  rfl

theorem Entered.lost (h : Entered n e s t) (hwas : (s.station n).installed = true) (hnow : isYes e.installed = false) :
    s.uninstalls t n := by
  have hst := h.own.trans (written_lost hwas hnow)
  have hperm : (authorityOf s.stowActive (s.station n)).permitting = (s.authority n).permitting := rfl
  rw [hperm] at hst
  have hstop : t.stopSetpoint n = (s.station n).stopUnder e := by
    refine h.stop ?_ ?_ <;> rw [hst] <;> split <;> rfl
  unfold State.uninstalls
  simp only
  rw [h.envelope, hstop]
  refine ⟨fun hp => ?_, fun hp => ?_⟩
  · rw [hst, hp, if_neg (by simp)]
    rfl
  · rw [hst, hp, if_pos rfl]
    rfl

/-- What every new active entry leaves (R73, R74). -/
theorem Entered.within (h : Entered n e s t) (ho : e.ordered) :
    (t.station n).installed = isYes e.installed ∧ (t.station n).fits e := by
  have hfits := rewritten_fits (stow := s.stowActive) ho (s.station n)
  have hinst := rewritten_installed s.stowActive e (s.station n)
  rw [h.own, Station.written]
  split
  · have htakes := Station.takes_same s.nodeAddress (.horn true)
      { (s.station n).rewritten s.stowActive e with clearing := some ⟨s.now, s.settings.timing.clearDelay⟩ }
    refine ⟨htakes.installed.trans hinst, ?_, ?_, fun sp hsp => ?_⟩
    · rw [htakes.grant]
      exact hfits.az
    · rw [htakes.grant]
      exact hfits.el
    · rw [mem_queuedSetpoints] at hsp
      rcases Station.mem_takes_queue hsp with hq | hq
      · exact hfits.queue sp (mem_queuedSetpoints.mpr hq)
      · exact absurd hq (by simp)
  · exact ⟨hinst, hfits⟩

/-! ### A station that is installed -/

/-- What the HORN of a clearing leaves of an installed record. -/
theorem Entered.gained_body (h : Entered n e s t) :
    SameBody { (s.station n).rewritten s.stowActive e with clearing := (t.station n).clearing } (t.station n) := by
  rw [h.own, Station.written]
  split
  · have htakes := Station.takes_same s.nodeAddress (.horn true)
      { (s.station n).rewritten s.stowActive e with clearing := some ⟨s.now, s.settings.timing.clearDelay⟩ }
    rw [htakes.clearing]
    exact htakes
  · exact .refl _

theorem Station.takes_port {node : Byte} {x : StationEntry} {st : Station} (htx : st.tx.isSome = true) :
    (st.takes node x).lastSent = st.lastSent
      ∧ ((st.takes node x).queue = st.queue ∨ (st.takes node x).queue = admitted st.queue x) := by
  cases hup : st.link.isUp with
  | true =>
    rw [Station.takes_sending hup htx]
    exact ⟨rfl, .inr rfl⟩
  | false =>
    rw [Station.takes_down hup]
    exact ⟨rfl, .inl rfl⟩

theorem Entered.gained_queue (h : Entered n e s t) (htx : (s.station n).tx.isSome = true) :
    (t.station n).lastSent = (s.station n).lastSent
      ∧ ((t.station n).queue = ((s.station n).rewritten s.stowActive e).queue
        ∨ (t.station n).queue = admitted ((s.station n).rewritten s.stowActive e).queue (.horn true)) := by
  have hbelow := rewritten_below s.stowActive e (s.station n)
  rw [h.own, Station.written]
  split
  · obtain ⟨hsent, hqueue⟩ := Station.takes_port (node := s.nodeAddress) (x := .horn true)
      (st := { (s.station n).rewritten s.stowActive e with clearing := some ⟨s.now, s.settings.timing.clearDelay⟩ })
      (by rw [← hbelow.tx] at htx; exact htx)
    exact ⟨hsent.trans hbelow.lastSent, hqueue⟩
  · exact ⟨hbelow.lastSent, .inl rfl⟩

theorem Entered.gained_stop (h : Entered n e s t) (htx : (s.station n).tx.isSome = true) :
    t.stopSetpoint n = (s.station n).stopUnder e :=
  h.stop (h.gained_body.lastTelemetry.trans (rewritten_below _ _ _).lastTelemetry) (h.gained_queue htx).1

theorem Entered.gained_setpoints (h : Entered n e s t) (htx : (s.station n).tx.isSome = true) :
    queuedSetpoints (t.station n).queue = queuedSetpoints ((s.station n).rewritten s.stowActive e).queue := by
  rcases (h.gained_queue htx).2 with hq | hq
  · rw [hq]
  · rw [hq, queuedSetpoints_admitted (by simp)]

theorem Entered.gained_others (h : Entered n e s t) (htx : (s.station n).tx.isSome = true)
    (hroom : ((s.station n).rewritten s.stowActive e).queue.length ≤ 7) :
    (t.station n).queue.filter (fun x => x.kind ≠ .horn)
      = ((s.station n).rewritten s.stowActive e).queue.filter fun x => x.kind ≠ .horn := by
  rcases (h.gained_queue htx).2 with hq | hq
  · rw [hq]
  · rw [hq]
    exact admitted_others (x := .horn true) hroom

theorem Entered.gained (h : Entered n e s t) (hwas : (s.station n).installed = false) (hnow : isYes e.installed = true) :
    s.installs t n := by
  have hbody := h.gained_body
  have hset := fun htx => h.gained_setpoints htx
  have hothers := fun htx => h.gained_others htx
  have hstop := fun htx => h.gained_stop htx
  have hlen : ((s.station n).rewritten s.stowActive e).queue.length = (recordWithin e (s.station n)).queue.length :=
    (rewritten_below s.stowActive e (s.station n)).length.trans (List.length_map _).symm
  unfold State.installs
  simp only
  rw [h.envelope]
  cases hstow : s.stowActive with
  | true =>
    rw [hstow] at hbody hset hothers hlen
    obtain ⟨hprogress, -, -, -, -, hqueue⟩ := rewritten_progress (stow := true) hwas hnow rfl
    rw [if_pos rfl]
    refine ⟨SameBody.sameButPort (SameBody.trans ?_ hbody), fun htx => ?_⟩
    · rw [rewritten_gained hwas hnow, if_pos rfl] at hprogress ⊢
      constructor
      case installed => exact hnow
      case progress => exact hprogress
      all_goals first | rfl | exact fun _ => rfl
    · rw [hstop htx]
      change queuedSetpoints (t.station n).queue = queuedSetpoints (mapSetpoints _ (recordWithin e (s.station n)).queue)
        ∧ (_ → _ = (mapSetpoints _ (recordWithin e (s.station n)).queue).filter fun x => x.kind ≠ .horn)
      rw [← hqueue]
      exact ⟨hset htx, fun hroom => hothers htx (by rw [hlen]; exact hroom)⟩
  | false =>
    rw [hstow, rewritten_calm hwas hnow rfl] at hbody hset hothers hlen
    rw [if_neg (by simp)]
    exact ⟨SameBody.sameButPort hbody, fun htx => ⟨hset htx, fun hroom => hothers htx hroom⟩⟩

end

end Sys2Proof.Machine
end

section
/-! SUPPORT. Requests that put new active entries in place: what they leave at each station, and at the end of the event (R18, R20,
R73, R77, R87, R97, R138, R179). -/

namespace Sys2Proof.Machine

/-! ### The station -/

section
variable {n : StationId} {e : Envelope} {s t : State}

theorem authorityOf_held {stow : Bool} {st : Station} (hinst : st.installed = true)
    (h : st.link.isUp = false ∨ st.lockReportSeen = false) : authorityOf stow st = .held := by
  unfold authorityOf
  rw [hinst]
  rcases h with h | h <;> simp [h]

/-- A station that an entry installs while its cabinet is there starts clearing (R97). -/
theorem Entered.clears (h : Entered n e s t) (hwas : (s.station n).installed = false) (hnow : isYes e.installed = true)
    (hup : (s.station n).link.isUp = true) (hseen : (s.station n).lockReportSeen = true) :
    (t.station n).clearing = some ⟨s.now, s.settings.timing.clearDelay⟩ ∧ t.authority n = .clearing
      ∧ s.offered t n (.horn true) := by
  have hbegins : (s.station n).begins s.stowActive e = true := by
    rw [begins_gained h.free hwas hnow, hup, hseen]
    rfl
  have hbelow := rewritten_below s.stowActive e (s.station n)
  have hown := h.own
  rw [Station.written, if_pos hbegins] at hown
  have htakes := Station.takes_same s.nodeAddress (.horn true)
    { (s.station n).rewritten s.stowActive e with clearing := some ⟨s.now, s.settings.timing.clearDelay⟩ }
  rw [← hown] at htakes
  have hclear := htakes.clearing
  refine ⟨hclear, authorityOf_clearing ?_ (by rw [hclear]; rfl), fun hqueues hqueueing => ?_⟩
  · rw [htakes.eligible]
    exact (Station.starts_iff.mp hbegins).2
  · obtain ⟨-, htx⟩ := hqueueing
    have hup' : ((s.station n).rewritten s.stowActive e).link.isUp = true := by
      rw [hbelow.link]
      exact hup
    have htx' : ((s.station n).rewritten s.stowActive e).tx.isSome = true := by
      rw [hbelow.tx]
      exact htx
    have hlaw : queueLaw ((s.station n).rewritten s.stowActive e).queue := rewritten_queueLaw (hqueues n).1
    rw [hown, Station.takes_sending (st := { (s.station n).rewritten s.stowActive e with
      clearing := some ⟨s.now, s.settings.timing.clearDelay⟩ }) hup' htx']
    exact mem_admitted_self hlaw rfl

/-- A station that an entry installs while its cabinet is not there is held. -/
theorem Entered.held (h : Entered n e s t) (hnow : isYes e.installed = true)
    (haway : (s.station n).link.isUp = false ∨ (s.station n).lockReportSeen = false) : t.authority n = .held := by
  have hbelow := rewritten_below s.stowActive e (s.station n)
  have hbody := h.gained_body
  refine authorityOf_held ((hbody.installed.trans (rewritten_installed _ _ _)).trans hnow) ?_
  rw [hbody.link, hbody.lockReportSeen]
  exact haway.imp (fun hu => hbelow.link ▸ hu) fun hs => hbelow.lockReportSeen ▸ hs

/-- A station that an entry installs under active stow is PENDING (R138). -/
theorem Entered.pending (h : Entered n e s t) (hwas : (s.station n).installed = false) (hnow : isYes e.installed = true)
    (hstow : s.stowActive = true) :
    (t.station n).progress = .pending ∧ (t.station n).demand = noDemand ∧ (t.station n).grant = noGrant
      ∧ (t.station n).freshness = none ∧ (t.station n).stale = false
      ∧ ((s.station n).tx.isSome = true → ∀ sp ∈ queuedSetpoints (t.station n).queue, sp = t.stopSetpoint n) := by
  obtain ⟨h1, h2, h3, h4, h5, h6⟩ := rewritten_progress (st := s.station n) hwas hnow hstow
  have hbody := h.gained_body
  refine ⟨hbody.progress.trans h1, hbody.demand.trans h2, hbody.grant.trans h3, hbody.freshness.trans h4, hbody.stale.trans h5,
    fun htx sp hsp => ?_⟩
  rw [h.gained_setpoints htx, h6] at hsp
  obtain ⟨-, -, rfl⟩ := mem_queuedSetpoints_mapSetpoints hsp
  exact (h.gained_stop htx).symm

/-- A station that an entry uninstalls (R3, R20). -/
theorem Entered.leaves (h : Entered n e s t) (hwas : (s.station n).installed = true) (hnow : isYes e.installed = false) :
    t.authority n = .absent ∧ (t.station n).progress = .none ∧ (t.station n).stowTimeout = none
      ∧ ((s.authority n).permitting = true →
          (t.station n).demand = noDemand ∧ (t.station n).grant = noGrant
            ∧ (t.station n).freshness = none ∧ (t.station n).stale = false
            ∧ ∀ sp ∈ queuedSetpoints (t.station n).queue, sp.moving = false) := by
  obtain ⟨hother, hperm⟩ := h.lost hwas hnow
  have hfields : (t.station n).installed = false ∧ (t.station n).progress = .none ∧ (t.station n).stowTimeout = none := by
    cases hp : (s.authority n).permitting with
    | true => rw [hperm hp]; exact ⟨rfl, rfl, rfl⟩
    | false => rw [hother hp]; exact ⟨rfl, rfl, rfl⟩
  obtain ⟨hinst, hprogress, htimeout⟩ := hfields
  refine ⟨authorityOf_absent hinst, hprogress, htimeout, fun hp => ?_⟩
  have hst := hperm hp
  refine ⟨by rw [hst], by rw [hst], by rw [hst], by rw [hst], fun sp hsp => ?_⟩
  rw [hst] at hsp
  obtain ⟨x, -, rfl⟩ := mem_queuedSetpoints_mapSetpoints hsp
  cases hx : x.moving with
  | true => rfl
  | false => exact hx

/-- No new active entry reaches the holders, the latch or the telemetry, and where it starts no clearing, that stands. -/
theorem Entered.below (h : Entered n e s t) :
    (t.station n).holders = (s.station n).holders ∧ (t.station n).faultLatch = (s.station n).faultLatch
      ∧ (t.station n).lastTelemetry = (s.station n).lastTelemetry
      ∧ ((s.station n).begins s.stowActive e = false → (t.station n).clearing = (s.station n).clearing) := by
  have hbody := h.gained_body
  have hbelow := rewritten_below s.stowActive e (s.station n)
  refine ⟨hbody.holders.trans hbelow.holders, hbody.faultLatch.trans hbelow.faultLatch,
    hbody.lastTelemetry.trans hbelow.lastTelemetry, fun hb => ?_⟩
  rw [h.own, Station.written, hb, if_neg (by simp)]
  exact hbelow.clearing

theorem written_zone_state (node : Byte) (timer : Timer) (stow : Bool) (e : Envelope) (st : Station) (z : ZoneNum) :
    ((st.written node timer stow e).zones.get z).state = (st.zones.get z).state := by
  have hzones := (rewritten_below stow e st).zones
  unfold Station.written
  split
  · refine ((Station.takes_same node _ _).zone_state z).trans ?_
    change (((st.rewritten stow e).zones.get z).state) = _
    rw [hzones]
  · rw [hzones]

end

/-! ### The end of the event -/

/-- The answer DONE of a request that has put new active entries in place and left `x` ends in `t`. -/
structure EntriesDone (s x t : State) (tag code : Byte) (contents : List Byte) : Prop where
  stations : t.stations = x.stations
  settings : t.settings = x.settings
  wind : t.wind = x.wind
  shadow : t.shadow = x.shadow
  faults : t.faults = x.faults
  attention : t.attention = (examine x).attention
  calm : x.attention = s.attention → s.restLaw → t.attention = s.attention
  outside : ({ x with responder := none } : State).sameButStations t
  answered : s.answered t (.mgmtResp tag code .done contents)

theorem entriesDone_of {s x : State} {tag code : Byte} {contents : List Byte} (hroom : s.upstreamShort = false)
    (hq : x.upQueue = s.upQueue) (htx : x.upTx = s.upTx) (hl : x.attention.latched = s.attention.latched)
    (hstow : x.stowActive = s.stowActive) (hmask : ∀ n, x.onMask n = s.onMask n) :
    EntriesDone s x (respond tag code s (done contents x)) tag code contents := by
  have hframe := respond_quiet_frame tag code s (done contents x) hstow hmask
  have hatt : (respond tag code s (done contents x)).attention = (examine x).attention := by
    rw [respond_quiet tag code s (done contents x) hstow hmask]
    exact examine_attention_congr (offerUp_attention _ _)
  have hanswered := respond_answered (tag := tag) (code := code) (a := done contents x) hroom hq htx hl hstow
  have hcalm : x.attention = s.attention → s.restLaw → (respond tag code s (done contents x)).attention = s.attention :=
    fun hx hr => (respond_quiet_attention tag code s (done contents x) hstow hmask (by
      change x.attention.latched = none → x.attention.raised = noAttention
      rw [hx]
      exact hr.1)).trans hx
  generalize respond tag code s (done contents x) = t at *
  refine ⟨?_, ?_, ?_, ?_, ?_, hatt, hcalm, ?_, hanswered⟩
  all_goals (rw [hframe]; rfl)

section
variable {l : List StationId} {entry : StationId → Envelope} {s s1 x t : State} {tag code : Byte} {contents : List Byte}

theorem Wrote.onMask (h : Wrote l entry s x) (n : StationId) : x.onMask n = s.onMask n := by
  refine onMask_congr fun z => ?_
  unfold State.zone
  by_cases hn : n ∈ l
  · rw [h.inside n hn]
    exact written_zone_state _ _ _ _ _ z
  · rw [(h.outside n hn).1]

/-- A request that has put new active entries in place is answered (R39, R182). -/
theorem Wrote.done (h : Wrote l entry s x) (hroom : s1.upstreamShort = false) (hs : s.stations = s1.stations)
    (hwind : s.wind = s1.wind) (hq : s.upQueue = s1.upQueue) (htx : s.upTx = s1.upTx) (hatt : s.attention = s1.attention) :
    EntriesDone s1 x (respond tag code s1 (Machine.done contents x)) tag code contents := by
  refine entriesDone_of hroom (h.only.upQueue.trans hq) (h.only.upTx.trans htx) (h.latched.trans (by rw [hatt]))
    (h.stowActive.trans (stowActive_of_wind hwind)) fun n => (h.onMask n).trans ?_
  rw [State.onMask_eq, State.onMask_eq, State.station_congr hs n]

theorem Wrote.entered_at (h : Wrote l entry s x) (d : EntriesDone s1 x t tag code contents) (hs : s1.stations = s.stations)
    (hnow : s1.now = s.now) (htiming : s1.settings = s.settings) (hnode : s1.nodeAddress = s.nodeAddress)
    (hwind : s1.wind = s.wind) {n : StationId} (hn : n ∈ l) (hfree : (s1.station n).unbarred) :
    Entered n (entry n) s1 t := by
  have hst : s1.station n = s.station n := State.station_congr hs n
  refine ⟨?_, ?_, ?_, hfree⟩
  · rw [State.station_congr d.stations n, h.inside n hn, hst, hnow, htiming, hnode, stowActive_of_wind hwind]
  · rw [← h.entered n hn]
    unfold State.envelope
    rw [d.settings]
  · rw [stowActive_of_wind d.wind, h.stowActive, stowActive_of_wind hwind]

/-- Nothing else has changed but the active entries and the station records, as after any request. -/
theorem Wrote.sameButStations (h : Wrote l entry s x) (d : EntriesDone s1 x t tag code contents) :
    ({ s with settings := { s.settings with active := t.settings.active }, responder := none } : State).sameButStations t := by
  obtain ⟨h1, h2, h3, h4, -, h6, h7, h8, h9, h10, h11, h12, h13, h14, h15, -, -, h18, h19⟩ := h.only
  refine Eq.trans d.outside ?_
  rw [d.settings]
  generalize x.settings.active = active at h6 ⊢
  cases x
  cases s
  simp only at h1 h2 h3 h4 h6 h7 h8 h9 h10 h11 h12 h13 h14 h15 h18 h19 ⊢
  subst h1 h2 h3 h4 h6 h7 h8 h9 h10 h11 h12 h13 h14 h15 h18 h19
  rfl

end

end Sys2Proof.Machine
end

section
/-! SUPPORT. ENVELOPE_CLEAR_ALL and LOCKDOWN_SET (O54): the default entry for every station (R77, R78). -/

namespace Sys2Proof.Machine

/-! ### What bars the request (R77) -/

theorem clearBar_eq (s : State) (n : StationId) : s.clearBar n
    = if s.authority n = .held ∨ (s.station n).holders ≠ [] then 1
      else if (s.station n).progress = .warning ∨ (s.station n).progress = .moving then 2 else 0 := rfl

theorem clearBar_eq_zero {s : State} {n : StationId} :
    s.clearBar n = 0 ↔ ¬(s.authority n = .held ∨ (s.station n).holders ≠ [] ∨ (s.station n).progress = .warning
      ∨ (s.station n).progress = .moving) := by
  rw [clearBar_eq]
  split
  · next h => exact ⟨fun h => absurd h (by simp), fun hnot => absurd (h.imp id Or.inl) hnot⟩
  · next h =>
    obtain ⟨h1, h2⟩ := not_or.mp h
    split
    · next hm => exact ⟨fun h => absurd h (by simp), fun hnot => absurd (.inr (.inr hm)) hnot⟩
    · next hm =>
      refine ⟨fun _ => ?_, fun _ => rfl⟩
      rintro (ha | hb | hc)
      · exact h1 ha
      · exact h2 hb
      · exact hm hc

theorem clearBar_any {s : State} : (stationIds.any fun n => s.clearBar n != 0) = true ↔
    ∃ n, s.authority n = .held ∨ (s.station n).holders ≠ [] ∨ (s.station n).progress = .warning
      ∨ (s.station n).progress = .moving := by
  rw [List.any_eq_true]
  refine ⟨fun ⟨n, _, hn⟩ => ⟨n, ?_⟩, fun ⟨n, hn⟩ => ⟨n, mem_stationIds n, ?_⟩⟩
  · by_contra hnot
    rw [clearBar_eq_zero.mpr hnot] at hn
    exact absurd hn (by simp)
  · rw [bne_iff_ne]
    exact fun hzero => clearBar_eq_zero.mp hzero hn

theorem clearBar_contents (s : State) : (stationIds.flatMap fun n => encU8 (s.clearBar n))
    = stationIds.map fun n => if s.authority n = .held ∨ (s.station n).holders ≠ [] then 1
      else if (s.station n).progress = .warning ∨ (s.station n).progress = .moving then 2 else 0 := by
  rw [List.map_eq_flatMap]
  refine congrArg (stationIds.flatMap ·) (funext fun n => ?_)
  rw [clearBar_eq]
  split
  · rfl
  · split <;> rfl

/-! ### The request done (R77) -/

theorem clearEnvelopes_eq (s : State) : clearEnvelopes s
    = writeAll stationIds (fun _ => defaultEnvelope) { s with shadow := Tab.fill 8 defaultEnvelope } := rfl

theorem defaultEnvelope_uninstalled : isYes defaultEnvelope.installed = false := rfl

/-- What ENVELOPE_CLEAR_ALL leaves at one station. -/
theorem cleared_station {n : StationId} {s t : State} (h : Entered n defaultEnvelope s t) :
    (t.station n).installed = false ∧ t.authority n = .absent
      ∧ ((s.station n).installed = true → s.uninstalls t n)
      ∧ ((s.station n).installed = false → t.station n = recordWithin defaultEnvelope (s.station n))
      ∧ ((s.station n).installed = true → (t.station n).progress = .none)
      ∧ (t.station n).holders = (s.station n).holders ∧ (t.station n).clearing = (s.station n).clearing
      ∧ (t.station n).faultLatch = (s.station n).faultLatch
      ∧ (t.station n).lastTelemetry = (s.station n).lastTelemetry := by
  have hinst := (h.within defaultEnvelope_ordered).1
  obtain ⟨h1, h2, h3, h4⟩ := h.below
  exact ⟨hinst, authorityOf_absent hinst, fun hwas => h.lost hwas defaultEnvelope_uninstalled, fun hwas => h.same hwas,
    fun hwas => (h.leaves hwas defaultEnvelope_uninstalled).2.1, h1, h4 (begins_lost defaultEnvelope_uninstalled), h2, h3⟩

theorem clearAll_done {tag : Byte} {s : State} (hroom : s.upstreamShort = false)
    (hfree : ∀ n, (s.station n).unbarred) :
    ∃ t, t = respond tag 0x07 s (done [] (clearEnvelopes { s with responder := some (tag, 0x07) }))
      ∧ s.answered t (.mgmtResp tag 0x07 .done [])
      ∧ ({ s with
          settings := { s.settings with active := t.settings.active }, shadow := t.shadow, responder := none }
            : State).sameButStations t
      ∧ t.faults = s.faults ∧ (s.restLaw → t.attention = s.attention)
      ∧ ∀ n, t.envelope n = defaultEnvelope ∧ t.shadow.get n = defaultEnvelope ∧ Entered n defaultEnvelope s t := by
  have h : Wrote stationIds (fun _ => defaultEnvelope)
      { s with responder := some (tag, 0x07), shadow := Tab.fill 8 defaultEnvelope }
      (clearEnvelopes { s with responder := some (tag, 0x07) }) := by
    rw [clearEnvelopes_eq]
    exact writeAll_wrote nodup_stationIds fun n _ => hfree n
  have d := h.done (s1 := s) (tag := tag) (code := 0x07) (contents := []) hroom rfl rfl rfl rfl rfl
  obtain ⟨hatt, hfaults⟩ := h.still fun n _ => begins_lost defaultEnvelope_uninstalled
  have hsame := h.sameButStations d
  have hshadow := d.shadow.trans h.only.shadow
  have hentered := fun n => h.entered_at d rfl rfl rfl rfl rfl (mem_stationIds n) (hfree n)
  generalize respond tag 0x07 s (done [] (clearEnvelopes { s with responder := some (tag, 0x07) })) = t at *
  refine ⟨t, rfl, d.answered, ?_, d.faults.trans hfaults, d.calm hatt, fun n => ⟨(hentered n).envelope, ?_, hentered n⟩⟩
  · rw [hshadow]
    exact hsame
  · rw [hshadow]
    exact Tab.get_fill _ _

/-! ### The obligation -/

theorem bare_nil (run : State → Answer) (s : State) : bare [] run s = run s := rfl

theorem lockdownSet_done {tag : Byte} {s : State} (hroom : s.upstreamShort = false) (hsave : s.store.state ≠ .saving) :
    ({ s with lockdown := true } : State).sameButPort (manage tag 0x08 (bare [] runLockdownSet) s)
      ∧ s.answered (manage tag 0x08 (bare [] runLockdownSet) s) (.mgmtResp tag 0x08 .done []) := by
  have hrun : bare [] runLockdownSet { s with responder := some (tag, 0x08) }
      = done [] { s with responder := some (tag, 0x08), lockdown := true } := if_neg hsave
  rw [manage_room tag 0x08 _ s hroom, hrun]
  refine ⟨⟨respond_quiet_frame tag 0x08 s _ rfl fun _ => rfl, fun hr => ?_⟩,
    respond_answered (a := done [] { s with responder := some (tag, 0x08), lockdown := true }) hroom rfl rfl rfl rfl⟩
  exact respond_quiet_attention tag 0x08 s _ rfl (fun _ => rfl) hr.1

/-- Settles O54: each station takes the default entry by itself, and no HORN is offered where nothing clears and no warning
runs. -/
theorem clearAllAndLockdown : Obligations.ClearAllAndLockdown := by
  intro tag s hroom
  dsimp only
  have hrefused := fun (c : RespCode) (contents : List Byte) (hrun : runEnvelopeClearAll
      { s with responder := some (tag, 0x07) } = ⟨{ s with responder := some (tag, 0x07) }, c, contents⟩) =>
    manage_same (tag := tag) (code := 0x07) hroom c contents ((bare_nil runEnvelopeClearAll _).trans hrun)
  refine ⟨⟨manage tag 0x07 (bare [] runEnvelopeClearAll) s, rfl, fun hlock => hrefused .lockedDown [] (if_pos hlock),
    fun hlock hsave => ?_, fun hlock hsave hbarred => ?_, fun hlock hsave hfree => ?_⟩,
    ⟨manage tag 0x08 (bare [] runLockdownSet) s, rfl, fun hsave => ?_, lockdownSet_done hroom⟩⟩
  · exact hrefused .busy [] ((if_neg (c := s.lockdown = true) (by simp [hlock])).trans (if_pos hsave))
  · refine hrefused .protectedStation _ ((if_neg (c := s.lockdown = true) (by simp [hlock])).trans ((if_neg hsave).trans
      ((if_pos (clearBar_any.mpr hbarred)).trans ?_)))
    rw [clearBar_contents]
    rfl
  · have hrun : bare [] runEnvelopeClearAll { s with responder := some (tag, 0x07) }
        = done [] (clearEnvelopes { s with responder := some (tag, 0x07) }) :=
      (if_neg (c := s.lockdown = true) (by simp [hlock])).trans ((if_neg hsave).trans (if_neg fun hany => hfree (clearBar_any.mp hany)))
    have hunbarred : ∀ n, (s.station n).unbarred := fun n =>
      ⟨by_contra fun h => hfree ⟨n, .inr (.inl h)⟩, fun h => hfree ⟨n, .inr (.inr (.inl h))⟩,
        fun h => hfree ⟨n, .inr (.inr (.inr h))⟩⟩
    obtain ⟨t, ht, hanswered, hsame, hfaults, hatt, hst⟩ := clearAll_done (tag := tag) hroom hunbarred
    rw [manage_room tag 0x07 _ s hroom, hrun, ← ht]
    exact ⟨hanswered, hsame, hfaults, hatt, fun n => ⟨(hst n).1, (hst n).2.1, cleared_station (hst n).2.2⟩⟩
  · exact manage_same (tag := tag) (code := 0x08) hroom .busy [] (if_pos hsave)

end Sys2Proof.Machine
end

section
/-! SUPPORT. ENVELOPE_APPLY (O53): the outcome of each station of the scope, and the entries of those that are APPLIED (R71 to
R75). -/

namespace Sys2Proof.Machine

/-! ### The outcomes (R72, R75) -/

/-- A station of which an apply takes the shadow entry (R72). -/
def State.applies (s : State) (n : StationId) : Prop :=
  ¬(s.authority n = .held ∨ (s.station n).holders ≠ [])
    ∧ ¬((s.station n).progress = .warning ∨ (s.station n).progress = .moving) ∧ envelopeFailing (s.shadow.get n) = none

theorem applyOutcome_eq (s : State) (n : StationId) : s.applyOutcome n =
    if s.authority n = .held ∨ (s.station n).holders ≠ [] then .protectedHold
    else if (s.station n).progress = .warning ∨ (s.station n).progress = .moving then .busy
    else match envelopeFailing (s.shadow.get n) with
      | some k => .invalid k
      | none => .applied := rfl

theorem applyOutcome_applied {s : State} {n : StationId} : s.applyOutcome n = .applied ↔ s.applies n := by
  rw [applyOutcome_eq]
  unfold State.applies
  split
  · next h => exact ⟨fun h => absurd h (by simp), fun hnot => absurd h hnot.1⟩
  · next h =>
    split
    · next hm => exact ⟨fun h => absurd h (by simp), fun hnot => absurd hm hnot.2.1⟩
    · next hm =>
      cases hf : envelopeFailing (s.shadow.get n) with
      | some k => exact ⟨fun h => absurd h (by simp), fun hnot => absurd hnot.2.2 (by simp)⟩
      | none => exact ⟨fun _ => ⟨h, hm, rfl⟩, fun _ => rfl⟩

theorem State.applies.unbarred {s : State} {n : StationId} (h : s.applies n) : (s.station n).unbarred := by
  obtain ⟨hguarded, hmoving, -⟩ := h
  obtain ⟨hw, hm⟩ := not_or.mp hmoving
  exact ⟨by_contra fun hh => hguarded (.inr hh), hw, hm⟩

theorem State.applies.ordered {s : State} {n : StationId} (h : s.applies n) : (s.shadow.get n).ordered :=
  ordered_of_envelopeFailing h.2.2

/-- An outcome rests on the station's record, the stow and the shadow. -/
theorem applyOutcome_congr {s t : State} {n : StationId} (hst : t.station n = s.station n) (hstow : t.stowActive = s.stowActive)
    (hshadow : t.shadow = s.shadow) : t.applyOutcome n = s.applyOutcome n := by
  rw [applyOutcome_eq, applyOutcome_eq, State.authority, State.authority, hst, hstow, hshadow]

/-- The applies of a scope are new entries for its APPLIED stations, each from the shadow as the request found it (R73). -/
theorem foldl_applyStation {l : List StationId} (hl : l.Nodup) (s : State) : l.foldl applyStation s
    = writeAll (l.filter fun n => decide (s.applyOutcome n = .applied)) s.shadow.get s := by
  induction l generalizing s with
  | nil => rfl
  | cons n l ih =>
    obtain ⟨hn, hl⟩ := List.nodup_cons.mp hl
    rw [List.foldl_cons, ih hl, List.filter_cons]
    by_cases h : s.applyOutcome n = .applied
    · have hfree := (applyOutcome_applied.mp h).unbarred
      have hwrote : Wrote [n] s.shadow.get s (writeActive n (s.shadow.get n) s) := writeActive_wrote hfree
      have hstep : applyStation s n = writeActive n (s.shadow.get n) s := if_pos h
      have hshadow : (writeActive n (s.shadow.get n) s).shadow = s.shadow := hwrote.only.shadow
      have hfilter : (l.filter fun m => decide ((writeActive n (s.shadow.get n) s).applyOutcome m = .applied))
          = l.filter fun m => decide (s.applyOutcome m = .applied) := by
        refine List.filter_congr fun m hm => ?_
        rw [applyOutcome_congr (hwrote.outside m fun hmn => hn (List.mem_singleton.mp hmn ▸ hm)).1 hwrote.stowActive hshadow]
      rw [hstep, hfilter, hshadow, if_pos (decide_eq_true h)]
      rfl
    · rw [show applyStation s n = s from if_neg h, if_neg (by simpa using h)]

/-! ### The response (R72, R75, R201) -/

theorem encOutcome_eq (s : State) (n : StationId) : encOutcome (s.applyOutcome n) =
    if s.authority n = .held ∨ (s.station n).holders ≠ [] then [0, 0]
    else if (s.station n).progress = .warning ∨ (s.station n).progress = .moving then [1, 0]
    else match envelopeFailing (s.shadow.get n) with
      | some check => [2, BitVec.ofNat 8 check]
      | none => [3, 0] := by
  rw [applyOutcome_eq]
  split
  · rfl
  · split
    · rfl
    · cases envelopeFailing (s.shadow.get n) <;> rfl

theorem performedCode_eq (s : State) (l : List StationId) : performedCode (l.map s.applyOutcome) =
    if (l.map s.applyOutcome).all (· == .applied) = true then 0
    else if (l.map s.applyOutcome).any (· == .applied) = true then 2 else 1 := rfl

theorem outcomes_all {s : State} {l : List StationId} :
    (l.map s.applyOutcome).all (· == .applied) = true ↔ ∀ n ∈ l, s.applies n := by
  simp only [List.all_map, List.all_eq_true, Function.comp_apply, beq_iff_eq, applyOutcome_applied]

theorem outcomes_any {s : State} {l : List StationId} :
    (l.map s.applyOutcome).any (· == .applied) = true ↔ ∃ n ∈ l, s.applies n := by
  simp only [List.any_map, List.any_eq_true, Function.comp_apply, beq_iff_eq, applyOutcome_applied]

/-! ### The request done (R73) -/

/-- The stations of an apply scope that take their shadow entries. -/
def appliedStations (first m : Nat) (s : State) : List StationId :=
  (applyScope first m).filter fun n => decide (s.applyOutcome n = .applied)

theorem mem_applyScope {first m : Nat} {n : StationId} : n ∈ applyScope first m ↔ first ≤ n.val ∧ n.val < first + 2 ^ m := by
  rw [applyScope, List.mem_filter, decide_eq_true_iff]
  exact ⟨fun h => h.2, fun h => ⟨mem_stationIds n, h⟩⟩

theorem mem_appliedStations {first m : Nat} {s : State} {n : StationId} :
    n ∈ appliedStations first m s ↔ (first ≤ n.val ∧ n.val < first + 2 ^ m) ∧ s.applies n := by
  rw [appliedStations, List.mem_filter, decide_eq_true_iff, mem_applyScope, applyOutcome_applied]

theorem nodup_applyScope (first m : Nat) : (applyScope first m).Nodup := .filter _ nodup_stationIds

/-- What ENVELOPE_APPLY leaves at a station that takes its shadow entry. -/
theorem applied_station {n : StationId} {s t : State} (happ : s.applies n) (h : Entered n (s.shadow.get n) s t)
    (hraises : (s.station n).begins s.stowActive (s.shadow.get n) = true → s.raises t .lockChange) :
    let was := s.station n
    (was.installed = isYes (s.shadow.get n).installed → t.station n = recordWithin (s.shadow.get n) was)
      ∧ (was.installed = true → isYes (s.shadow.get n).installed = false → s.uninstalls t n)
      ∧ (was.installed = false → isYes (s.shadow.get n).installed = true → s.installs t n)
      ∧ t.envelope n = s.shadow.get n
      ∧ (t.station n).installed = isYes (s.shadow.get n).installed
      ∧ (t.station n).grant.azSpeed ≤ (s.shadow.get n).azRateMax
      ∧ (t.station n).grant.elSpeed ≤ (s.shadow.get n).elRateMax
      ∧ (∀ sp ∈ queuedSetpoints (t.station n).queue,
          withinSoft (s.shadow.get n) sp.azTarget sp.elTarget = true
            ∧ sp.azSpeed ≤ (s.shadow.get n).azRateMax ∧ sp.elSpeed ≤ (s.shadow.get n).elRateMax)
      ∧ (was.installed = false → (t.station n).installed = true →
          (was.link.isUp = true → was.lockReportSeen = true →
            (t.station n).clearing = some ⟨s.now, s.settings.timing.clearDelay⟩ ∧ t.authority n = .clearing
              ∧ s.raises t .lockChange ∧ s.offered t n (.horn true))
          ∧ (was.link.isUp = false ∨ was.lockReportSeen = false → t.authority n = .held)
          ∧ (s.stowActive = true → (t.station n).progress = .pending
              ∧ (t.station n).demand = noDemand ∧ (t.station n).grant = noGrant
              ∧ (t.station n).freshness = none ∧ (t.station n).stale = false
              ∧ (was.tx.isSome = true →
                  ∀ sp ∈ queuedSetpoints (t.station n).queue, sp = t.stopSetpoint n)))
      ∧ (was.installed = true → (t.station n).installed = false →
          t.authority n = .absent ∧ (t.station n).progress = .none ∧ (t.station n).stowTimeout = none
            ∧ ((s.authority n).permitting = true →
                (t.station n).demand = noDemand ∧ (t.station n).grant = noGrant
                  ∧ (t.station n).freshness = none ∧ (t.station n).stale = false
                  ∧ ∀ sp ∈ queuedSetpoints (t.station n).queue, sp.moving = false))
      ∧ (was.installed = (t.station n).installed → (t.station n).progress = was.progress
          ∧ (t.station n).clearing = was.clearing ∧ t.authority n = s.authority n) := by
  obtain ⟨hinst, hfits⟩ := h.within happ.ordered
  refine ⟨h.same, h.lost, h.gained, h.envelope, hinst, hfits.az, hfits.el, hfits.queue, fun hwas hnow => ?_, fun hwas hnow => ?_,
    fun hsame => ?_⟩
  · rw [hinst] at hnow
    refine ⟨fun hup hseen => ?_, h.held hnow, h.pending hwas hnow⟩
    obtain ⟨h1, h2, h3⟩ := h.clears hwas hnow hup hseen
    exact ⟨h1, h2, hraises (by rw [begins_gained h.free hwas hnow, hup, hseen]; rfl), h3⟩
  · exact h.leaves hwas (hinst.symm.trans hnow)
  · have hst := h.same (hsame.trans hinst)
    exact ⟨by rw [hst]; rfl, by rw [hst]; rfl, h.authority_same (hsame.trans hinst)⟩

end Sys2Proof.Machine
end

section
/-! SUPPORT. ENVELOPE_APPLY (O53): the request as a whole, and the obligation (R71 to R75, R201). -/

namespace Sys2Proof.Machine

/-! ### The request as a whole -/

theorem begins_of_no_install {stow : Bool} {e : Envelope} {st : Station} (h : st.installed = true ∨ isYes e.installed = false) :
    st.begins stow e = false := by
  cases hnow : isYes e.installed with
  | false => exact begins_lost hnow
  | true => exact begins_same ((h.resolve_right (by rw [hnow]; simp)).trans hnow.symm)

/-- What an executed ENVELOPE_APPLY has done between `s` and `t`. -/
structure ApplyDone (tag : Byte) (first m : Nat) (s t : State) (contents : List Byte) : Prop where
  outside : ({ s with settings := { s.settings with active := t.settings.active }, responder := none } : State).sameButStations t
  inside : ∀ n, first ≤ n.val ∧ n.val < first + 2 ^ m → s.applies n → Entered n (s.shadow.get n) s t
    ∧ ((s.station n).begins s.stowActive (s.shadow.get n) = true → s.raises t .lockChange)
  others : ∀ n, ¬((first ≤ n.val ∧ n.val < first + 2 ^ m) ∧ s.applies n) →
    t.envelope n = s.envelope n ∧ t.station n = s.station n
  room : (∀ n, (s.station n).queue.length ≤ 7) → t.faults = s.faults
  still : (∀ n, first ≤ n.val ∧ n.val < first + 2 ^ m → s.applies n →
      (s.station n).installed = true ∨ isYes (s.shadow.get n).installed = false) →
    t.faults = s.faults ∧ (s.restLaw → t.attention = s.attention)
  answered : s.answered t (.mgmtResp tag 0x06 .done contents)

theorem applyDone_of {tag : Byte} {s : State} (first m : Nat) (contents : List Byte) (hroom : s.upstreamShort = false) :
    ApplyDone tag first m s (respond tag 0x06 s
      (done contents ((applyScope first m).foldl applyStation { s with responder := some (tag, 0x06) }))) contents := by
  have hmem := fun n => mem_appliedStations (first := first) (m := m) (s := s) (n := n)
  have h : Wrote (appliedStations first m s) s.shadow.get { s with responder := some (tag, 0x06) }
      ((applyScope first m).foldl applyStation { s with responder := some (tag, 0x06) }) := by
    rw [foldl_applyStation (nodup_applyScope first m)]
    exact writeAll_wrote ((nodup_applyScope first m).filter _) fun n hn => ((hmem n).mp hn).2.unbarred
  have d := h.done (s1 := s) (tag := tag) (code := 0x06) (contents := contents) hroom rfl rfl rfl rfl rfl
  refine { outside := h.sameButStations d, inside := fun n hscope happ => ⟨?_, fun hb => ?_⟩, others := fun n hn => ?_
           room := fun hq => d.faults.trans (h.room fun n _ => hq n), still := fun hno => ?_, answered := d.answered }
  · exact h.entered_at d rfl rfl rfl rfl rfl ((hmem n).mpr ⟨hscope, happ⟩) happ.unbarred
  · exact raises_of_pending h.latched (h.locks n ((hmem n).mpr ⟨hscope, happ⟩) hb) d.attention
  · obtain ⟨h1, h2⟩ := h.outside n fun hin => hn ((hmem n).mp hin)
    refine ⟨Eq.trans ?_ h2, (State.station_congr d.stations n).trans h1⟩
    unfold State.envelope
    rw [d.settings]
  · obtain ⟨hatt, hfaults⟩ := h.still fun n hn =>
      begins_of_no_install (hno n ((hmem n).mp hn).1 ((hmem n).mp hn).2)
    exact ⟨d.faults.trans hfaults, d.calm hatt⟩

/-! ### The response -/

theorem performedCode_scope (s : State) (l : List StationId) {P Q : Prop} [Decidable P] [Decidable Q]
    (hP : (∀ n ∈ l, s.applies n) ↔ P) (hQ : (∃ n ∈ l, s.applies n) ↔ Q) :
    performedCode (l.map s.applyOutcome) = if P then 0 else if Q then 2 else 1 := by
  rw [performedCode_eq]
  exact if_congr (outcomes_all.trans hP) rfl (if_congr (outcomes_any.trans hQ) rfl rfl)

theorem outcomes_flatMap (s : State) (l : List StationId) : (l.map s.applyOutcome).flatMap encOutcome
    = l.flatMap fun n =>
      if s.authority n = .held ∨ (s.station n).holders ≠ [] then [0, 0]
      else if (s.station n).progress = .warning ∨ (s.station n).progress = .moving then [1, 0]
      else match envelopeFailing (s.shadow.get n) with
        | some check => [2, BitVec.ofNat 8 check]
        | none => [3, 0] := by
  rw [List.flatMap_map]
  exact congrArg (l.flatMap ·) (funext fun n => encOutcome_eq s n)

/-- The execution of an apply that nothing refuses. -/
theorem runEnvelopeApply_done {first m : Byte} {s : State} (hscope : ¬(3 < m.toNat ∨ 7 < first.toNat ∨ first.toNat % 2 ^ m.toNat ≠ 0))
    (hlock : s.lockdown = false) (hsave : s.store.state ≠ .saving) : runEnvelopeApply [first, m] s =
      done ([first, m] ++ ((applyScope first.toNat m.toNat).map s.applyOutcome).flatMap encOutcome
          ++ [performedCode ((applyScope first.toNat m.toNat).map s.applyOutcome)])
        ((applyScope first.toNat m.toNat).foldl applyStation s) :=
  (if_neg hscope).trans ((if_neg (c := s.lockdown = true) (by simp [hlock])).trans (if_neg hsave))

/-- Settles O53: the applies of a scope are new entries for its APPLIED stations alone, and each of these is left by its own
entry. -/
theorem envelopeApply : Obligations.EnvelopeApply := by
  intro tag first m s hroom
  dsimp only
  have hrefused := fun (c : RespCode) (contents : List Byte) (hrun : runEnvelopeApply [first, m]
      { s with responder := some (tag, 0x06) } = ⟨{ s with responder := some (tag, 0x06) }, c, contents⟩) =>
    manage_same (tag := tag) (code := 0x06) hroom c contents hrun
  refine ⟨manage tag 0x06 (runEnvelopeApply [first, m]) s, rfl, fun hbad => hrefused .badScope [] (if_pos hbad),
    fun hgood hlock => hrefused .lockedDown [] ((if_neg hgood).trans (if_pos hlock)), fun hgood hlock hsave => ?_,
    fun hgood hlock hsave => ?_⟩
  · exact hrefused .busy [] ((if_neg hgood).trans ((if_neg (c := s.lockdown = true) (by simp [hlock])).trans (if_pos hsave)))
  · rw [manage_room tag 0x06 _ s hroom, runEnvelopeApply_done (s := { s with responder := some (tag, 0x06) }) hgood hlock hsave]
    have h := applyDone_of (tag := tag) (s := s) first.toNat m.toNat
      ([first, m] ++ ((applyScope first.toNat m.toNat).map s.applyOutcome).flatMap encOutcome
        ++ [performedCode ((applyScope first.toNat m.toNat).map s.applyOutcome)]) hroom
    refine ⟨h.outside, fun n hscope happ => applied_station happ (h.inside n hscope happ).1 (h.inside n hscope happ).2, h.others,
      h.room, h.still, Eq.mp (congrArg (fun c => s.answered _ (.mgmtResp tag 0x06 .done c)) ?_) h.answered⟩
    rw [outcomes_flatMap]
    refine congrArg (fun b => _ ++ [b]) (performedCode_scope s (applyScope first.toNat m.toNat)
      (forall_congr' fun n => imp_congr mem_applyScope Iff.rfl) (exists_congr fun n => and_congr mem_applyScope Iff.rfl))

end Sys2Proof.Machine
end

section
/-! SUPPORT. Admission to a station's queue, branch by branch (O20): what an admission leaves where it supersedes, where a place
is free, and in a full queue (R35 to R37). -/

namespace Sys2Proof.Machine

section
variable {q pre post : List StationEntry} {e x : StationEntry}

theorem any_kind_eq_false {k : EntryKind} (h : ∀ y ∈ q, y.kind ≠ k) : q.any (·.kind == k) = false :=
  List.any_eq_false.mpr fun y hy => by simpa using h y hy

theorem superseded_any (hsup : e.kind.superseding = true) (hx : x.kind = e.kind) :
    (e.kind.superseding && (pre ++ x :: post).any (·.kind == e.kind)) = true := by
  simp [hsup, hx]

/-- Where nothing waits that the entry supersedes, it needs a place of its own. -/
theorem superseded_eq_false (h : ∀ y ∈ q, e.kind.superseding = true → y.kind ≠ e.kind) :
    (e.kind.superseding && q.any (·.kind == e.kind)) = false := by
  cases hsup : e.kind.superseding with
  | false => rfl
  | true => exact any_kind_eq_false fun y hy => h y hy hsup

/-- A full queue has no place. -/
theorem not_room (hfull : 8 ≤ q.length) : ¬q.length < Config.stationQueueSize := Nat.not_lt.mpr hfull

/-! ### The queue left -/

/-- Supersession in place: nothing else of the queue changes (R35). -/
theorem admitted_superseding (hsup : e.kind.superseding = true) (hx : x.kind = e.kind)
    (hother : ∀ y ∈ pre ++ post, y.kind ≠ e.kind) : admitted (pre ++ x :: post) e = pre ++ e :: post := by
  have hkeep : ∀ l : List StationEntry, (∀ y ∈ l, y ∈ pre ++ post) → (l.map fun y => if y.kind = e.kind then e else y) = l :=
    fun l hl => (List.map_congr_left fun y hy => if_neg (hother y (hl y hy))).trans (List.map_id l)
  rw [admitted, if_pos (superseded_any hsup hx), List.map_append, List.map_cons, if_pos hx, hkeep pre (by simp +contextual),
    hkeep post (by simp +contextual)]

theorem admitted_of_room (h : ∀ y ∈ q, e.kind.superseding = true → y.kind ≠ e.kind) (hroom : q.length < 8) :
    admitted q e = q ++ [e] := by
  rw [admitted, if_neg (Bool.eq_false_iff.mp (superseded_eq_false h)), if_pos (show q.length < Config.stationQueueSize from hroom)]

/-- A full queue drops an entry that neither supersedes nor evicts (R37). -/
theorem admitted_dropped (hsup : e.kind.superseding = false) (hfull : 8 ≤ q.length) : admitted q e = q := by
  rw [admitted, if_neg (by simp [hsup]), if_neg (not_room hfull),
    if_neg (by simp [hsup])]

/-- The first entry of a kind leaves a queue. -/
theorem eraseP_kind_split (h : ∀ y ∈ pre, y.kind ≠ x.kind) : (pre ++ x :: post).eraseP (·.kind == x.kind) = pre ++ post := by
  rw [List.eraseP_append_right _ fun y hy => by simpa using h y hy, List.eraseP_cons_of_pos (by simp)]

/-- The eviction of the oldest CABINET_DATA (R36). -/
theorem admitted_evicts_cabinetData {f : CabinetFrame} (hsup : e.kind.superseding = true)
    (habsent : ∀ y ∈ pre ++ .cabinetData f :: post, y.kind ≠ e.kind) (hfull : 8 ≤ (pre ++ .cabinetData f :: post).length)
    (hfirst : ∀ y ∈ pre, y.kind ≠ .cabinetData) : admitted (pre ++ .cabinetData f :: post) e = pre ++ post ++ [e] := by
  rw [admitted, if_neg (Bool.eq_false_iff.mp (superseded_eq_false fun y hy _ => habsent y hy)),
    if_neg (not_room hfull), if_pos hsup, if_pos (by simp),
    ← kind_cabinetData f, eraseP_kind_split hfirst]

theorem oldestReply_split {r : LockReply} (h : ∀ y ∈ pre, y.kind ≠ .lockReply) :
    oldestReply (pre ++ .lockReply r :: post) = some r.badge := by
  induction pre with
  | nil => rfl
  | cons y pre ih =>
    have hrest := ih fun z hz => h z (List.mem_cons_of_mem y hz)
    cases y with
    | lockReply r' => exact absurd rfl (h _ List.mem_cons_self)
    | setpoint _ | heat | horn _ | pin _ | linkUp | cabinetData _ => exact hrest

/-- The eviction of the oldest LOCK_REPLY, where no CABINET_DATA waits (R36). -/
theorem admitted_evicts_lockReply {r : LockReply} (hsup : e.kind.superseding = true)
    (habsent : ∀ y ∈ pre ++ .lockReply r :: post, y.kind ≠ e.kind) (hfull : 8 ≤ (pre ++ .lockReply r :: post).length)
    (hfirst : ∀ y ∈ pre, y.kind ≠ .lockReply) (hcab : ∀ y ∈ pre ++ .lockReply r :: post, y.kind ≠ .cabinetData) :
    admitted (pre ++ .lockReply r :: post) e = pre ++ post ++ [e] := by
  rw [admitted, if_neg (Bool.eq_false_iff.mp (superseded_eq_false fun y hy _ => habsent y hy)),
    if_neg (not_room hfull), if_pos hsup,
    if_neg (Bool.eq_false_iff.mp (any_kind_eq_false hcab)), oldestReply_split hfirst, if_pos Option.isSome_some, ← kind_lockReply r,
    eraseP_kind_split hfirst]

/-! ### The LOCK_REPLY lost -/

theorem lostReply_superseding (hsup : e.kind.superseding = true) (hx : x.kind = e.kind) :
    lostReply (pre ++ x :: post) e = none := by
  exact if_pos (superseded_any hsup hx)

theorem lostReply_lockReply (r : LockReply) (hfull : 8 ≤ q.length) : lostReply q (.lockReply r) = some r.badge := by
  unfold lostReply
  rw [if_neg (by simp [EntryKind.superseding]), if_neg (not_room hfull)]

/-- A superseding entry that needs the place of another in a full queue loses a LOCK_REPLY where no CABINET_DATA waits. -/
theorem lostReply_evicting (hsup : e.kind.superseding = true) (habsent : ∀ y ∈ q, y.kind ≠ e.kind) (hfull : 8 ≤ q.length) :
    lostReply q e = if q.any (·.kind == .cabinetData) then none else oldestReply q := by
  unfold lostReply
  rw [if_neg (Bool.eq_false_iff.mp (superseded_eq_false fun y hy _ => habsent y hy)), if_neg (not_room hfull)]
  cases e with
  | lockReply _ | cabinetData _ => exact absurd hsup (by simp [EntryKind.superseding])
  | setpoint _ | heat | horn _ | pin _ | linkUp => rfl

end

/-! ### The admission to a station -/

theorem admitEntry_of {n : StationId} {e : StationEntry} {s : State} {q : List StationEntry} {lost : Option Badge}
    (hq : admitted (s.station n).queue e = q) (hl : lostReply (s.station n).queue e = lost) :
    admitEntry n e s = reportLost n lost (setQueue n q s) := by
  rw [admitEntry_eq, hq, hl]

/-- Settles O20: each clause is one branch of the admission, for the queue left and for the LOCK_REPLY lost. -/
theorem stationQueueAdmission : Obligations.StationQueueAdmission := by
  intro n e s
  refine ⟨fun pre x post hsup hq hx hother => ?_, fun habsent hroom => ?_, fun hfull => ⟨?_, ?_, fun hsup habsent => ⟨?_, ?_⟩⟩⟩
  · refine admitEntry_of (lost := none) ?_ ?_ <;> rw [hq]
    · exact admitted_superseding hsup hx hother
    · exact lostReply_superseding hsup hx
  · exact admitEntry_of (admitted_of_room habsent hroom) (lostReply_of_room hroom)
  · rintro f rfl
    exact (admitEntry_of (admitted_dropped rfl hfull) (lostReply_cabinetData _ f)).trans (setQueue_self n s)
  · rintro r rfl
    refine (admitEntry_of (admitted_dropped rfl hfull) (lostReply_lockReply r hfull)).trans ?_
    rw [setQueue_self]
    rfl
  · intro pre f post hq hfirst
    have hlost := lostReply_evicting hsup habsent hfull
    rw [hq, if_pos (by simp)] at hlost
    rw [hq] at habsent hfull
    refine admitEntry_of (lost := none) ?_ ?_ <;> rw [hq]
    · exact admitted_evicts_cabinetData hsup habsent hfull hfirst
    · exact hlost
  · intro pre r post hq hfirst hcab
    have hlost := lostReply_evicting hsup habsent hfull
    rw [if_neg (Bool.eq_false_iff.mp (any_kind_eq_false hcab)), hq, oldestReply_split hfirst] at hlost
    rw [hq] at habsent hfull hcab
    refine admitEntry_of (lost := some r.badge) ?_ ?_ <;> rw [hq]
    · exact admitted_evicts_lockReply hsup habsent hfull hfirst hcab
    · exact hlost

end Sys2Proof.Machine
end

section
/-! SUPPORT. Requests turned away (O48): discarded for want of room upstream, whatever they ask (R43), and refused BAD_REQUEST for
their shape, whatever the state (R182, R200). -/

namespace Sys2Proof.Machine

/-! ### Want of room (R43) -/

theorem upstreamShort_iff {s : State} : s.upstreamShort = true ↔ 31 ≤ s.upQueue.length := by
  rw [State.upstreamShort, decide_eq_true_iff, Config.upstreamQueueSize]
  omega

/-- The tag in the low byte of the detail, the request code in the next. -/
theorem upstreamFullDetail_eq (tag code : Byte) :
    upstreamFullDetail tag code = BitVec.ofNat 32 (tag.toNat + 256 * code.toNat) := by
  apply BitVec.eq_of_toNat_eq
  have htag := tag.isLt
  rw [upstreamFullDetail, BitVec.toNat_setWidth, BitVec.toNat_append, BitVec.toNat_ofNat,
    ← Nat.shiftLeft_add_eq_or_of_lt htag, Nat.shiftLeft_eq]
  omega

/-- Without the two places a request is not executed: what its execution would be makes no difference. -/
theorem exec_request_short {c : Instr} {tag code : Byte} {params : List Byte} {s : State}
    (hc : requestParts c = some (tag, code, params)) (hs : s.upstreamShort = true) :
    exec c s = .next (examine (recordFault .upstream .upstreamFull (upstreamFullDetail tag code) s)) := by
  cases c <;> simp only [requestParts, Option.some.injEq, Prod.mk.injEq, reduceCtorEq] at hc
  all_goals obtain ⟨rfl, rfl, rfl⟩ := hc
  case warmReset =>
    refine congrArg Host.Outcome.next ((if_pos ?_).trans (manage_short _ _ _ s hs))
    simp [hs]
  all_goals exact congrArg Host.Outcome.next (manage_short _ _ _ s hs)

/-! ### Numbers that name nothing (R200) -/

theorem stationOf_eq_none {b : Byte} (h : 7 < b.toNat) : stationOf b = none := dif_neg (by omega)

theorem slotOf_eq_none {b : Byte} (h : 15 < b.toNat) : slotOf b = none := dif_neg (by omega)

theorem zoneOf_eq_none {b : Byte} (h : 31 < b.toNat) : zoneOf b = none := dif_neg (by omega)

theorem causeOf_eq_none {b : Byte} (h : 6 < b.toNat) : causeOf b = none := List.getElem?_eq_none h

theorem meltModeOf_eq_none {b : Byte} (h : 2 < b.toNat) : meltModeOf b = none := List.getElem?_eq_none h

theorem requestScope_eq_none {b : Byte} (h : 3 < b.toNat) : requestScope b = none := if_neg (by omega)

/-! ### Shapes (R182, R200) -/

section
variable {run : List Byte → State → Answer} {bad : Byte → Prop} {ps : List Byte}

theorem bare_refused {run : State → Answer} (h : ps ≠ []) : bare ps run = refuse .badRequest := funext fun _ => if_neg h

/-- A request of one parameter byte. -/
theorem one_refused (h0 : run [] = refuse .badRequest) (h2 : ∀ a b l, run (a :: b :: l) = refuse .badRequest)
    (hbad : ∀ b, bad b → run [b] = refuse .badRequest) (h : ps.length ≠ 1 ∨ ∃ b, ps = [b] ∧ bad b) :
    run ps = refuse .badRequest := by
  rcases h with hlen | ⟨b, rfl, hb⟩
  · match ps with
    | [] => exact h0
    | [_] => exact absurd rfl hlen
    | _ :: _ :: _ => exact h2 _ _ _
  · exact hbad b hb

/-- A request of two parameter bytes. -/
theorem two_refused (h0 : run [] = refuse .badRequest) (h1 : ∀ a, run [a] = refuse .badRequest)
    (h3 : ∀ a b c l, run (a :: b :: c :: l) = refuse .badRequest) (h : ps.length ≠ 2) : run ps = refuse .badRequest := by
  match ps with
  | [] => exact h0
  | [_] => exact h1 _
  | [_, _] => exact absurd rfl h
  | _ :: _ :: _ :: _ => exact h3 _ _ _ _

end

section
variable {ps : List Byte}

theorem runStationRead_refused (h : ps.length ≠ 1 ∨ ∃ b, ps = [b] ∧ 7 < b.toNat) :
    runStationRead ps = refuse .badRequest :=
  one_refused rfl (fun _ _ _ => rfl) (fun b hb => funext fun s => by simp [runStationRead, stationOf_eq_none hb]) h

theorem runStationResume_refused (h : ps.length ≠ 1 ∨ ∃ b, ps = [b] ∧ 7 < b.toNat) :
    runStationResume ps = refuse .badRequest :=
  one_refused rfl (fun _ _ _ => rfl) (fun b hb => funext fun s => by simp [runStationResume, stationOf_eq_none hb]) h

theorem runSlotRestore_refused (h : ps.length ≠ 1 ∨ ∃ b, ps = [b] ∧ 15 < b.toNat) :
    runSlotRestore ps = refuse .badRequest :=
  one_refused rfl (fun _ _ _ => rfl) (fun b hb => funext fun s => by simp [runSlotRestore, slotOf_eq_none hb]) h

theorem runAlertAck_refused (h : ps.length ≠ 1 ∨ ∃ b, ps = [b] ∧ 6 < b.toNat) : runAlertAck ps = refuse .badRequest :=
  one_refused rfl (fun _ _ _ => rfl) (fun b hb => funext fun s => by simp [runAlertAck, causeOf_eq_none hb]) h

theorem runZoneFaultClear_refused (h : ps.length ≠ 1 ∨ ∃ b, ps = [b] ∧ 31 < b.toNat) :
    runZoneFaultClear ps = refuse .badRequest :=
  one_refused rfl (fun _ _ _ => rfl) (fun b hb => funext fun s => by simp [runZoneFaultClear, zoneOf_eq_none hb]) h

theorem runMeltModeSet_refused (h : ps.length ≠ 1 ∨ ∃ b, ps = [b] ∧ 2 < b.toNat) : runMeltModeSet ps = refuse .badRequest :=
  one_refused rfl (fun _ _ _ => rfl) (fun b hb => funext fun s => by simp [runMeltModeSet, meltModeOf_eq_none hb]) h

theorem runClipLogClear_refused (h : ps.length ≠ 1) : runClipLogClear ps = refuse .badRequest :=
  one_refused (bad := fun _ => False) rfl (fun _ _ _ => rfl) (fun _ => False.elim) (.inl h)

theorem runTableRead_refused (h : ps.length ≠ 3) : runTableRead ps = refuse .badRequest := by
  match ps with
  | [] | [_] | [_, _] | _ :: _ :: _ :: _ :: _ => rfl
  | [_, _, _] => exact absurd rfl h

theorem runEnvelopeApply_refused (h : ps.length ≠ 2) : runEnvelopeApply ps = refuse .badRequest :=
  two_refused rfl (fun _ => rfl) (fun _ _ _ _ => rfl) h

theorem runFaultClear_refused (h : ps.length ≠ 2) : runFaultClear ps = refuse .badRequest :=
  two_refused rfl (fun _ => rfl) (fun _ _ _ _ => rfl) h

theorem runScanStart_refused (h : ps.length ≠ 2 ∨ ∃ b ∈ ps, 1 < b.toNat) : runScanStart ps = refuse .badRequest := by
  by_cases hlen : ps.length = 2
  · obtain ⟨mode, order, rfl⟩ := List.length_eq_two.mp hlen
    obtain ⟨b, hb, hlt⟩ := h.resolve_left (absurd rfl)
    refine funext fun s => if_pos ?_
    rcases List.mem_pair.mp hb with rfl | rfl
    · exact .inl hlt
    · exact .inr hlt
  · exact two_refused rfl (fun _ => rfl) (fun _ _ _ _ => rfl) hlen

/-- A station above 7, an empty scope and a scope outside DRIVE and HEAT name no claim (R95, R96). -/
theorem withClaim_refused {run : StationId → Scope → State → Answer}
    (h : ps.length ≠ 2 ∨ (∃ n b, ps = [n, b] ∧ 7 < n.toNat) ∨ ∃ n b, ps = [n, b] ∧ (b = 0 ∨ 3 < b.toNat)) :
    withClaim ps run = refuse .badRequest := by
  rcases h with hlen | ⟨n, b, rfl, hn⟩ | ⟨n, b, rfl, rfl | hb⟩
  · exact two_refused (run := fun ps => withClaim ps run) rfl (fun _ => rfl) (fun _ _ _ _ => rfl) hlen
  · exact funext fun s => by simp [withClaim, stationOf_eq_none hn]
  · refine funext fun s => ?_
    have hscope : requestScope 0#8 = some noScope := rfl
    have hempty : emptyScope noScope = true := rfl
    cases hn : stationOf n <;> simp [withClaim, hn, hscope, hempty]
  · refine funext fun s => ?_
    cases hn : stationOf n <;> simp [withClaim, hn, requestScope_eq_none hb]

theorem runSlotSubstitute_refused (h : ps.length ≠ 7 ∨ ∃ b rest, ps = b :: rest ∧ 15 < b.toNat) :
    runSlotSubstitute ps = refuse .badRequest := by
  refine funext fun s => ?_
  rcases h with hlen | ⟨b, rest, rfl, hb⟩
  · exact if_pos hlen
  · have hslot : slotOf (byteAt (b :: rest) 0) = none := slotOf_eq_none hb
    unfold runSlotSubstitute
    split
    · rfl
    · rw [hslot]

end

/-! ### The obligation -/

/-- A request whose execution is a refusal for its shape changes nothing and is answered BAD_REQUEST (R182). -/
theorem manage_badRequest {tag code : Byte} {run : State → Answer} {s : State} (hroom : s.upQueue.length ≤ 30)
    (hrun : run = refuse .badRequest) :
    completes (.next (manage tag code run s)) fun t =>
      s.sameButPort t ∧ s.answered t (.mgmtResp tag code .badRequest []) :=
  ⟨_, rfl, manage_same (upstreamShort_eq_false.mpr hroom) .badRequest [] (by rw [hrun]; rfl)⟩

/-- A WARM_RESET that carries parameters is a refused request (R194). -/
theorem exec_warmReset_refused {tag strap : Byte} {ps : List Byte} {s : State} (h : ps ≠ []) :
    exec (.warmReset tag ps strap) s = .next (manage tag 0x19 (refuse .badRequest) s) :=
  congrArg Host.Outcome.next (if_pos (by simp [h]))

/-- Settles O48: without room no execution is looked at; with room each request's shape check is the first thing it does. -/
theorem requestsTurnedAway : Obligations.RequestsTurnedAway := by
  intro c tag code params s hc
  refine ⟨fun hfull => ?_, fun hroom hshape => ?_⟩
  · rw [exec_request_short hc (upstreamShort_iff.mpr hfull), upstreamFullDetail_eq]
  · cases c <;> simp only [requestParts, Option.some.injEq, Prod.mk.injEq, reduceCtorEq] at hc
    all_goals obtain ⟨rfl, rfl, rfl⟩ := hc
    case statusRead | identify | envelopeClearAll | lockdownSet | settingsSave | stowRequest | stowRelease | scanStop
        | faultRead => exact manage_badRequest hroom (bare_refused (by simpa using hshape))
    case remoteLock | remoteUnlock => exact manage_badRequest hroom (withClaim_refused (by simpa using hshape))
    case warmReset =>
      rw [exec_warmReset_refused (by simpa using hshape)]
      exact manage_badRequest hroom rfl
    case unknownRequestCode => exact manage_badRequest hroom rfl
    case tableWrite => exact absurd hshape (by simp)
    case stationRead => exact manage_badRequest hroom (runStationRead_refused (by simpa using hshape))
    case tableRead => exact manage_badRequest hroom (runTableRead_refused (by simpa using hshape))
    case envelopeApply => exact manage_badRequest hroom (runEnvelopeApply_refused (by simpa using hshape))
    case stationResume => exact manage_badRequest hroom (runStationResume_refused (by simpa using hshape))
    case scanStart => exact manage_badRequest hroom (runScanStart_refused (by simpa using hshape))
    case slotSubstitute => exact manage_badRequest hroom (runSlotSubstitute_refused (by simpa using hshape))
    case slotRestore => exact manage_badRequest hroom (runSlotRestore_refused (by simpa using hshape))
    case faultClear => exact manage_badRequest hroom (runFaultClear_refused (by simpa using hshape))
    case alertAck => exact manage_badRequest hroom (runAlertAck_refused (by simpa using hshape))
    case clipLogClear => exact manage_badRequest hroom (runClipLogClear_refused (by simpa using hshape))
    case zoneFaultClear => exact manage_badRequest hroom (runZoneFaultClear_refused (by simpa using hshape))
    case meltModeSet => exact manage_badRequest hroom (runMeltModeSet_refused (by simpa using hshape))

end Sys2Proof.Machine
end

section
/-! SUPPORT. Frames dropped at reception (O39): the addresses of R198, the details of R113 and R197, and what a frame of an
unhandled kind still does to the link of its station (R4, R5, R46). -/

namespace Sys2Proof.Machine

/-! ### Destinations (R198) -/

theorem stationOfAddress_isSome_iff {a : Byte} : (stationOfAddress a).isSome = true ↔ ∃ m, a = stationAddress m := by
  refine ⟨fun h => ?_, fun ⟨m, hm⟩ => by rw [hm, stationOfAddress_stationAddress]; rfl⟩
  obtain ⟨m, hm⟩ := Option.isSome_iff_exists.mp h
  have hfound := List.find?_some hm
  exact ⟨m, (beq_iff_eq.mp hfound).symm⟩

theorem State.addressed_iff {s : State} {dest : Byte} :
    s.addressed dest = true ↔ dest = s.nodeAddress ∨ dest = 0xFF ∨ ∃ m, dest = stationAddress m := by
  rw [State.addressed, Bool.or_eq_true, Bool.or_eq_true, beq_iff_eq, beq_iff_eq, stationOfAddress_isSome_iff, broadcastAddress,
    or_assoc, or_comm (a := ∃ m, dest = stationAddress m)]

/-! ### Details (R113, R197) -/

/-- Of a failing frame upstream, the kind is reported where the header came through. -/
theorem failingDetail_upstream_header (dest src kind : Byte) (rest : List Byte) :
    failingDetail .upstream (dest :: src :: kind :: rest) = kind.setWidth 32 := by
  rw [failingDetail, if_neg (by simp)]
  rfl

theorem strayFrame_eq (code low : Byte) (s : State) :
    strayFrame code low s = recordFault .sensorLine .badFrame (BitVec.ofNat 32 (0x1000000 * code.toNat + low.toNat)) s := by
  have hdetail : ((code ++ (0 : BitVec 16)) ++ low : BitVec 32) = BitVec.ofNat 32 (0x1000000 * code.toNat + low.toNat) := by
    apply BitVec.eq_of_toNat_eq
    have hcode := code.isLt
    have hlow := low.isLt
    rw [BitVec.toNat_append, BitVec.toNat_append, BitVec.toNat_ofNat, ← Nat.shiftLeft_add_eq_or_of_lt hlow, Nat.shiftLeft_eq,
      Nat.shiftLeft_eq]
    simp
    omega
  rw [strayFrame, hdetail]

/-! ### Frames of an unhandled kind (R46) -/

section
variable {f : Frame} {s : State}

theorem dropUnhandled_upstream_addressed (h : s.addressed f.dest = true) :
    dropUnhandled .upstream f s = recordFault .upstream .badFrame (f.kind.setWidth 32) s := if_pos h

theorem dropUnhandled_upstream_passing (h : ¬s.addressed f.dest = true) : dropUnhandled .upstream f s = s := if_neg h

/-- A reading that no transaction awaits is a stray frame. -/
theorem takeSensorFrame_stray {address : Byte} {raw : Int}
    (h : ∀ tr, s.scanner.transaction = some tr → answeredBy tr address = []) :
    takeSensorFrame address raw s = strayFrame 1 address s := by
  unfold takeSensorFrame
  split
  · rfl
  · next tr htr => rw [h tr htr]

/-- The end of an event that has changed neither a station nor the stow is the examination alone. -/
theorem closeEvent_same {x : State} (hst : x.stations = s.stations) (hwind : x.wind = s.wind) : closeEvent s x = examine x := by
  rw [closeEvent, settleStow_same s x (stowActive_of_wind hwind), offerHeatMarkers_same s x fun n => ?_]
  rw [State.onMask_eq, State.onMask_eq, State.station_congr hst n]

end

/-- Settles O39: each frame is one report, on the state that the link's own change leaves. -/
theorem droppedFrames : Obligations.DroppedFrames := by
  intro n f bytes err address raw s
  refine ⟨?_, rfl, rfl, fun hdest => ?_, fun hrest hdest => ?_, fun hup => ?_, fun hdown hqueue htx => ?_, ?_, fun hstray => ?_⟩
  · match bytes with
    | [] | [_] | [_, _] => rfl
    | dest :: src :: kind :: rest =>
      exact congrArg (fun d => Host.Outcome.next (examine (recordFault .upstream .badFrame d s)))
        (failingDetail_upstream_header dest src kind rest)
  · exact congrArg (fun x => Host.Outcome.next (examine x)) (dropUnhandled_upstream_addressed (State.addressed_iff.mpr hdest))
  · have hpassing := dropUnhandled_upstream_passing (mt State.addressed_iff.mp hdest)
    refine (congrArg (fun x => Host.Outcome.next (examine x)) hpassing).trans ?_
    exact congrArg Host.Outcome.next (examine_settled hrest.1)
  · rw [← State.timer, ← goodFrame_up hup]
    rfl
  · rw [← State.timer, ← goodFrame_away (by rw [hdown]; rfl) hqueue htx]
    rfl
  · exact congrArg (fun x => Host.Outcome.next (examine x)) (strayFrame_eq 2 f.kind s)
  · have hfault := (takeSensorFrame_stray (raw := raw.toInt) hstray).trans (strayFrame_eq 1 address s)
    change Host.Outcome.next (closeEvent s (takeSensorFrame address raw.toInt s)) = _
    rw [hfault, closeEvent_same (recordFault_stations _ _ _ s) (recordFault_ports _ _ _ s).only.wind]
    rfl

end Sys2Proof.Machine
end

section
/-! SUPPORT. FRESHNESS_EXPIRY, WARN_EXPIRY and STOW_TIMEOUT_EXPIRY (O42): each changes one record, offers at most one entry to it,
and ends with the examination of the attention unit (R31, R141, R143, R146). -/

namespace Sys2Proof.Machine

section
variable {n : StationId} {s t : State} {e : StationEntry}

/-! ### One offer in an event -/

theorem examine_faults (s : State) : (examine s).faults = s.faults := by rw [examine_eq]

theorem offered_of_offers (h : Offers s.nodeAddress [e] (s.station n) (t.station n)) (hsup : e.kind.superseding = true) :
    s.offered t n e :=
  fun hlaw hsending => h.waits (pre := []) hsending.1 hsending.2 (hlaw n).1 hsup (by simp)

theorem leaves_of_offers {frame : StationFrame} (h : Offers s.nodeAddress [e] (s.station n) (t.station n))
    (hf : e.frame s.nodeAddress = some frame) (hidle : s.idling n) :
    (t.station n).tx = some frame ∧ (t.station n).queue = [] :=
  ⟨h.first_leaves hidle.1 hidle.2.1 hidle.2.2 hf, (h.idle hidle.1 hidle.2.1 hidle.2.2).1⟩

/-! ### FRESHNESS_EXPIRY (R31) -/

/-- The cause of a station whose setpoint has gone stale. -/
def staleClip : ClipSet := { noClip with stale := true }

/-- A stale station's record, the port apart. -/
def Station.wentStale (st : Station) : Station :=
  { goStale st with clipStatus := staleClip, clipLog := st.clipLog.union staleClip }

/-- What FRESHNESS_EXPIRY has done before its end. -/
def afterStale (n : StationId) (s : State) : State := setClip n staleClip (offerStop n (s.updStation n goStale))

theorem exec_freshnessExpiry_due (h : timerDue (s.station n).freshness s.now = true) :
    exec (.freshnessExpiry n) s = .next (examine (afterStale n s)) :=
  congrArg Host.Outcome.next (if_pos h)

theorem updStation_own (n : StationId) (f : Station → Station) (s : State) : (s.updStation n f).station n = f (s.station n) := by
  rw [State.updStation_station, if_pos rfl]

theorem afterStale_only : OnlyStations s (afterStale n s) :=
  ((s.updStation_only n goStale).trans (offerStop_ports n _).only).trans (setClip_only n _ _)

theorem afterStale_others (m : StationId) (h : m ≠ n) : (afterStale n s).station m = s.station m := by
  unfold afterStale setClip
  rw [State.updStation_station, if_neg h, offerStop, offer_station_ne n m _ _ h, State.updStation_station, if_neg h]

/-- The STOP is the one that the record gave before it went stale: neither the telemetry nor the last target has changed. -/
theorem goStale_stop : (s.updStation n goStale).stopSetpoint n = s.stopSetpoint n :=
  stopSetpoint_congr rfl (by rw [updStation_own]; rfl) (by rw [updStation_own]; rfl)

theorem afterStale_own : (afterStale n s).station n =
    { (offerStop n (s.updStation n goStale)).station n with
      clipStatus := staleClip
      clipLog := ((offerStop n (s.updStation n goStale)).station n).clipLog.union staleClip } := updStation_own n _ _

theorem afterStale_body : SameBody (s.station n).wentStale ((afterStale n s).station n) := by
  have h := (offerStop_ports n (s.updStation n goStale)).same n
  rw [updStation_own] at h
  rw [afterStale_own]
  exact { h with clipStatus := rfl, clipLog := congrArg (fun c => ClipSet.union c staleClip) h.clipLog }

theorem afterStale_offers :
    Offers s.nodeAddress [.setpoint (s.stopSetpoint n)] (s.station n) ((afterStale n s).station n) := by
  have hbefore : Offers s.nodeAddress [] (s.station n) ((s.updStation n goStale).station n) := by
    rw [updStation_own]
    exact .of_same rfl rfl rfl
  have hoffer := offers_offer (s.updStation n goStale) (checked_of_still n _ (stopSetpoint_moving (s.updStation n goStale) n))
  rw [goStale_stop] at hoffer
  have hafter : Offers s.nodeAddress [] ((offerStop n (s.updStation n goStale)).station n) ((afterStale n s).station n) := by
    rw [afterStale_own]
    exact .of_same rfl rfl rfl
  rw [offerStop, goStale_stop] at hafter
  exact hbefore.trans (hoffer.trans hafter)

theorem ite_resolve {c : Prop} [Decidable c] {α : Type} {a b x : α} (h : (if c then a else b) = x) (ha : a ≠ x) : ¬c ∧ b = x := by
  by_cases hc : c
  · exact absurd ((if_pos hc).symm.trans h) ha
  · exact ⟨hc, (if_neg hc).symm.trans h⟩

/-- TRACKING falls to COASTING where the station goes stale: it has passed the entries of R18 down to the stow. -/
theorem authorityOf_wentStale {stow : Bool} {st : Station} (h : authorityOf stow st = .tracking) :
    authorityOf stow st.wentStale = .coasting := by
  unfold authorityOf at h
  obtain ⟨hinstalled, h⟩ := ite_resolve h (by simp)
  obtain ⟨hheld, h⟩ := ite_resolve h (by simp)
  obtain ⟨hlocked, h⟩ := ite_resolve h (by simp)
  obtain ⟨hclearing, h⟩ := ite_resolve h (by simp)
  obtain ⟨hstopped, h⟩ := ite_resolve h (by simp)
  obtain ⟨hstow, -⟩ := ite_resolve h (by cases st.progress <;> simp)
  exact (if_neg hinstalled).trans ((if_neg hheld).trans ((if_neg hlocked).trans ((if_neg hclearing).trans
    ((if_neg hstopped).trans ((if_neg hstow).trans (if_pos rfl))))))

theorem afterStale_authority (h : s.authority n = .tracking) : (examine (afterStale n s)).authority n = .coasting := by
  have hstow : (examine (afterStale n s)).stowActive = s.stowActive := by
    rw [examine_eq]
    exact afterStale_only.stowActive
  rw [State.authority, hstow, examine_station, afterStale_body.authorityOf]
  exact authorityOf_wentStale h

/-! ### WARN_EXPIRY (R141) -/

theorem exec_warnExpiry_due (h : timerDue (s.station n).warnTimer s.now = true) :
    exec (.warnExpiry n) s = .next (examine (enterMoving n (offer n (.horn false) s))) :=
  congrArg Host.Outcome.next (if_pos h)

/-- A record that has entered MOVING at `now` with a stow timeout of `ms`. -/
def Station.entersMoving (now : Time) (ms : Nat) (st : Station) : Station :=
  { st with progress := .moving, warnTimer := none, stowStart := some now, stowTimeout := some ⟨now, ms⟩ }

theorem afterWarn_own : (enterMoving n (offer n (.horn false) s)).station n =
    ((offer n (.horn false) s).station n).entersMoving s.now s.settings.timing.stowTimeout := by
  have h := (offer_ports n (.horn false) s).only
  rw [enterMoving_station, if_pos rfl, State.timer, h.now, h.settings]
  rfl

theorem afterWarn_body : SameBody ((s.station n).entersMoving s.now s.settings.timing.stowTimeout)
    ((enterMoving n (offer n (.horn false) s)).station n) := by
  have h := (offer_ports n (.horn false) s).same n
  rw [afterWarn_own]
  exact { h with progress := rfl, warnTimer := rfl, stowStart := rfl, stowTimeout := rfl }

theorem afterWarn_offers :
    Offers s.nodeAddress [.horn false] (s.station n) ((enterMoving n (offer n (.horn false) s)).station n) := by
  rw [afterWarn_own]
  exact (offers_offer s rfl).trans (.of_same rfl rfl rfl)

theorem afterWarn_others (m : StationId) (h : m ≠ n) : (enterMoving n (offer n (.horn false) s)).station m = s.station m := by
  rw [enterMoving_station, if_neg h, offer_station_ne n m _ s h]

/-! ### STOW_TIMEOUT_EXPIRY (R143, R146) -/

theorem exec_stowTimeoutExpiry_due (h : timerDue (s.station n).stowTimeout s.now = true) :
    exec (.stowTimeoutExpiry n) s = .next (examine (recordFault (.station n) .stowTimeout (s.stowTimeoutDetail n)
      (s.updStation n fun st => { st with stowTimeout := none }))) :=
  congrArg Host.Outcome.next (if_pos h)

/-- The stow azimuth before the clamp, as R143 puts it. -/
theorem stowAzimuth_eq (e : Envelope) (st : Station) : stowAzimuth e st = (stowAim e st).1 := by
  unfold stowAzimuth stowAim stopTargets
  cases e.stowAz with
  | position p => rfl
  | keep => cases st.lastTelemetry <;> cases st.lastSent <;> rfl

theorem State.stowTargets_eq (s : State) (n : StationId) : s.stowTargets n = stowGoal (s.envelope n) (s.station n) := by
  rw [State.stowTargets, stowAzimuth_eq]
  rfl

theorem stowTimeoutDetail_of_none (h : (s.station n).lastTelemetry = none) : s.stowTimeoutDetail n = 0 := by
  rw [State.stowTimeoutDetail, h]

theorem stowTimeoutDetail_of_some {p : Telemetry} (h : (s.station n).lastTelemetry = some p) : s.stowTimeoutDetail n =
    if (p.az - (stowGoal (s.envelope n) (s.station n)).1).natAbs ≤ (s.envelope n).stowTol
        ∧ (p.el - (stowGoal (s.envelope n) (s.station n)).2).natAbs ≤ (s.envelope n).stowTol
        ∧ isYes (s.envelope n).pinFitted = true then 1 else 0 := by
  rw [State.stowTimeoutDetail, h]
  simp only [State.inTolerance, State.stowTargets_eq, Bool.and_eq_true, decide_eq_true_eq, and_assoc]

end

/-- Settles O42: each due expiry is one change of the record, with one offer or one report. -/
theorem freshnessWarnAndStowTimeoutExpiry : Obligations.FreshnessWarnAndStowTimeoutExpiry := by
  intro n s
  refine ⟨fun hdue => ⟨_, exec_freshnessExpiry_due hdue, ?_⟩, fun hdue => ⟨_, exec_warnExpiry_due hdue, ?_⟩,
    fun hdue => ⟨_, exec_stowTimeoutExpiry_due hdue, ?_⟩⟩
  · have hoffers : Offers s.nodeAddress [.setpoint (s.stopSetpoint n)] (s.station n)
        ((examine (afterStale n s)).station n) := by
      rw [examine_station]
      exact afterStale_offers
    refine ⟨.of_only afterStale_only afterStale_others, ?_, afterStale_authority, offered_of_offers hoffers rfl,
      leaves_of_offers hoffers rfl⟩
    rw [examine_station]
    exact afterStale_body.sameButPort
  · have hoffers : Offers s.nodeAddress [.horn false] (s.station n)
        ((examine (enterMoving n (offer n (.horn false) s))).station n) := by
      rw [examine_station]
      exact afterWarn_offers
    refine ⟨.of_only ((offer_ports n _ s).only.trans (enterMoving_only n _)) afterWarn_others, ?_,
      offered_of_offers hoffers rfl, fun hidle => (leaves_of_offers hoffers rfl hidle).1⟩
    rw [examine_station]
    exact afterWarn_body.sameButPort
  · refine ⟨.of_only ((s.updStation_only n _).trans (recordFault_ports _ _ _ _).only) fun m hm => ?_, ?_, ?_⟩
    · rw [recordFault_station, State.updStation_station, if_neg hm]
    · rw [examine_station, recordFault_station, updStation_own]
    · rw [examine_faults, recordFault_faults_congr (s := s) (t := s.updStation n _) _ _ _ rfl rfl]
      refine congrArg (fun d => (recordFault (.station n) .stowTimeout d s).faults) ?_
      split
      · next hnone => exact stowTimeoutDetail_of_none hnone
      · next p hsome => exact stowTimeoutDetail_of_some hsome

end Sys2Proof.Machine
end

section
/-! SUPPORT. Batches that are not taken, and the order of a batch's entries (O24): the first offending entry (R23), and the
entries of a well-formed batch as changes of distinct records (R23, R24). -/

namespace Sys2Proof.Machine

/-! ### The first offending entry (R23) -/

section
variable {es before after : List BatchEntry} {b : BatchEntry}

/-- Where every entry names a station, each another one, none offends. -/
theorem offends_eq_false (hnames : ∀ a ∈ es, a.station.toNat ≤ 7) (hnodup : (es.map (·.station)).Nodup) (i : Nat) :
    offends es i = false := by
  unfold offends
  split
  · rfl
  · next b hb =>
    obtain ⟨hi, rfl⟩ := List.getElem?_eq_some_iff.mp hb
    have hseven : decide (7 < es[i].station.toNat) = false :=
      decide_eq_false (Nat.not_lt.mpr (hnames _ (List.getElem_mem hi)))
    have hearlier : (es.take i).any (fun a => a.station == es[i].station) = false := by
      rw [List.any_eq_false]
      intro a ha heq
      obtain ⟨j, hj, rfl⟩ := List.mem_iff_getElem.mp ha
      rw [List.length_take, lt_min_iff] at hj
      rw [List.getElem_take, beq_iff_eq] at heq
      have hij := (List.Nodup.getElem_inj_iff hnodup (hi := by simpa using hj.2) (hj := by simpa using hi)).mp (by simpa using heq)
      omega
    rw [hseven, hearlier]
    rfl

theorem offends_append_left {l : List BatchEntry} {i : Nat} (h : i < before.length) :
    offends (before ++ l) i = offends before i := by
  unfold offends
  rw [List.getElem?_append_left h, List.take_append_of_le_length h.le]

theorem offends_at (h : 7 < b.station.toNat ∨ b.station ∈ before.map (·.station)) :
    offends (before ++ b :: after) before.length = true := by
  unfold offends
  rw [List.getElem?_append_right le_rfl, Nat.sub_self, List.getElem?_cons_zero, List.take_left]
  simp only [Bool.or_eq_true, decide_eq_true_eq]
  refine h.imp_right fun hmem => ?_
  obtain ⟨a, ha, heq⟩ := List.mem_map.mp hmem
  exact List.any_eq_true.mpr ⟨a, ha, beq_iff_eq.mpr heq⟩

theorem firstOffender_at (hnames : ∀ a ∈ before, a.station.toNat ≤ 7) (hnodup : (before.map (·.station)).Nodup)
    (h : 7 < b.station.toNat ∨ b.station ∈ before.map (·.station)) :
    firstOffender (before ++ b :: after) = some b.station := by
  have hfirst : (List.range (before ++ b :: after).length).find? (offends (before ++ b :: after)) = some before.length := by
    rw [List.find?_range_eq_some]
    refine ⟨offends_at h, by simp, fun i hi => ?_⟩
    rw [offends_append_left hi, offends_eq_false hnames hnodup]
    rfl
  rw [firstOffender, hfirst, Option.bind_some, List.getElem?_append_right le_rfl, Nat.sub_self, List.getElem?_cons_zero]
  rfl

/-- The entry count in the low byte, the station number in the next. -/
theorem batchFault_at (hlen : (before ++ b :: after).length ≤ 157) (hnames : ∀ a ∈ before, a.station.toNat ≤ 7)
    (hnodup : (before.map (·.station)).Nodup) (h : 7 < b.station.toNat ∨ b.station ∈ before.map (·.station)) :
    batchFault (before ++ b :: after) =
      some (BitVec.ofNat 32 ((before ++ b :: after).length + 256 * b.station.toNat)) := by
  rw [batchFault, if_neg (by simp), firstOffender_at hnames hnodup h, Option.map_some]
  generalize (before ++ b :: after).length = count at hlen
  refine congrArg some (BitVec.eq_of_toNat_eq ?_)
  have hb := b.station.isLt
  have hcount : count % 256 < 2 ^ 8 := by omega
  have hor := Nat.shiftLeft_add_eq_or_of_lt hcount b.station.toNat
  rw [Nat.shiftLeft_eq] at hor
  simp only [BitVec.toNat_or, BitVec.toNat_ofNat, BitVec.toNat_shiftLeft, BitVec.toNat_setWidth, Nat.shiftLeft_eq]
  rw [Nat.mod_eq_of_lt (a := b.station.toNat) (by omega), Nat.mod_eq_of_lt (a := b.station.toNat * 2 ^ 8) (by omega),
    Nat.mod_eq_of_lt (a := count % 256) (by omega), Nat.or_comm, ← hor]
  omega

theorem wellFormedBatch.batchFault (h : wellFormedBatch es) : batchFault es = none := by
  obtain ⟨hne, hnames, hnodup⟩ := h
  rw [Machine.batchFault, if_neg hne, firstOffender, List.find?_eq_none.mpr fun i _ => by simp [offends_eq_false hnames hnodup]]
  rfl

theorem takeBatch_wellFormed (h : wellFormedBatch es) (s : State) :
    takeBatch es s = if s.stowActive then es.foldl overrideEntry s else runBatch es s := by
  rw [takeBatch, h.batchFault]

theorem wellFormedBatch.perm {other : List BatchEntry} (h : wellFormedBatch es) (hp : es.Perm other) : wellFormedBatch other := by
  obtain ⟨hne, hnames, hnodup⟩ := h
  refine ⟨fun hnil => hne (hnil ▸ hp).eq_nil, fun b hb => hnames b (hp.mem_iff.mpr hb), (hp.map _).nodup_iff.mp hnodup⟩

/-! ### Entries of distinct stations -/

theorem entryStation_val (h : b.station.toNat ≤ 7) : (entryStation b).val = b.station.toNat := Nat.mod_eq_of_lt (by omega)

/-- The entries of a well-formed batch name distinct stations. -/
theorem wellFormedBatch.entryStation_inj (h : wellFormedBatch es) {a b : BatchEntry} (ha : a ∈ es) (hb : b ∈ es)
    (hab : entryStation a = entryStation b) : a = b := by
  obtain ⟨-, hnames, hnodup⟩ := h
  refine List.inj_on_of_nodup_map hnodup ha hb (BitVec.eq_of_toNat_eq ?_)
  rw [← entryStation_val (hnames a ha), ← entryStation_val (hnames b hb), hab]

theorem wellFormedBatch.nodup (h : wellFormedBatch es) : (es.map entryStation).Nodup :=
  List.Nodup.map_on (fun _ ha _ hb => h.entryStation_inj ha hb) (List.Nodup.of_map _ h.2.2)

end

theorem State.updStation_comm (s : State) {n m : StationId} (f g : Station → Station) (h : n ≠ m) :
    (s.updStation n f).updStation m g = (s.updStation m g).updStation n f := by
  have hst : ((s.updStation n f).updStation m g).stations = ((s.updStation m g).updStation n f).stations :=
    State.stations_ext fun k => by
      simp only [State.updStation_station]
      split_ifs <;> simp_all
  exact congrArg (fun ts => { s with stations := ts }) hst

/-- A change of one record for each entry, that rests on nothing of the other records. -/
structure RecordChange (step : State → BatchEntry → State) (change : State → BatchEntry → Station → Station) : Prop where
  eq : ∀ s b, step s b = s.updStation (entryStation b) (change s b)
  frame : ∀ s n f b, change (s.updStation n f) b = change s b

section
variable {step : State → BatchEntry → State} {change : State → BatchEntry → Station → Station} {es other : List BatchEntry}

/-- Changes of distinct records may come in any order. -/
theorem RecordChange.foldl_perm (h : RecordChange step change)
    (hinj : ∀ a ∈ es, ∀ b ∈ es, entryStation a = entryStation b → a = b) (hp : es.Perm other) (s : State) : es.foldl step s = other.foldl step s := by
  refine hp.foldl_eq' (fun a ha b hb s => ?_) s
  by_cases hab : entryStation a = entryStation b
  · rw [hinj a ha b hb hab]
  · rw [h.eq s a, h.eq s b, h.eq, h.eq, h.frame, h.frame, State.updStation_comm _ _ _ hab]

theorem RecordChange.foldl_others (h : RecordChange step change) {n : StationId} (s : State) (hn : ∀ b ∈ es, entryStation b ≠ n) :
    (es.foldl step s).station n = s.station n := by
  induction es generalizing s with
  | nil => rfl
  | cons b es ih =>
    rw [List.foldl_cons, ih _ fun a ha => hn a (List.mem_cons_of_mem b ha), h.eq, State.updStation_station,
      if_neg (hn b List.mem_cons_self).symm]

/-- Each record named is changed once, by its own entry. -/
theorem RecordChange.foldl_own (h : RecordChange step change) {b : BatchEntry} (s : State) (hnodup : (es.map entryStation).Nodup)
    (hb : b ∈ es) : (es.foldl step s).station (entryStation b) = change s b (s.station (entryStation b)) := by
  induction es generalizing s with
  | nil => exact absurd hb (by simp)
  | cons a es ih =>
    obtain ⟨ha, hes⟩ := List.nodup_cons.mp hnodup
    rw [List.foldl_cons]
    rcases List.mem_cons.mp hb with rfl | hb
    · rw [h.foldl_others _ fun c hc heq => ha (List.mem_map.mpr ⟨c, hc, heq⟩), h.eq, State.updStation_station, if_pos rfl]
    · have hne : entryStation b ≠ entryStation a := fun heq => ha (List.mem_map.mpr ⟨b, hb, heq⟩)
      rw [ih _ hes hb, h.eq, h.frame, State.updStation_station, if_neg hne]

end

/-! ### Batches taken -/

/-- A record whose clip causes are set (R17). -/
def Station.clipped (st : Station) (c : ClipSet) : Station := { st with clipStatus := c, clipLog := st.clipLog.union c }

theorem setClip_eq (n : StationId) (c : ClipSet) (s : State) : setClip n c s = s.updStation n (·.clipped c) := rfl

/-- What an entry leaves of its station's record, with cluster stow inactive (R25 to R28). -/
def handled (s : State) (b : BatchEntry) (st : Station) : Station :=
  let fit := s.fitDemand (entryStation b) b.azTarget.toInt b.elTarget.toInt b.azSpeed.toNat b.elSpeed.toNat
  if (authorityOf s.stowActive st).takes then
    { st with demand := fit.1, freshness := some (s.timer s.settings.timing.setpointDeadline), stale := false }.clipped fit.2
  else (discardCause (authorityOf s.stowActive st)).elim st st.clipped

theorem handled_discarded {s : State} {b : BatchEntry} (h : ¬(s.authority (entryStation b)).takes = true) :
    handled s b (s.station (entryStation b)) =
      (discardCause (s.authority (entryStation b))).elim (s.station (entryStation b)) (s.station (entryStation b)).clipped :=
  if_neg h

theorem handleEntry_change : RecordChange handleEntry handled where
  eq s b := by
    unfold handleEntry
    simp only
    split
    · next htakes =>
      rw [writeEntry, setClip_eq, State.updStation_updStation]
      exact State.updStation_congr (if_pos htakes).symm
    · next hdiscards =>
      have h := handled_discarded hdiscards
      split
      · next c hc => exact State.updStation_congr (by rw [h, hc]; rfl)
      · next hc => exact (State.updStation_self s _ _ (by rw [h, hc]; rfl)).symm
  frame _ _ _ _ := rfl

/-- The stations offered a SETPOINT rest on which stations took an entry, not on their order. -/
theorem batchOffers_congr {taken taken' : List StationId} (h : ∀ n, n ∈ taken ↔ n ∈ taken') (before after : State) :
    batchOffers taken before after = batchOffers taken' before after := by
  refine List.filter_congr fun n _ => ?_
  rw [show taken.contains n = taken'.contains n by simp [h]]

theorem runBatch_perm {es other : List BatchEntry} (h : wellFormedBatch es) (hp : es.Perm other) (s : State) :
    runBatch es s = runBatch other s := by
  unfold runBatch
  simp only
  rw [handleEntry_change.foldl_perm (fun _ ha _ hb => h.entryStation_inj ha hb) hp]
  rw [batchOffers_congr fun n => ((hp.filter _).map entryStation).mem_iff]

/-! ### Batches under active stow (R24) -/

/-- What an entry under active stow leaves of its station's record. -/
def overridden (_ : State) (_ : BatchEntry) (st : Station) : Station :=
  if st.installed then st.clipped { noClip with stowOverride := true } else st

theorem overrideEntry_change : RecordChange overrideEntry overridden where
  eq s b := by
    unfold overrideEntry
    split
    · next hinst => exact State.updStation_congr (if_pos hinst).symm
    · next hinst => exact (State.updStation_self s _ _ (if_neg hinst)).symm
  frame _ _ _ _ := rfl

theorem overrideEntry_eq (s : State) (b : BatchEntry) : overrideEntry s b = { s with stations := (overrideEntry s b).stations } := by
  unfold overrideEntry
  split <;> rfl

theorem foldl_overrideEntry_eq (es : List BatchEntry) (s : State) :
    es.foldl overrideEntry s = { s with stations := (es.foldl overrideEntry s).stations } := by
  induction es generalizing s with
  | nil => rfl
  | cons b es ih =>
    rw [List.foldl_cons, ih, overrideEntry_eq]

theorem foldl_overrideEntry_station {es : List BatchEntry} (h : wellFormedBatch es) (s : State) (n : StationId) :
    (es.foldl overrideEntry s).station n =
      if (∃ b ∈ es, b.station.toNat = n.val) ∧ (s.station n).installed = true then
        (s.station n).clipped { noClip with stowOverride := true }
      else s.station n := by
  have hnames : ∀ b ∈ es, b.station.toNat = n.val ↔ entryStation b = n := fun b hb => by
    rw [Fin.ext_iff, entryStation_val (h.2.1 b hb)]
  by_cases hex : ∃ b ∈ es, b.station.toNat = n.val
  · obtain ⟨b, hb, hbn⟩ := hex
    obtain rfl := (hnames b hb).mp hbn
    rw [overrideEntry_change.foldl_own s h.nodup hb]
    simp only [show ∃ a ∈ es, a.station.toNat = (entryStation b).val from ⟨b, hb, hbn⟩, true_and]
    rfl
  · rw [if_neg fun hc => hex hc.1,
      overrideEntry_change.foldl_others s fun b hb heq => hex ⟨b, hb, (hnames b hb).mpr heq⟩]

/-- Settles O24: the detail is that of the first offending entry, and the entries of a well-formed batch change distinct
records. -/
theorem batchesNotTaken : Obligations.BatchesNotTaken := by
  refine ⟨fun _ => rfl, fun before after b s hlen hnames hnodup h => ?_, fun es other s hwf hp => ?_,
    fun es s hwf hstow hrest => ?_⟩
  · refine congrArg (fun x => Host.Outcome.next (examine x)) ?_
    rw [takeBatch, batchFault_at hlen hnames hnodup h]
  · refine congrArg (fun x => Host.Outcome.next (examine x)) ?_
    rw [takeBatch_wellFormed hwf, takeBatch_wellFormed (hwf.perm hp), runBatch_perm hwf hp,
      overrideEntry_change.foldl_perm (fun _ ha _ hb => hwf.entryStation_inj ha hb) hp]
  · have hfold := foldl_overrideEntry_eq es s
    have hbatch : takeBatch es s = es.foldl overrideEntry s := by rw [takeBatch_wellFormed hwf, if_pos hstow]
    refine ⟨es.foldl overrideEntry s, ?_, hfold, foldl_overrideEntry_station hwf s⟩
    change Host.Outcome.next (examine (takeBatch es s)) = _
    rw [hbatch, examine_settled]
    rw [hfold]
    exact hrest.1

end Sys2Proof.Machine
end

section
/-! SUPPORT. The state after reset (O3; what the part holds before it is log entry 4): a power-on reset makes it of itself, and it
keeps every law. -/

namespace Sys2Proof.Machine

/-! ### What the state after reset holds -/

theorem reset_station (n : StationId) : State.reset.station n = resetStation false (Tab.fill 4 (resetZone false)) :=
  Tab.get_fill _ n

theorem reset_zone (n : StationId) (z : ZoneNum) : State.reset.zone n z = resetZone false := by
  rw [State.zone, reset_station]
  exact Tab.get_fill _ z

theorem reset_slot (i : SlotId) : State.reset.slot i = resetSlot := Tab.get_fill _ i

/-- STORE_INVALID stands in entry 0, and nothing else. -/
theorem reset_fault (i : Fin 8) : State.reset.faults.entries.get i = if i = 0 then some resetStoreFault else none := by
  change (noFaults.entries.set 0 _).get i = _
  rw [Tab.get_set]
  exact congrArg (ite _ _) (Tab.get_fill none i)

theorem reset_heatLoad : State.reset.heatLoad = 0 := by
  have hoff : allZones.filter State.reset.zoneOn = [] :=
    List.filter_eq_nil_iff.mpr fun p _ => by rw [State.zoneOn, reset_zone]; simp [resetZone]
  rw [State.heatLoad, hoff]
  rfl

/-- A power-on reset of a part whose store was never written finds no copy, reports STORE_INVALID, and latches FAULT_NEW (R181,
R193): the model evaluated on one state. -/
theorem powerOn_reset : powerOn Config.resetStrapAddress false false State.reset = State.reset := rfl

/-! ### The laws -/

theorem reset_holderLaw : State.reset.holderLaw := fun n => by
  rw [reset_station]
  exact ⟨Nat.zero_le 6, List.nodup_nil, fun _ h => absurd h (by simp [resetStation])⟩

theorem reset_clearingLaw : State.reset.clearingLaw := fun n => by
  rw [reset_station]
  exact ⟨fun _ => rfl, fun h => absurd h (by simp [resetStation])⟩

theorem reset_heatSafe : State.reset.heatSafe := fun n z _ => by
  rw [reset_zone]
  rfl

theorem reset_motionSafe : State.reset.motionSafe := fun n _ => by
  rw [reset_station]
  exact quietQueue_nil

theorem reset_limitSafe : State.reset.limitSafe :=
  ⟨allOrdered_default, fun _ h => absurd h (by simp [State.reset, blankStore]), fun n => by
    rw [reset_station]
    exact queueWithin_nil _⟩

theorem reset_powerSafe : State.reset.powerSafe := by
  refine ⟨?_, fun _ h => absurd h (by simp [State.reset, blankStore])⟩
  rw [reset_heatLoad]
  decide

theorem reset_queuesLaw : State.reset.queuesLaw := fun n => by
  rw [reset_station]
  exact ⟨.nil, fun _ => ⟨rfl, rfl⟩⟩

theorem reset_upstreamLaw : State.reset.upstreamLaw := by
  refine ⟨Nat.zero_le _, Nat.zero_le _, Nat.zero_le _, fun _ => Nat.zero_le _⟩

theorem reset_stowLaw : State.reset.stowLaw := by
  refine ⟨rfl, fun n => ?_⟩
  rw [reset_station]
  exact ⟨⟨fun _ => .inl rfl, fun _ => rfl⟩, fun h => absurd h (by simp [resetStation])⟩

theorem reset_slotsLaw : State.reset.slotsLaw := fun i => by
  rw [reset_slot]
  simp [slotLaw, resetSlot]

theorem reset_scannerLaw : State.reset.scannerLaw := by
  simp [State.scannerLaw, State.reset, resetScanner]

theorem reset_faultLaw : State.reset.faultLaw := by
  intro i j e f he hf _ _
  have hzero : ∀ k g, State.reset.faults.entries.get k = some g → k = 0 := fun k g hg => by
    by_contra hk
    rw [reset_fault, if_neg hk] at hg
    exact absurd hg (by simp)
  rw [hzero i e he, hzero j f hf]

theorem reset_restLaw : State.reset.restLaw := ⟨fun h => absurd h (by simp [State.reset]), rfl⟩

theorem reset_storeLaw : State.reset.storeLaw := by
  simp [State.storeLaw, State.reset, blankStore]

/-- Settles O3: the reset by evaluation, the laws one by one. -/
theorem resetStateIsStableAndLawful : Obligations.ResetStateIsStableAndLawful :=
  ⟨congrArg Host.Outcome.next powerOn_reset, reset_holderLaw, reset_clearingLaw, reset_heatSafe, reset_motionSafe,
    reset_limitSafe, reset_powerSafe, reset_queuesLaw, reset_upstreamLaw, ⟨rfl, rfl⟩, reset_stowLaw, reset_slotsLaw,
    reset_scannerLaw, reset_faultLaw, reset_restLaw, reset_storeLaw⟩

end Sys2Proof.Machine
end

section
/-! SUPPORT. FAULT_CLEAR and CLIP_LOG_CLEAR (O59): the reason and the entry that the bytes name, and what each answer leaves (R65,
R175, R176, R182, R201). -/

namespace Sys2Proof.Machine

/-- The answer DONE of a request that leaves the state as `x` and touches neither the stow, a zone, the upstream port nor the
attention unit: `x` stands, and the response is sent. -/
theorem manage_done {tag code : Byte} {run : State → Answer} {s x : State} (hroom : s.upstreamShort = false)
    {contents : List Byte}
    (hrun : run { s with responder := some (tag, code) } = done contents { x with responder := some (tag, code) })
    (hwind : x.wind = s.wind) (hmask : ∀ n, x.onMask n = s.onMask n) (hq : x.upQueue = s.upQueue) (htx : x.upTx = s.upTx)
    (hatt : x.attention = s.attention) :
    x.sameButPort (manage tag code run s)
      ∧ s.answered (manage tag code run s) (.mgmtResp tag code .done contents) := by
  have hstow : x.stowActive = s.stowActive := stowActive_of_wind hwind
  rw [manage_room tag code run s hroom, hrun]
  refine ⟨⟨respond_quiet_frame tag code s _ hstow hmask, fun hrest => ?_⟩,
    respond_answered (a := done contents { x with responder := some (tag, code) }) hroom hq htx (by rw [← hatt]; rfl) hstow⟩
  exact respond_quiet_attention tag code s (done contents { x with responder := some (tag, code) }) hstow hmask hrest.1

/-! ### FAULT_CLEAR (R175, R176) -/

theorem reasonCode_allReasons : ∀ k : Fin allReasons.length, reasonCode allReasons[k] = k := by decide

/-- The bytes 0 to 13 are the codes of the reasons. -/
theorem reasonOf_iff {c : Byte} {r : FaultReason} : reasonOf c = some r ↔ reasonCode r = c.toNat := by
  refine ⟨fun h => ?_, fun h => ?_⟩
  · obtain ⟨hlt, hr⟩ := List.getElem?_eq_some_iff.mp h
    rw [← hr]
    exact reasonCode_allReasons ⟨c.toNat, hlt⟩
  · rw [reasonOf, ← h]
    cases r <;> rfl

theorem reasonOf_eq_none {c : Byte} (h : 13 < c.toNat) : reasonOf c = none := List.getElem?_eq_none h

theorem exists_reasonOf {c : Byte} (h : c.toNat ≤ 13) : ∃ r, reasonOf c = some r :=
  ⟨_, List.getElem?_eq_getElem (Nat.lt_succ_of_le h)⟩

section
variable {b c : Byte} {i : Fin 8} {r : FaultReason} {s : State}

theorem runFaultClear_out_of_range (h : 8 < b.toNat ∨ 13 < c.toNat) : runFaultClear [b, c] s = refuse .badRequest s := by
  unfold runFaultClear
  rcases h with hb | hc
  · simp only [dif_neg (show ¬b.toNat < 8 by omega), if_neg (show ¬b.toNat = 8 by omega)]
    split <;> rfl
  · simp only [reasonOf_eq_none hc]

theorem runFaultClear_entry (hb : b.toNat = i.val) (hr : reasonOf c = some r) : runFaultClear [b, c] s = clearEntry i r s := by
  unfold runFaultClear
  simp only [hr, hb, dif_pos i.isLt]

theorem runFaultClear_overflow (hr : reasonOf c = some r) : runFaultClear [8, c] s = clearOverflow s := by
  unfold runFaultClear
  simp only [hr]
  rfl

theorem clearEntry_free (h : s.faults.entries.get i = none) : clearEntry i r s = refuse .badRequest s := by
  rw [clearEntry, h]

theorem clearEntry_valid {e : FaultEntry} (h : s.faults.entries.get i = some e) :
    clearEntry i r s =
      if e.reason ≠ r then refuse .badRequest s
      else if e.seen = false then refuse .notSeen s
      else done [] { s with faults := { s.faults with entries := s.faults.entries.set i none } } := by
  rw [clearEntry, h]

end

/-! ### CLIP_LOG_CLEAR (R65) -/

/-- The stations that the byte of a CLIP_LOG_CLEAR names (R201). -/
def namesStation (b : Byte) (n : StationId) : Bool := b == 0xFF || b.toNat == n.val

theorem runClipLogClear_named {b : Byte} (h : b.toNat < 8 ∨ b = 0xFF) (s : State) :
    runClipLogClear [b] s = done [] (clearLogs (namesStation b) s) := by
  rcases h with hb | rfl
  · have hne : (b == 0xFF) = false := by
      rw [beq_eq_false_iff_ne]
      rintro rfl
      exact absurd hb (by decide)
    have hp : (fun n : StationId => n.val == b.toNat) = namesStation b := by
      funext n
      rw [namesStation, hne, Bool.false_or, BEq.comm]
    rw [runClipLogClear, if_pos hb, hp]
  · rfl

theorem runClipLogClear_unnamed {b : Byte} (hb : 8 ≤ b.toNat) (hall : b ≠ 0xFF) (s : State) :
    runClipLogClear [b] s = refuse .badRequest s := by
  rw [runClipLogClear, if_neg (by omega), if_neg hall]

theorem clearLogs_station (p : StationId → Bool) (s : State) (n : StationId) :
    (clearLogs p s).station n = if p n then { s.station n with clipLog := noClip } else s.station n := by
  rw [clearLogs, State.mapStations_station]

theorem clearLogs_onMask (p : StationId → Bool) (s : State) (n : StationId) : (clearLogs p s).onMask n = s.onMask n := by
  rw [State.onMask_eq, State.onMask_eq, clearLogs_station]
  split <;> rfl

/-- Settles O59: each check refuses with the state as it stood, and each DONE leaves the one field it clears. -/
theorem faultAndClipLogClears : Obligations.FaultAndClipLogClears := by
  intro tag b c i s hroom
  dsimp only
  refine ⟨⟨_, rfl, fun hb hall => ?_, fun hnamed => ?_⟩, ⟨_, rfl, fun hrange => ?_, fun hbi hc => ?_, fun hb8 hc => ?_⟩⟩
  · exact manage_same hroom .badRequest [] (runClipLogClear_unnamed hb hall _)
  · obtain ⟨hsame, hanswered⟩ := manage_done (tag := tag) (code := 0x16) (x := clearLogs (namesStation b) s) hroom
      (runClipLogClear_named hnamed _) rfl (clearLogs_onMask _ s) rfl rfl rfl
    have hst : (manage tag 0x16 (runClipLogClear [b]) s).stations = (clearLogs (namesStation b) s).stations := by
      rw [hsame.1]
    refine ⟨?_, hanswered, fun n => ?_⟩
    · rw [hst]
      exact hsame
    · rw [State.station_congr hst n, clearLogs_station]
      simp only [namesStation, Bool.or_eq_true, beq_iff_eq]
  · exact manage_same hroom .badRequest [] (runFaultClear_out_of_range hrange)
  · obtain ⟨r, hr⟩ := exists_reasonOf hc
    have hrun := fun u : State => runFaultClear_entry (s := u) hbi hr
    refine ⟨fun hfree => manage_same hroom .badRequest [] ((hrun _).trans (clearEntry_free hfree)), fun e he => ?_⟩
    have hvalid := (hrun { s with responder := some (tag, 0x14) }).trans (clearEntry_valid he)
    have hreason : reasonCode e.reason = c.toNat ↔ e.reason = r := by
      rw [← reasonOf_iff, hr, Option.some_inj, eq_comm]
    rw [ne_eq, hreason]
    refine ⟨fun hne => ?_, fun heq hunseen => ?_, fun heq hseen => ?_⟩
    · exact manage_same hroom .badRequest [] (hvalid.trans (if_pos hne))
    · exact manage_same hroom .notSeen [] (hvalid.trans ((if_neg (not_not.mpr heq)).trans (if_pos hunseen)))
    · exact manage_done (x := { s with faults := { s.faults with entries := s.faults.entries.set i none } }) hroom
        (hvalid.trans ((if_neg (not_not.mpr heq)).trans (if_neg (by simp [hseen])))) rfl (fun _ => rfl) rfl rfl rfl
  · obtain ⟨r, hr⟩ := exists_reasonOf hc
    subst hb8
    have hrun := fun u : State => runFaultClear_overflow (s := u) hr
    refine ⟨fun hclear => ?_, fun hset hunseen => ?_, fun hset hseen => ?_⟩
    · exact manage_same hroom .badRequest [] ((hrun _).trans (if_pos hclear))
    · exact manage_same hroom .notSeen [] ((hrun _).trans ((if_neg (by simp [hset])).trans (if_pos hunseen)))
    · exact manage_done (x := { s with faults := { s.faults with overflow := false, overflowSeen := false } }) hroom
        ((hrun _).trans ((if_neg (by simp [hset])).trans (if_neg (by simp [hseen])))) rfl (fun _ => rfl) rfl rfl rfl

end Sys2Proof.Machine
end

section
/-! SUPPORT. Taking from a list until a need is met, and taking whatever still fits: the two ways in which the allocator walks
the zones (R56, R161, R169). -/

namespace Sys2Proof.Machine

/-! ### Until a need is met (R56) -/

/-- The entries taken from the front of a list until their weights together meet a need. -/
def untilMet {α : Type} (weight : α → Nat) : Int → List α → List α
  | _, [] => []
  | need, a :: l => if need ≤ 0 then [] else a :: untilMet weight (need - weight a) l

/-- The entries of a list, in its order, that still fit a room; one that does not is passed over. -/
def fitting {α : Type} (weight : α → Nat) : Int → List α → List α
  | _, [] => []
  | room, a :: l => if (weight a : Int) ≤ room then a :: fitting weight (room - weight a) l else fitting weight room l

section
variable {α : Type} {weight : α → Nat}

theorem untilMet_of_le {need : Int} (l : List α) (h : need ≤ 0) : untilMet weight need l = [] := by
  cases l with
  | nil => rfl
  | cons a l => exact if_pos h

theorem untilMet_cons_of_pos {need : Int} (a : α) (l : List α) (h : 0 < need) :
    untilMet weight need (a :: l) = a :: untilMet weight (need - weight a) l :=
  if_neg (not_le.mpr h)

/-- What is taken stands at the front. -/
theorem exists_untilMet_append (weight : α → Nat) (need : Int) (l : List α) : ∃ rest, l = untilMet weight need l ++ rest := by
  induction l generalizing need with
  | nil => exact ⟨[], rfl⟩
  | cons a l ih =>
    by_cases h : need ≤ 0
    · exact ⟨a :: l, by rw [untilMet_of_le _ h, List.nil_append]⟩
    · obtain ⟨rest, hrest⟩ := ih (need - weight a)
      exact ⟨rest, by rw [untilMet_cons_of_pos a l (not_le.mp h), List.cons_append, ← hrest]⟩

theorem untilMet_subset {need : Int} {l : List α} {a : α} (h : a ∈ untilMet weight need l) : a ∈ l := by
  obtain ⟨rest, hrest⟩ := exists_untilMet_append weight need l
  rw [hrest]
  exact List.mem_append_left _ h

theorem untilMet_nodup {l : List α} (need : Int) (h : l.Nodup) : (untilMet weight need l).Nodup := by
  obtain ⟨rest, hrest⟩ := exists_untilMet_append weight need l
  rw [hrest] at h
  exact h.of_append_left

/-- The need is met, or everything is taken. -/
theorem untilMet_met (weight : α → Nat) (need : Int) (l : List α) :
    need ≤ (((untilMet weight need l).map weight).sum : Nat) ∨ untilMet weight need l = l := by
  induction l generalizing need with
  | nil => exact .inr rfl
  | cons a l ih =>
    by_cases h : need ≤ 0
    · exact .inl (h.trans (Int.natCast_nonneg _))
    · rw [untilMet_cons_of_pos a l (not_le.mp h), List.map_cons, List.sum_cons]
      refine (ih (need - weight a)).imp (fun hmet => ?_) fun hall => by rw [hall]
      omega

/-- Without an entry taken and those behind it the need is not met. -/
theorem sum_lt_of_untilMet {need : Int} {l pre post : List α} {a : α} (h : untilMet weight need l = pre ++ a :: post) :
    ((pre.map weight).sum : Int) < need := by
  induction l generalizing need pre with
  | nil => exact absurd h (by simp [untilMet])
  | cons b l ih =>
    by_cases hneed : need ≤ 0
    · rw [untilMet_of_le _ hneed] at h
      exact absurd h (by simp)
    · rw [untilMet_cons_of_pos b l (not_le.mp hneed)] at h
      cases pre with
      | nil => simpa using not_le.mp hneed
      | cons c pre =>
        obtain ⟨rfl, htail⟩ := List.cons.inj h
        have := ih htail
        rw [List.map_cons, List.sum_cons]
        omega

/-! ### Whatever still fits (R161) -/

theorem fitting_sublist (room : Int) (l : List α) : (fitting weight room l).Sublist l := by
  induction l generalizing room with
  | nil => exact List.Sublist.refl _
  | cons a l ih =>
    unfold fitting
    split
    · exact (ih _).cons_cons a
    · exact (ih _).cons a

theorem sum_fitting_le (room : Int) (l : List α) : (((fitting weight room l).map weight).sum : Int) ≤ max 0 room := by
  induction l generalizing room with
  | nil => exact le_max_left 0 room
  | cons a l ih =>
    unfold fitting
    split
    · have := ih (room - weight a)
      rw [List.map_cons, List.sum_cons]
      omega
    · exact ih room

/-- The rest of a list is walked with what its front has left of the room. -/
theorem fitting_append (room : Int) (pre l : List α) :
    fitting weight room (pre ++ l)
      = fitting weight room pre ++ fitting weight (room - ((fitting weight room pre).map weight).sum) l := by
  induction pre generalizing room with
  | nil => simp [fitting]
  | cons a pre ih =>
    by_cases h : (weight a : Int) ≤ room
    · simp only [List.cons_append, fitting, if_pos h, ih, List.map_cons, List.sum_cons]
      rw [Nat.cast_add, Int.sub_sub]
    · simp only [List.cons_append, fitting, if_neg h, ih]

theorem mem_fitting_iff {room : Int} {pre post : List α} {a : α} (h : (pre ++ a :: post).Nodup) :
    a ∈ fitting weight room (pre ++ a :: post) ↔ (weight a : Int) ≤ room - ((fitting weight room pre).map weight).sum := by
  have hpre : a ∉ fitting weight room pre := fun hmem =>
    (List.disjoint_of_nodup_append h) ((fitting_sublist _ _).subset hmem) List.mem_cons_self
  have hpost : ∀ left : Int, a ∉ fitting weight left post := fun left hmem =>
    (List.nodup_cons.mp h.of_append_right).1 ((fitting_sublist _ _).subset hmem)
  rw [fitting_append, List.mem_append, or_iff_right hpre, fitting]
  split
  · next hfits => exact iff_of_true List.mem_cons_self hfits
  · next hfits => exact iff_of_false (hpost _) hfits

end

/-! ### Sums over chosen entries -/

/-- The entries one test chooses are those another chooses and some more. -/
theorem perm_filter_append {α : Type} {l chosen : List α} {f g : α → Bool} (hl : l.Nodup) (hchosen : chosen.Nodup)
    (hsub : ∀ a ∈ chosen, a ∈ l) (hf : ∀ a, f a = true ↔ a ∈ chosen ∨ g a = true) (hg : ∀ a ∈ chosen, g a = false) :
    (l.filter f).Perm (chosen ++ l.filter g) := by
  refine (List.perm_ext_iff_of_nodup (hl.filter f) ?_).mpr fun a => ?_
  · refine hchosen.append (hl.filter g) fun a ha hag => ?_
    exact absurd (List.mem_filter.mp hag).2 (by simp [hg a ha])
  · rw [List.mem_filter, List.mem_append, List.mem_filter, hf]
    have := hsub a
    tauto

/-- Where a test selects, and 0 elsewhere. -/
theorem sum_map_filter {α : Type} (p : α → Bool) (f : α → Nat) (l : List α) :
    (l.map fun a => if p a then f a else 0).sum = ((l.filter p).map f).sum := by
  induction l with
  | nil => rfl
  | cons a l ih =>
    cases h : p a <;> simp [h, ih]

/-- The scaled parts of a sum come to no more than the sum scaled. -/
theorem sum_scaled_le {α : Type} (f : α → Nat) (scale : Nat) (l : List α) :
    (l.map fun a => f a * scale / 1024).sum ≤ (l.map f).sum * scale / 1024 := by
  induction l with
  | nil => exact Nat.zero_le _
  | cons a l ih =>
    rw [List.map_cons, List.sum_cons, List.map_cons, List.sum_cons, Nat.add_mul]
    exact (Nat.add_le_add_left ih _).trans (Nat.div_add_div_le_add_div)

end Sys2Proof.Machine
end

section
/-! SUPPORT. Zones shed and zones admitted as sets: what shedding and admission leave of every zone and of the heater load, the
order of shedding, and what follows from them in the words of R56 and R161. -/

namespace Sys2Proof.Machine

/-! ### Changes of zones alone -/

/-- Nothing differs but the zones of the station records. -/
structure OnlyZones (s t : State) : Prop where
  only : OnlyStations s t
  record : ∀ n, t.station n = { s.station n with zones := (t.station n).zones }

theorem OnlyZones.refl (s : State) : OnlyZones s s := ⟨.refl s, fun _ => rfl⟩

theorem OnlyZones.trans {s t u : State} (h : OnlyZones s t) (k : OnlyZones t u) : OnlyZones s u :=
  ⟨h.only.trans k.only, fun n => by rw [k.record n, h.record n]⟩

theorem OnlyZones.foldl {α : Type} {f : State → α → State} (h : ∀ s a, OnlyZones s (f s a)) (l : List α) (s : State) :
    OnlyZones s (l.foldl f s) := by
  induction l generalizing s with
  | nil => exact .refl s
  | cons a l ih => exact (h s a).trans (ih _)

theorem OnlyZones.updZone (s : State) (n : StationId) (z : ZoneNum) (f : Zone → Zone) : OnlyZones s (s.updZone n z f) := by
  refine ⟨s.updZone_only n z f, fun m => ?_⟩
  rw [State.updZone_station]
  split
  · next h => subst h; rfl
  · rfl

/-- Authority rests on nothing of the zones. -/
theorem OnlyZones.authority {s t : State} (h : OnlyZones s t) (n : StationId) : t.authority n = s.authority n := by
  unfold State.authority
  rw [h.only.stowActive, h.record n]
  rfl

/-! ### Zones shed and zones admitted in a row -/

/-- Zones shed one after another (R56). -/
def shedAll (ps : List (StationId × ZoneNum)) (s : State) : State := ps.foldl (fun s p => shedZone p s) s

/-- Zones admitted one after another (R161). -/
def admitAll (ps : List (StationId × ZoneNum)) (s : State) : State := ps.foldl (fun s p => admitZone p s) s

/-- A zone as an admission leaves it (R161). -/
def Zone.enter (z : Zone) (now : Time) : Zone :=
  { z with state := .on, onStart := some now, minOnReached := false, offStart := none }

theorem shedAll_zones (ps : List (StationId × ZoneNum)) (s : State) : OnlyZones s (shedAll ps s) :=
  .foldl (fun s (p : StationId × ZoneNum) => .updZone s p.1 p.2 _) ps s

theorem admitAll_zones (ps : List (StationId × ZoneNum)) (s : State) : OnlyZones s (admitAll ps s) :=
  .foldl (fun s (p : StationId × ZoneNum) => .updZone s p.1 p.2 _) ps s

/-- Each zone named in a row is left by its own change, which a second time would leave it so. -/
theorem foldl_updZone_zone {f : Time → Zone → Zone} (hf : ∀ now z, f now (f now z) = f now z)
    (ps : List (StationId × ZoneNum)) (s : State) (n : StationId) (z : ZoneNum) :
    (ps.foldl (fun s p => s.updZone p.1 p.2 (f s.now)) s).zone n z
      = if (n, z) ∈ ps then f s.now (s.zone n z) else s.zone n z := by
  induction ps generalizing s with
  | nil => rfl
  | cons p ps ih =>
    obtain ⟨m, y⟩ := p
    rw [List.foldl_cons, ih, State.updZone_now, State.updZone_zone]
    simp only [List.mem_cons, Prod.mk.injEq]
    by_cases hp : n = m ∧ z = y
    · obtain ⟨rfl, rfl⟩ := hp
      simp [hf]
    · simp [hp]

theorem shedAll_zone (ps : List (StationId × ZoneNum)) (s : State) (n : StationId) (z : ZoneNum) :
    (shedAll ps s).zone n z = if (n, z) ∈ ps then (s.zone n z).leave .shed s.now else s.zone n z :=
  foldl_updZone_zone (f := fun now z => z.leave .shed now) (fun _ _ => rfl) ps s n z

theorem admitAll_zone (ps : List (StationId × ZoneNum)) (s : State) (n : StationId) (z : ZoneNum) :
    (admitAll ps s).zone n z = if (n, z) ∈ ps then (s.zone n z).enter s.now else s.zone n z :=
  foldl_updZone_zone (f := fun now z => z.enter now) (fun _ _ => rfl) ps s n z

theorem shedAll_zoneOn (ps : List (StationId × ZoneNum)) (s : State) (p : StationId × ZoneNum) :
    (shedAll ps s).zoneOn p = true ↔ s.zoneOn p = true ∧ p ∉ ps := by
  unfold State.zoneOn
  rw [shedAll_zone]
  by_cases hp : p ∈ ps
  · simp [hp, Zone.leave]
  · simp [hp]

theorem admitAll_zoneOn (ps : List (StationId × ZoneNum)) (s : State) (p : StationId × ZoneNum) :
    (admitAll ps s).zoneOn p = true ↔ p ∈ ps ∨ s.zoneOn p = true := by
  unfold State.zoneOn
  rw [admitAll_zone]
  by_cases hp : p ∈ ps
  · simp [hp, Zone.enter]
  · simp [hp]

/-! ### The heater load (R53) -/

theorem powerOf_perm {ps qs : List (StationId × ZoneNum)} (s : State) (h : ps.Perm qs) : powerOf s ps = powerOf s qs :=
  (h.map _).sum_eq

theorem powerOf_congr {s t : State} (h : t.settings = s.settings) (ps : List (StationId × ZoneNum)) :
    powerOf t ps = powerOf s ps := by
  unfold powerOf State.zoneRecord
  rw [h]

theorem zonePower_congr {s t : State} (h : t.settings = s.settings) : t.zonePower = s.zonePower := by
  funext p
  unfold State.zonePower State.zoneRecord
  rw [h]

/-- Zones that are ON in one state and no longer in another make up the difference in the heater load. -/
theorem heatLoad_split {s t : State} {ps : List (StationId × ZoneNum)} (hset : t.settings = s.settings) (hnodup : ps.Nodup)
    (hon : ∀ p, s.zoneOn p = true ↔ p ∈ ps ∨ t.zoneOn p = true) (hoff : ∀ p ∈ ps, t.zoneOn p = false) :
    s.heatLoad = powerOf s ps + t.heatLoad := by
  have hperm := perm_filter_append nodup_allZones hnodup (fun p _ => mem_allZones p) hon hoff
  have hsum := (hperm.map s.zonePower).sum_eq
  rw [List.map_append, List.sum_append] at hsum
  refine hsum.trans ?_
  unfold State.heatLoad
  rw [zonePower_congr hset]
  rfl

theorem heatLoad_shedAll {ps : List (StationId × ZoneNum)} {s : State} (hnodup : ps.Nodup)
    (hon : ∀ p ∈ ps, s.zoneOn p = true) : s.heatLoad = powerOf s ps + (shedAll ps s).heatLoad := by
  refine heatLoad_split (shedAll_zones ps s).only.settings hnodup (fun p => ?_) fun p hp => ?_
  · rw [shedAll_zoneOn]
    have := hon p
    tauto
  · rw [← Bool.not_eq_true, shedAll_zoneOn]
    exact fun h => h.2 hp

theorem heatLoad_admitAll {ps : List (StationId × ZoneNum)} {s : State} (hnodup : ps.Nodup)
    (hoff : ∀ p ∈ ps, s.zoneOn p = false) : (admitAll ps s).heatLoad = powerOf s ps + s.heatLoad := by
  have hset := (admitAll_zones ps s).only.settings
  rw [heatLoad_split hset.symm hnodup (admitAll_zoneOn ps s) hoff, powerOf_congr hset]

/-! ### The two walks of shedding and the walk of admission -/

/-- The shedding of an allocation: what is taken until the shortfall is met, with its number and its power (R56). -/
theorem shedUntil_eq (shortfall : Nat) (ps : List (StationId × ZoneNum)) (s : State) (count watts : Nat) :
    shedUntil shortfall ps s count watts =
      (shedAll (untilMet s.zonePower ((shortfall : Int) - watts) ps) s,
        count + (untilMet s.zonePower ((shortfall : Int) - watts) ps).length,
        watts + powerOf s (untilMet s.zonePower ((shortfall : Int) - watts) ps)) := by
  induction ps generalizing s count watts with
  | nil => rfl
  | cons p ps ih =>
    by_cases hmet : shortfall ≤ watts
    · rw [untilMet_of_le _ (by omega)]
      exact if_pos hmet
    · rw [untilMet_cons_of_pos p ps (by omega), shedUntil, if_neg hmet, ih]
      have hset : (shedZone p s).settings = s.settings := rfl
      rw [zonePower_congr hset, powerOf_congr hset, Nat.cast_add, ← Int.sub_sub, List.length_cons, Nat.add_assoc,
        Nat.add_comm 1, Nat.add_assoc]
      rfl

/-- The shedding that a BUDGET write forces: what is taken until H + R is within C (R169). -/
theorem shedToBudget_eq {ps : List (StationId × ZoneNum)} {s : State} (hnodup : ps.Nodup) (hon : ∀ p ∈ ps, s.zoneOn p = true) :
    shedToBudget ps s = shedAll
      (untilMet s.zonePower ((s.heatLoad : Int) + s.settings.budget.reserve - s.settings.budget.capacity) ps) s := by
  induction ps generalizing s with
  | nil => rfl
  | cons p ps ih =>
    obtain ⟨hp, hps⟩ := List.nodup_cons.mp hnodup
    by_cases hmet : s.heatLoad + s.settings.budget.reserve ≤ s.settings.budget.capacity
    · rw [untilMet_of_le _ (by omega)]
      exact if_pos hmet
    · have hload : s.heatLoad = s.zonePower p + (shedZone p s).heatLoad :=
        heatLoad_shedAll (ps := [p]) (List.nodup_singleton p) fun q hq => hon q (by simp_all)
      have hrest : ∀ q ∈ ps, (shedZone p s).zoneOn q = true := fun q hq =>
        (shedAll_zoneOn [p] s q).mpr ⟨hon q (by simp [hq]), fun hqp => hp (by simp_all)⟩
      rw [untilMet_cons_of_pos p ps (by omega), shedToBudget, if_neg hmet, ih hps hrest,
        zonePower_congr (s := s) (t := shedZone p s) rfl]
      have hneed : ((shedZone p s).heatLoad : Int) + (shedZone p s).settings.budget.reserve
          - (shedZone p s).settings.budget.capacity
          = (s.heatLoad : Int) + s.settings.budget.reserve - s.settings.budget.capacity - s.zonePower p := by
        rw [show (shedZone p s).settings = s.settings from rfl]
        omega
      rw [hneed]
      rfl

/-- The admission of zones: whatever still fits the headroom (R161). -/
theorem admitZones_eq (ps : List (StationId × ZoneNum)) (room : Int) (s : State) :
    admitZones ps room s = admitAll (fitting s.zonePower room ps) s := by
  induction ps generalizing s room with
  | nil => rfl
  | cons p ps ih =>
    unfold admitZones fitting
    split
    · rw [ih, zonePower_congr (s := s) (t := admitZone p s) rfl]
      rfl
    · exact ih room s

/-! ### The order of shedding (R56) -/

theorem shedFirst_iff {s : State} {p q : StationId × ZoneNum} :
    shedFirst s p q = true ↔
      (s.zoneRecord q.1 q.2).priority < (s.zoneRecord p.1 p.2).priority
        ∨ ((s.zoneRecord p.1 p.2).priority = (s.zoneRecord q.1 q.2).priority
          ∧ (s.onTime q < s.onTime p
            ∨ (s.onTime p = s.onTime q ∧ (zoneIndex p.1 p.2).val ≤ (zoneIndex q.1 q.2).val))) := by
  simp only [shedFirst, Bool.or_eq_true, Bool.and_eq_true, decide_eq_true_eq, beq_iff_eq]

theorem zoneIndex_val_ne {p q : StationId × ZoneNum} (h : p ≠ q) : (zoneIndex p.1 p.2).val ≠ (zoneIndex q.1 q.2).val :=
  fun he => h (Prod.ext_iff.mpr (zoneIndex_injective (Fin.ext he)))

/-- The order of shedding is total, so that its sort puts any two different zones in the order of R56. -/
theorem shedBefore_of_shedFirst {s : State} {p q : StationId × ZoneNum} (h : shedFirst s p q = true) (hne : p ≠ q) :
    shedBefore s p q := by
  have hindex := zoneIndex_val_ne hne
  refine (shedFirst_iff.mp h).imp id fun ⟨hprio, htime⟩ => ⟨hprio, htime.imp id fun ⟨heq, hle⟩ => ⟨heq, ?_⟩⟩
  omega

theorem shedBefore_asymm {s : State} {p q : StationId × ZoneNum} (h : shedBefore s p q) : ¬shedBefore s q p := by
  unfold shedBefore at *
  omega

theorem shedOrder_pairwise (s : State) (ps : List (StationId × ZoneNum)) :
    (shedOrder s ps).Pairwise fun p q => shedFirst s p q = true := by
  have htotal : Std.Total fun p q : StationId × ZoneNum => shedFirst s p q = true :=
    ⟨fun p q => by simp only [shedFirst_iff]; omega⟩
  have htrans : IsTrans (StationId × ZoneNum) fun p q => shedFirst s p q = true :=
    ⟨fun p q r hpq hqr => by simp only [shedFirst_iff] at *; omega⟩
  exact List.pairwise_insertionSort _ ps

theorem mem_shedOrder {s : State} {ps : List (StationId × ZoneNum)} {p : StationId × ZoneNum} :
    p ∈ shedOrder s ps ↔ p ∈ ps :=
  List.mem_insertionSort _

theorem shedOrder_nodup {s : State} {ps : List (StationId × ZoneNum)} (h : ps.Nodup) : (shedOrder s ps).Nodup :=
  (List.perm_insertionSort _ ps).nodup_iff.mpr h

/-! ### What an event turns -/

/-- Between `s` and `t` the zones of `shed` went from ON to SHED and those of `adm` from WAIT to ON, and no other zone has
changed, but for the mismatch deadlines (R56, R161, R165). -/
structure HeatTurned (shed adm : List (StationId × ZoneNum)) (s t : State) : Prop where
  on : ∀ p ∈ shed, (s.zone p.1 p.2).state = .on
  waiting : ∀ p ∈ adm, (s.zone p.1 p.2).state = .wait
  zone : ∀ n z, Zone.alike
    (if (n, z) ∈ shed then (s.zone n z).leave .shed s.now
      else if (n, z) ∈ adm then (s.zone n z).enter s.now else s.zone n z) (t.zone n z)

section
variable {shed adm : List (StationId × ZoneNum)} {s t : State} {n : StationId} {z : ZoneNum}

theorem HeatTurned.ports {u : State} (h : HeatTurned shed adm s t) (k : OnlyPorts t u) : HeatTurned shed adm s u :=
  ⟨h.on, h.waiting, fun n z => (h.zone n z).trans ((k.same n).zone z)⟩

theorem HeatTurned.zone_shed (h : HeatTurned shed adm s t) (hp : (n, z) ∈ shed) :
    ((s.zone n z).leave .shed s.now).alike (t.zone n z) := by
  have := h.zone n z
  rwa [if_pos hp] at this

theorem HeatTurned.zone_admitted (h : HeatTurned shed adm s t) (hp : (n, z) ∈ adm) :
    ((s.zone n z).enter s.now).alike (t.zone n z) := by
  have hnot : (n, z) ∉ shed := fun hs => absurd ((h.on _ hs).symm.trans (h.waiting _ hp)) (by decide)
  have := h.zone n z
  rwa [if_neg hnot, if_pos hp] at this

theorem HeatTurned.zone_other (h : HeatTurned shed adm s t) (hs : (n, z) ∉ shed) (ha : (n, z) ∉ adm) :
    (s.zone n z).alike (t.zone n z) := by
  have := h.zone n z
  rwa [if_neg hs, if_neg ha] at this

/-- The state each zone is left in. -/
theorem HeatTurned.state (h : HeatTurned shed adm s t) (n : StationId) (z : ZoneNum) :
    (t.zone n z).state = if (n, z) ∈ shed then .shed else if (n, z) ∈ adm then .on else (s.zone n z).state := by
  rw [(Zone.alike_iff.mp (h.zone n z)).1]
  split_ifs <;> rfl

theorem HeatTurned.mem_turned_shed (h : HeatTurned shed adm s t) {p : StationId × ZoneNum} :
    p ∈ turned .on .shed s t ↔ p ∈ shed := by
  rw [turned, List.mem_filter, Bool.and_eq_true, beq_iff_eq, beq_iff_eq, h.state]
  have := h.on p
  refine ⟨fun ⟨_, hon, hshed⟩ => ?_, fun hp => ⟨mem_allZones p, this hp, if_pos hp⟩⟩
  by_contra hp
  rw [if_neg hp] at hshed
  split_ifs at hshed
  exact absurd (hon.symm.trans hshed) (by decide)

theorem HeatTurned.mem_turned_admitted (h : HeatTurned shed adm s t) {p : StationId × ZoneNum} :
    p ∈ turned .wait .on s t ↔ p ∈ adm := by
  rw [turned, List.mem_filter, Bool.and_eq_true, beq_iff_eq, beq_iff_eq, h.state]
  have hwaiting := h.waiting p
  have hon := h.on p
  refine ⟨fun ⟨_, hwait, hturned⟩ => ?_, fun hp => ⟨mem_allZones p, hwaiting hp, ?_⟩⟩
  · by_contra hp
    split_ifs at hturned
    exact absurd (hwait.symm.trans hturned) (by decide)
  · rw [if_neg fun hs => absurd ((hon hs).symm.trans (hwaiting hp)) (by decide), if_pos hp]

theorem HeatTurned.turned_shed_perm (h : HeatTurned shed adm s t) (hnodup : shed.Nodup) :
    (turned .on .shed s t).Perm shed :=
  (List.perm_ext_iff_of_nodup (nodup_allZones.filter _) hnodup).mpr fun _ => h.mem_turned_shed

theorem HeatTurned.turned_admitted_perm (h : HeatTurned shed adm s t) (hnodup : adm.Nodup) :
    (turned .wait .on s t).Perm adm :=
  (List.perm_ext_iff_of_nodup (nodup_allZones.filter _) hnodup).mpr fun _ => h.mem_turned_admitted

/-- A zone shed and one admitted each change the mask of their station (R168). -/
theorem onMask_ne_of_turned (h : ∃ z, ¬((s.zone n z).state = .on ↔ (t.zone n z).state = .on)) : s.onMask n ≠ t.onMask n := by
  obtain ⟨z, hz⟩ := h
  intro hmask
  have hbit : (onMaskOf (s.station n)).getLsbD z.val = (onMaskOf (t.station n)).getLsbD z.val := by
    rw [← State.onMask_eq, ← State.onMask_eq, hmask]
  rw [onMaskOf_getLsbD, onMaskOf_getLsbD, Bool.eq_iff_iff, beq_iff_eq, beq_iff_eq] at hbit
  exact hz hbit

end

/-- Candidates in the order of shedding, shed until the need is met, are shed as R56 says. -/
theorem shedInOrder_of_untilMet {candidate : StationId × ZoneNum → Prop} {need : Int} {s t : State}
    {l adm : List (StationId × ZoneNum)} (hcand : ∀ p, candidate p ↔ p ∈ l) (hnodup : l.Nodup)
    (hsort : l.Pairwise fun p q => shedFirst s p q = true) (h : HeatTurned (untilMet s.zonePower need l) adm s t) :
    shedInOrder candidate need s t := by
  obtain ⟨rest, hrest⟩ := exists_untilMet_append s.zonePower need l
  have htaken := untilMet_nodup (weight := s.zonePower) need hnodup
  have hpower : powerOf s (turned .on .shed s t) = powerOf s (untilMet s.zonePower need l) :=
    powerOf_perm s (h.turned_shed_perm htaken)
  unfold shedInOrder
  simp only [h.mem_turned_shed, hpower]
  refine ⟨fun p hp => ⟨(hcand p).mpr (untilMet_subset hp), ?_, ?_, fun q _ hq hnot => ?_, fun hlast => ?_⟩, ?_⟩
  · exact (Zone.alike_iff.mp (h.zone_shed hp)).2.2.2.1
  · exact (Zone.alike_iff.mp (h.zone_shed hp)).2.1
  · have hq' : q ∈ rest := by
      rw [hcand, hrest] at hq
      exact (List.mem_append.mp hq).resolve_left hnot
    rw [hrest, List.pairwise_append] at hsort
    exact shedBefore_of_shedFirst (hsort.2.2 p hp q hq') fun he => hnot (he ▸ hp)
  · obtain ⟨pre, post, hsplit⟩ := List.append_of_mem hp
    have hpost : post = [] := by
      rw [List.eq_nil_iff_forall_not_mem]
      intro q hq
      rw [hsplit] at htaken
      have hqp : q ≠ p := fun he => (List.nodup_cons.mp htaken.of_append_right).1 (he ▸ hq)
      have hsorted : (pre ++ p :: post).Pairwise fun p q => shedFirst s p q = true := by
        rw [← hsplit]
        rw [hrest] at hsort
        exact (List.pairwise_append.mp hsort).1
      have hafter := (List.pairwise_cons.mp (List.pairwise_append.mp hsorted).2.1).1 q hq
      exact shedBefore_asymm (hlast q (by rw [hsplit]; simp [hq]) hqp) (shedBefore_of_shedFirst hafter hqp.symm)
    have hless := sum_lt_of_untilMet hsplit
    rw [hsplit, hpost, powerOf, List.map_append, List.sum_append, List.map_singleton, List.sum_singleton, Nat.cast_add]
    exact Int.add_lt_add_right hless _
  · exact (untilMet_met s.zonePower need l).imp id fun hall q _ hq => by rw [hall]; exact (hcand q).mp hq

end Sys2Proof.Machine
end

section
/-! SUPPORT. One allocation (R47, R53 to R62, R161, R168): its stages by name, what it leaves of every record and zone, and the
offers that follow it. -/

namespace Sys2Proof.Machine

/-! ### The stages of an allocation -/

/-- The zones that an allocation sheds (R55, R56). -/
def State.shedZones (s : State) (k : AllocKind) : List (StationId × ZoneNum) :=
  untilMet s.zonePower ((s.demandW k : Int) - s.room) (shedOrder s (s.candidates k))

/-- The state once an allocation has shed. -/
def State.afterShed (s : State) (k : AllocKind) : State := shedAll (s.shedZones k) s

/-- The scale of an allocation (R54). -/
def State.scaleFor (s : State) (k : AllocKind) : Nat := scaleOf (s.demandW k) (s.afterShed k).room

/-- The record of a station as an allocation grants it (R58 to R60). -/
def State.grantedRecord (s : State) (k : AllocKind) (n : StationId) (st : Station) : Station :=
  st.granted k (s.memberOf k n) (s.scaleFor k) (heatHeld s (s.afterShed k) k)

/-- The state once an allocation has granted. -/
def State.afterGrants (s : State) (k : AllocKind) : State := (s.afterShed k).mapStations (s.grantedRecord k)

/-- The headroom an allocation leaves (R61). -/
def State.headroomFor (s : State) (k : AllocKind) : Int := (s.afterShed k).afterHold - (s.afterGrants k).grantedW

/-- The record of an allocation (R48). -/
def State.recordFor (s : State) (k : AllocKind) : AllocRecord where
  kind := k
  time := s.now
  members := (stationIds.filter (s.memberOf k)).length
  demandW := s.demandW k
  holdW := s.holdW
  heatW := (s.afterShed k).heatLoad
  roomW := (s.afterShed k).room
  scale := s.scaleFor k
  shedCount := (s.shedZones k).length
  shedW := powerOf s (s.shedZones k)
  headroomW := s.headroomFor k

/-- The zones that an allocation admits (R161). -/
def State.admittedZones (s : State) (k : AllocKind) : List (StationId × ZoneNum) :=
  fitting s.zonePower (s.headroomFor k) (admissionOrder s)

theorem allocationShed_eq (k : AllocKind) (s : State) :
    allocationShed k s = (s.afterShed k, (s.shedZones k).length, powerOf s (s.shedZones k)) := by
  unfold allocationShed State.afterShed State.shedZones
  split
  · next h =>
    rw [untilMet_of_le _ (by omega)]
    rfl
  · next h =>
    rw [shedUntil_eq, Nat.cast_zero, Int.sub_zero, Nat.cast_sub (not_le.mp h).le, Nat.zero_add, Nat.zero_add]

section
variable {s : State} {k : AllocKind} {p : StationId × ZoneNum}

theorem State.mem_drawing : p ∈ s.drawing ↔ (s.zone p.1 p.2).state = .on ∧ 1 ≤ (s.zoneRecord p.1 p.2).powerW := by
  rw [State.drawing, List.mem_filter, Bool.and_eq_true, decide_eq_true_eq, State.zoneOn, beq_iff_eq, State.zonePower,
    and_iff_right (mem_allZones p)]

theorem State.drawing_nodup : s.drawing.Nodup := nodup_allZones.filter _

theorem sinceAtLeast_iff {start : Option Time} {ms : Nat} {now : Time} :
    sinceAtLeast start ms now = true ↔ ∃ t ∈ start, ms ≤ (now - t).toNat := by
  cases start <;> simp [sinceAtLeast]

/-- The candidates of an allocation, in the words of R55. -/
theorem State.mem_candidates :
    p ∈ s.candidates k ↔
      (s.zone p.1 p.2).state = .on ∧ 1 ≤ (s.zoneRecord p.1 p.2).powerW
        ∧ (k ≠ .stow →
            s.settings.budget.meltPriority ≠ 1 ∧ 1 ≤ (s.zoneRecord p.1 p.2).priority
              ∧ ((s.zone p.1 p.2).minOnReached = true
                ∨ ∃ start ∈ (s.zone p.1 p.2).onStart, (s.zoneRecord p.1 p.2).minOn ≤ (s.now - start).toNat)) := by
  have hother : ∀ melt : Prop, ∀ [Decidable melt],
      (p ∈ if melt then [] else s.drawing.filter fun p =>
        decide (1 ≤ (s.zoneRecord p.1 p.2).priority) && s.minOnReached p.1 p.2) ↔
      p ∈ s.drawing ∧ ¬melt ∧ 1 ≤ (s.zoneRecord p.1 p.2).priority ∧ s.minOnReached p.1 p.2 = true := by
    intro melt _
    split
    · next h => simp [h]
    · next h => simp [h]
  rw [← sinceAtLeast_iff, ← Bool.or_eq_true, ← and_assoc, ← State.mem_drawing]
  cases k with
  | stow => simp [State.candidates]
  | none | batch =>
    simp only [State.candidates, hother, ne_eq, reduceCtorEq, not_false_eq_true, true_imp_iff]
    rfl

theorem State.candidates_nodup : (s.candidates k).Nodup := by
  unfold State.candidates
  split
  · exact State.drawing_nodup
  · split
    · exact List.nodup_nil
    · exact State.drawing_nodup.filter _

theorem State.shedZones_nodup : (s.shedZones k).Nodup := untilMet_nodup _ (shedOrder_nodup State.candidates_nodup)

theorem State.shedZones_on (h : p ∈ s.shedZones k) : (s.zone p.1 p.2).state = .on :=
  (State.mem_candidates.mp (mem_shedOrder.mp (untilMet_subset h))).1

theorem mem_admissionOrder :
    p ∈ admissionOrder s ↔ (s.zone p.1 p.2).state = .wait ∧ (s.zoneRecord p.1 p.2).priority ≤ 3 := by
  have hprio : ∀ a : Nat, (∃ b ∈ ([0, 1, 2, 3] : List Nat), a = b) ↔ a ≤ 3 := fun a => by
    simp only [List.mem_cons, List.not_mem_nil, or_false, exists_eq_or_imp, exists_eq_left]
    omega
  simp only [admissionOrder, List.mem_flatMap, List.mem_filter, mem_allZones, true_and, Bool.and_eq_true, beq_iff_eq]
  rw [← hprio]
  tauto

theorem State.admittedZones_waiting (h : p ∈ s.admittedZones k) : (s.zone p.1 p.2).state = .wait :=
  (mem_admissionOrder.mp ((fitting_sublist _ _).subset h)).1

/-- Zones in the order of admission: priority 0 first, then ascending station and zone (R161). -/
theorem admissionOrder_pairwise : (admissionOrder s).Pairwise fun p q => admitBefore s p q = true := by
  have hindex : allZones.Pairwise fun p q => (zoneIndex p.1 p.2).val < (zoneIndex q.1 q.2).val := by decide
  unfold admissionOrder
  rw [List.pairwise_flatMap]
  refine ⟨fun a _ => ?_, ?_⟩
  · refine (hindex.filter _).imp_of_mem fun {p q} hp hq hpq => ?_
    have hp := (List.mem_filter.mp hp).2
    have hq := (List.mem_filter.mp hq).2
    simp only [Bool.and_eq_true, beq_iff_eq] at hp hq
    rw [admitBefore, decide_eq_true_eq]
    exact .inr ⟨hp.2.trans hq.2.symm, hpq⟩
  · have hasc : ([0, 1, 2, 3] : List Nat).Pairwise (· < ·) := by decide
    refine hasc.imp fun {a b} hab p hp q hq => ?_
    have hp := (List.mem_filter.mp hp).2
    have hq := (List.mem_filter.mp hq).2
    simp only [Bool.and_eq_true, beq_iff_eq] at hp hq
    rw [admitBefore, decide_eq_true_eq, hp.2, hq.2]
    exact .inl hab

theorem admitBefore_irrefl (p : StationId × ZoneNum) : admitBefore s p p = false := by
  simp [admitBefore]

theorem admitBefore_asymm {q : StationId × ZoneNum} (h : admitBefore s p q = true) : admitBefore s q p = false := by
  unfold admitBefore at *
  rw [decide_eq_false_iff_not]
  rw [decide_eq_true_eq] at h
  omega

theorem admissionOrder_nodup : (admissionOrder s).Nodup :=
  admissionOrder_pairwise.imp fun {p q} h he => by
    rw [he, admitBefore_irrefl] at h
    exact absurd h (by simp)

theorem State.admittedZones_nodup : (s.admittedZones k).Nodup := admissionOrder_nodup.sublist (fitting_sublist _ _)

/-- Whether a zone in WAIT is admitted rests on what those before it take of the headroom (R161). -/
theorem State.mem_admittedZones_iff (hp : p ∈ admissionOrder s) :
    p ∈ s.admittedZones k ↔
      ((s.zoneRecord p.1 p.2).powerW : Int)
        ≤ s.headroomFor k - powerOf s ((s.admittedZones k).filter fun q => admitBefore s q p) := by
  obtain ⟨pre, post, hsplit⟩ := List.append_of_mem hp
  have hnodup := admissionOrder_nodup (s := s)
  have hpair := admissionOrder_pairwise (s := s)
  rw [hsplit] at hnodup hpair
  obtain ⟨-, hright, hcross⟩ := List.pairwise_append.mp hpair
  have hpost := (List.pairwise_cons.mp hright).1
  have hbefore : (s.admittedZones k).filter (fun q => admitBefore s q p) = fitting s.zonePower (s.headroomFor k) pre := by
    rw [State.admittedZones, hsplit, fitting_append, List.filter_append]
    rw [List.filter_eq_self.mpr, List.filter_eq_nil_iff.mpr, List.append_nil]
    · intro q hq
      rw [Bool.not_eq_true]
      rcases List.mem_cons.mp ((fitting_sublist _ _).subset hq) with rfl | hq
      · exact admitBefore_irrefl _
      · exact admitBefore_asymm (hpost q hq)
    · exact fun q hq => hcross q ((fitting_sublist _ _).subset hq) p List.mem_cons_self
  rw [hbefore, State.admittedZones, hsplit]
  exact mem_fitting_iff hnodup

end

/-! ### What granting leaves alone -/

theorem State.afterShed_zones (s : State) (k : AllocKind) : OnlyZones s (s.afterShed k) := shedAll_zones _ s

theorem State.afterGrants_station (s : State) (k : AllocKind) (n : StationId) :
    (s.afterGrants k).station n = s.grantedRecord k n ((s.afterShed k).station n) :=
  State.mapStations_station _ _ n

theorem Station.granted_zones (st : Station) (k : AllocKind) (member : Bool) (scale : Nat) (held : Bool) :
    (st.granted k member scale held).zones = st.zones := by
  unfold Station.granted
  split <;> rfl

theorem State.afterGrants_zone (s : State) (k : AllocKind) (n : StationId) (z : ZoneNum) :
    (s.afterGrants k).zone n z = (s.afterShed k).zone n z := by
  unfold State.zone
  rw [State.afterGrants_station, State.grantedRecord, Station.granted_zones]

/-- The state once an allocation has granted and made its record. -/
def State.afterRecord (s : State) (k : AllocKind) : State := { s.afterGrants k with alloc := s.recordFor k }

/-- No zone that is shed waits before or after, so that the order of admission is that of the start. -/
theorem State.afterRecord_admissionOrder (s : State) (k : AllocKind) : admissionOrder (s.afterRecord k) = admissionOrder s := by
  unfold admissionOrder
  congr 1
  funext a
  refine List.filter_congr fun p _ => ?_
  have hwait : ((s.afterRecord k).zone p.1 p.2).state = .wait ↔ (s.zone p.1 p.2).state = .wait := by
    refine (iff_of_eq (congrArg (fun x : Zone => x.state = .wait) (s.afterGrants_zone k p.1 p.2))).trans ?_
    rw [State.afterShed, shedAll_zone]
    split
    · next hp => rw [State.shedZones_on hp]; exact iff_of_false (by simp [Zone.leave]) (by simp)
    · rfl
  have hrecord : (s.afterRecord k).zoneRecord p.1 p.2 = s.zoneRecord p.1 p.2 := (s.afterShed_zones k).only.zoneRecord p.1 p.2
  rw [hrecord, Bool.eq_iff_iff]
  simp only [Bool.and_eq_true, beq_iff_eq]
  exact and_congr_left' hwait

/-- The state of an allocation before its HEAT markers. -/
def State.afterAdmission (s : State) (k : AllocKind) : State := admitAll (s.admittedZones k) (s.afterRecord k)

theorem allocate_eq (k : AllocKind) (s : State) : allocate k s = offerHeatMarkers s (s.afterAdmission k) := by
  have hstages : allocate k s =
      offerHeatMarkers s (admitZones (admissionOrder (s.afterRecord k)) (s.headroomFor k) (s.afterRecord k)) := by
    unfold allocate
    simp only [allocationShed_eq]
    rfl
  have hpower : (s.afterRecord k).zonePower = s.zonePower := zonePower_congr (s.afterShed_zones k).only.settings
  rw [hstages, admitZones_eq, State.afterRecord_admissionOrder, hpower]
  rfl

end Sys2Proof.Machine
end

section
/-! SUPPORT. What an allocation leaves, up to the offers that follow it (`Allocates`), and the batch and the stow refresh as
allocations; then O17 (R58, R61, R161). -/

namespace Sys2Proof.Machine

/-! ### Steps that each change the record of their own station -/

/-- A step that reaches the record of the station it names, and nothing else but the Fault Table and the attention unit. -/
structure OwnRecord (step : State → StationId → State) : Prop where
  only : ∀ s n, OnlyStations s (step s n)
  other : ∀ s n m, m ≠ n → (step s n).station m = s.station m

theorem OwnRecord.foldl_outside {step : State → StationId → State} (h : OwnRecord step) {l : List StationId} {n : StationId}
    (s : State) (hn : n ∉ l) : (l.foldl step s).station n = s.station n := by
  induction l generalizing s with
  | nil => rfl
  | cons m l ih =>
    rw [List.mem_cons, not_or] at hn
    rw [List.foldl_cons, ih _ hn.2, h.other s m n hn.1]

/-- A station named once finds its record as it was at the start, and leaves it as its own step does. -/
theorem OwnRecord.foldl_inside {step : State → StationId → State} (h : OwnRecord step) {l : List StationId} {n : StationId}
    (s : State) (hl : l.Nodup) (hn : n ∈ l) :
    ∃ u, OnlyStations s u ∧ u.station n = s.station n ∧ (l.foldl step s).station n = (step u n).station n := by
  induction l generalizing s with
  | nil => exact absurd hn (by simp)
  | cons m l ih =>
    obtain ⟨hm, hl⟩ := List.nodup_cons.mp hl
    rw [List.foldl_cons]
    rcases List.mem_cons.mp hn with rfl | hn
    · exact ⟨s, .refl s, rfl, h.foldl_outside _ hm⟩
    · obtain ⟨u, honly, hst, hstep⟩ := ih (step s m) hl hn
      have hne : n ≠ m := fun he => hm (he ▸ hn)
      exact ⟨u, (h.only s m).trans honly, hst.trans (h.other s m n hne), hstep⟩

theorem markAt_own (s0 : State) : OwnRecord fun s n => markAt n s0 s where
  only s n := (markAt_ports n s0 s).only
  other s _ _ h := markAt_station_ne s0 s h

theorem offerGrant_own : OwnRecord offerGrant where
  only s n := (offerGrant_ports s n).only
  other s n m h := offer_station_ne n m _ s h

theorem offerStow_own (clamped : StationId → Bool) : OwnRecord (offerStow clamped) where
  only := offerStow_only clamped
  other s n m h := by
    unfold offerStow
    simp only
    rw [offerGrant_own.other _ n m h]
    split
    · rw [setClip, State.updStation_station, if_neg h]
    · rfl

/-- Each station is offered the marker of its own zones (R168). -/
theorem offerHeatMarkers_offers (s0 s : State) (n : StationId) :
    Offers s.nodeAddress (markOf n s0 s) (s.station n) ((offerHeatMarkers s0 s).station n) := by
  obtain ⟨u, honly, hst, hstep⟩ := (markAt_own s0).foldl_inside s nodup_stationIds (mem_stationIds n)
  have hoffers := markAt_offers n s0 u
  have hmark : markOf n s0 u = markOf n s0 s := by
    unfold markOf
    rw [State.onMask_eq u, hst]
    rfl
  rw [hmark, hst, honly.nodeAddress, ← hstep] at hoffers
  exact hoffers

/-! ### What an allocation leaves -/

/-- Two records that differ at most in the port, the zones and the clip causes. -/
def Station.sameDrive (a b : Station) : Prop :=
  b = { a with
    queue := b.queue, tx := b.tx, lastSent := b.lastSent, commandedMask := b.commandedMask, zones := b.zones
    clipStatus := b.clipStatus, clipLog := b.clipLog }

theorem Station.sameDrive.trans {a b c : Station} (h : a.sameDrive b) (k : b.sameDrive c) : a.sameDrive c := by
  unfold Station.sameDrive at *
  rw [h] at k
  exact k

theorem SameBody.sameDrive {a b : Station} (h : SameBody a b) : a.sameDrive b := by
  obtain ⟨hsame, -⟩ := h.sameButPort
  unfold Station.sameDrive
  rw [hsame]

theorem Station.sameDrive.authorityOf {a b : Station} (h : a.sameDrive b) (stow : Bool) :
    authorityOf stow b = authorityOf stow a := by
  rw [h]
  rfl

/-- What an allocation of `s` leaves, whatever has been offered to the stations and added to their clip causes since. -/
structure Allocates (k : AllocKind) (s t : State) : Prop where
  settings : t.settings = s.settings
  wind : t.wind = s.wind
  alloc : t.alloc = s.recordFor k
  record : ∀ n, (s.grantedRecord k n (s.station n)).sameDrive (t.station n)
  heat : HeatTurned (s.shedZones k) (s.admittedZones k) s t

section
variable {k : AllocKind} {s t u : State}

theorem Allocates.ports (h : Allocates k s t) (p : OnlyPorts t u) : Allocates k s u where
  settings := p.only.settings.trans h.settings
  wind := p.only.wind.trans h.wind
  alloc := p.only.alloc.trans h.alloc
  record n := (h.record n).trans (p.same n).sameDrive
  heat := h.heat.ports p

theorem Allocates.setClip (h : Allocates k s t) (n : StationId) (c : ClipSet) : Allocates k s (setClip n c t) where
  settings := h.settings
  wind := h.wind
  alloc := h.alloc
  record m := by
    refine (h.record m).trans ?_
    rw [setClip_eq, State.updStation_station]
    split
    · next hm => subst hm; rfl
    · rfl
  heat := ⟨h.heat.on, h.heat.waiting, fun m z => by
    have hz : (Machine.setClip n c t).zone m z = t.zone m z := by
      unfold State.zone
      rw [setClip_eq, State.updStation_station]
      split
      · next hm => subst hm; rfl
      · rfl
    rw [hz]
    exact h.heat.zone m z⟩

theorem Allocates.examine (h : Allocates k s t) : Allocates k s (examine t) := by
  have hkeeps := examine_keeps t
  have hwind : (Machine.examine t).wind = t.wind := by rw [examine_eq]
  have halloc : (Machine.examine t).alloc = t.alloc := by rw [examine_eq]
  refine ⟨hkeeps.settings.trans h.settings, hwind.trans h.wind, halloc.trans h.alloc, fun n => ?_, h.heat.on, h.heat.waiting,
    fun n z => ?_⟩
  · rw [examine_station]
    exact h.record n
  · have hzone : (Machine.examine t).zone n z = t.zone n z := by
      unfold State.zone
      rw [examine_station]
    rw [hzone]
    exact h.heat.zone n z

theorem Allocates.foldl {step : State → StationId → State} (hstep : ∀ u n, Allocates k s u → Allocates k s (step u n))
    (l : List StationId) (h : Allocates k s t) : Allocates k s (l.foldl step t) := by
  induction l generalizing t with
  | nil => exact h
  | cons n l ih => exact ih (hstep t n h)

end

/-- The record of a station once its allocation has granted, shed and admitted. -/
theorem State.afterAdmission_station (s : State) (k : AllocKind) (n : StationId) :
    (s.afterAdmission k).station n =
      { s.grantedRecord k n (s.station n) with zones := ((s.afterAdmission k).station n).zones } := by
  rw [State.afterAdmission, (admitAll_zones _ _).record n]
  have hgrants : (s.afterRecord k).station n = s.grantedRecord k n ((s.afterShed k).station n) := s.afterGrants_station k n
  rw [hgrants, (s.afterShed_zones k).record n, State.grantedRecord, State.grantedRecord]
  unfold Station.granted
  split <;> rfl

theorem State.afterAdmission_heat (s : State) (k : AllocKind) :
    HeatTurned (s.shedZones k) (s.admittedZones k) s (s.afterAdmission k) := by
  refine ⟨fun p => State.shedZones_on, fun p => State.admittedZones_waiting, fun n z => ?_⟩
  have hzone : (s.afterRecord k).zone n z = (s.afterShed k).zone n z := s.afterGrants_zone k n z
  have hnow : (s.afterRecord k).now = s.now := (s.afterShed_zones k).only.now
  rw [State.afterAdmission, admitAll_zone, hzone, hnow, State.afterShed, shedAll_zone]
  by_cases hs : (n, z) ∈ s.shedZones k
  · have ha : (n, z) ∉ s.admittedZones k := fun ha =>
      absurd ((State.shedZones_on hs).symm.trans (State.admittedZones_waiting ha)) (by decide)
    rw [if_pos hs, if_pos hs, if_neg ha]
    exact .refl _
  · rw [if_neg hs, if_neg hs]
    exact .refl _

theorem State.afterAdmission_allocates (s : State) (k : AllocKind) : Allocates k s (s.afterAdmission k) where
  settings := (admitAll_zones _ (s.afterRecord k)).only.settings.trans (s.afterShed_zones k).only.settings
  wind := (admitAll_zones _ (s.afterRecord k)).only.wind.trans (s.afterShed_zones k).only.wind
  alloc := (admitAll_zones _ (s.afterRecord k)).only.alloc
  record n := by
    unfold Station.sameDrive
    rw [s.afterAdmission_station k n]
  heat := s.afterAdmission_heat k

theorem allocate_allocates (k : AllocKind) (s : State) : Allocates k s (allocate k s) := by
  rw [allocate_eq]
  exact (s.afterAdmission_allocates k).ports (offerHeatMarkers_ports s _)

/-! ### What follows for motion (R52, R53, R58) -/

theorem State.grantedRecord_fields (s : State) (k : AllocKind) (n : StationId) (st : Station) :
    (s.grantedRecord k n st).demand = st.demand ∧ (s.grantedRecord k n st).stale = st.stale
      ∧ (∀ stow, authorityOf stow (s.grantedRecord k n st) = authorityOf stow st)
      ∧ (s.grantedRecord k n st).grant = if s.memberOf k n then grantOf st.demand (s.scaleFor k) else noGrant := by
  unfold State.grantedRecord Station.granted
  cases s.memberOf k n <;> exact ⟨rfl, rfl, fun _ => rfl, rfl⟩

section
variable {k : AllocKind} {s t : State}

theorem Allocates.demand (h : Allocates k s t) (n : StationId) : (t.station n).demand = (s.station n).demand := by
  rw [h.record n]
  exact (s.grantedRecord_fields k n _).1

theorem Allocates.stale (h : Allocates k s t) (n : StationId) : (t.station n).stale = (s.station n).stale := by
  rw [h.record n]
  exact (s.grantedRecord_fields k n _).2.1

theorem Allocates.authority (h : Allocates k s t) (n : StationId) : t.authority n = s.authority n := by
  unfold State.authority
  rw [stowActive_of_wind h.wind, (h.record n).authorityOf]
  exact (s.grantedRecord_fields k n _).2.2.1 _

theorem Allocates.grant (h : Allocates k s t) (n : StationId) :
    (t.station n).grant = if s.memberOf k n then grantOf (s.station n).demand (s.scaleFor k) else noGrant := by
  rw [h.record n]
  exact (s.grantedRecord_fields k n _).2.2.2

theorem Allocates.envelope (h : Allocates k s t) (n : StationId) : t.envelope n = s.envelope n := by
  unfold State.envelope
  rw [h.settings]

theorem Allocates.zoneRecord (h : Allocates k s t) (n : StationId) (z : ZoneNum) : t.zoneRecord n z = s.zoneRecord n z := by
  unfold State.zoneRecord
  rw [h.settings]

end

/-! ### The feed (R54, R58, R61, R161) -/

theorem scaleOf_le (demand room : Nat) : scaleOf demand room ≤ 1024 := by
  unfold scaleOf
  split
  · exact le_rfl
  · next h => exact Nat.div_le_of_le_mul (Nat.mul_le_mul_right 1024 (not_le.mp h).le)

/-- A demand at its scale fits the room (R54, R58). -/
theorem mul_scaleOf_le (demand room : Nat) : demand * scaleOf demand room / 1024 ≤ room := by
  unfold scaleOf
  split
  · next h => rwa [Nat.mul_div_cancel _ (by decide)]
  · exact Nat.div_le_of_le_mul ((Nat.mul_div_le _ _).trans (Nat.mul_comm _ _).le)

theorem scaled_le (v demand room : Nat) : v * scaleOf demand room / 1024 ≤ v :=
  Nat.div_le_of_le_mul ((Nat.mul_le_mul_left v (scaleOf_le demand room)).trans (Nat.mul_comm _ _).le)

theorem OnlyZones.holdW {s t : State} (h : OnlyZones s t) : t.holdW = s.holdW := by
  have hauth : t.authority = s.authority := funext h.authority
  have henv : t.envelope = s.envelope := funext h.only.envelope
  unfold State.holdW
  rw [hauth, henv]

/-- C − R − H − Hold once an allocation has shed (R53). -/
theorem State.afterShed_afterHold (s : State) (k : AllocKind) :
    (s.afterShed k).afterHold =
      (s.settings.budget.capacity : Int) - s.settings.budget.reserve - (s.afterShed k).heatLoad - s.holdW := by
  unfold State.afterHold
  rw [(s.afterShed_zones k).holdW, (s.afterShed_zones k).only.settings]

section
variable {k : AllocKind} {s t : State}

/-- The granted watts are the members' demands at the scale (R58). -/
theorem grantedW_of_grants (h : ∀ n, (t.station n).grant =
      if s.memberOf k n then grantOf (s.station n).demand (s.scaleFor k) else noGrant) :
    t.grantedW = ((stationIds.filter (s.memberOf k)).map fun n => (s.station n).demand.watts * s.scaleFor k / 1024).sum := by
  rw [← sum_map_filter]
  unfold State.grantedW
  congr 1
  refine List.map_congr_left fun n _ => ?_
  rw [h n]
  split <;> rfl

theorem Allocates.grantedW_afterGrants (h : Allocates k s t) : t.grantedW = (s.afterGrants k).grantedW := by
  rw [grantedW_of_grants h.grant, grantedW_of_grants fun n => ?_]
  rw [State.afterGrants_station, (s.afterShed_zones k).record n]
  exact (s.grantedRecord_fields k n _).2.2.2

theorem Allocates.grantedW_le (h : Allocates k s t) : t.grantedW ≤ (s.afterShed k).room := by
  rw [grantedW_of_grants h.grant]
  exact (sum_scaled_le _ _ _).trans (mul_scaleOf_le _ _)

theorem Allocates.headroom (h : Allocates k s t) : t.alloc.headroomW = (s.afterShed k).afterHold - t.grantedW := by
  rw [h.alloc, h.grantedW_afterGrants]
  rfl

/-- The heater load that shedding and admission leave. -/
theorem HeatTurned.heatLoad {shed adm : List (StationId × ZoneNum)} (h : HeatTurned shed adm s t)
    (hset : t.settings = s.settings) (hadm : adm.Nodup) : t.heatLoad = powerOf s adm + (shedAll shed s).heatLoad := by
  have hshed := (shedAll_zones shed s).only.settings
  have hoff : ∀ p ∈ adm, (shedAll shed s).zoneOn p = false := fun p hp => by
    rw [← Bool.not_eq_true, shedAll_zoneOn, State.zoneOn, h.waiting p hp]
    simp
  rw [← powerOf_congr hshed, ← heatLoad_admitAll hadm hoff]
  have hon : t.zoneOn = (admitAll adm (shedAll shed s)).zoneOn := by
    funext p
    rw [Bool.eq_iff_iff, admitAll_zoneOn, shedAll_zoneOn, State.zoneOn, State.zoneOn, h.state, beq_iff_eq, beq_iff_eq]
    have hshed := h.on p
    have hwaiting := h.waiting p
    split_ifs <;> simp_all
  unfold State.heatLoad
  rw [hon, zonePower_congr (hset.trans (((admitAll_zones adm _).only.settings.trans hshed).symm))]

/-- The admitted zones take no more than the headroom (R161). -/
theorem Allocates.heatLoad_le (h : Allocates k s t) : (t.heatLoad : Int) ≤ t.alloc.heatW + max 0 t.alloc.headroomW := by
  rw [h.heat.heatLoad h.settings State.admittedZones_nodup, h.alloc]
  have hfits : (powerOf s (s.admittedZones k) : Int) ≤ max 0 (s.headroomFor k) := sum_fitting_le _ _
  change ((powerOf s (s.admittedZones k) + (s.afterShed k).heatLoad : Nat) : Int)
    ≤ (s.afterShed k).heatLoad + max 0 (s.headroomFor k)
  omega

theorem Allocates.grant_le (h : Allocates k s t) (n : StationId) :
    (t.station n).grant.azSpeed ≤ (t.station n).demand.azSpeed ∧ (t.station n).grant.elSpeed ≤ (t.station n).demand.elSpeed := by
  rw [h.grant, h.demand]
  split
  · exact ⟨scaled_le _ _ _, scaled_le _ _ _⟩
  · exact ⟨Nat.zero_le _, Nat.zero_le _⟩

end

/-! ### Batches and stow refreshes -/

/-- The start of the allocation of a batch: its entries taken, and the demands refreshed (R25 to R28, R51). -/
def State.batchStart (s : State) (es : List BatchEntry) : State := stationIds.foldl refreshDemand (es.foldl handleEntry s)

/-- The start of the allocation of a stow refresh: the timer restarted, and the stow demands written (R142). -/
def State.refreshStart (s : State) : State :=
  writeStowDemand { s with wind := { s.wind with refresh := some (s.timer s.settings.timing.stowRefresh) } }

/-- The stations that take an entry of a batch (R25). -/
def State.takers (s : State) (es : List BatchEntry) : List StationId :=
  (es.filter fun b => (s.authority (entryStation b)).takes).map entryStation

theorem exec_pointingBatch {es : List BatchEntry} {s : State} (hwf : wellFormedBatch es) (hstow : s.stowActive = false) :
    exec (.pointingBatch es) s = .next (examine ((batchOffers (s.takers es) s (allocate .batch (s.batchStart es))).foldl offerGrant
      (allocate .batch (s.batchStart es)))) := by
  have htaken : takeBatch es s = runBatch es s := by rw [takeBatch_wellFormed hwf, hstow, if_neg Bool.false_ne_true]
  exact congrArg (fun x => Host.Outcome.next (examine x)) htaken

/-- The stations whose stow demand a refresh writes, and to which it offers (R142, R143). -/
def State.stowMembers (s : State) : List StationId := stationIds.filter (s.memberOf .stow)

theorem exec_stowRefreshExpiry {s : State} (hdue : timerDue s.wind.refresh s.now = true) :
    ∃ clamped, exec .stowRefreshExpiry s
      = .next (examine (s.stowMembers.foldl (offerStow clamped) (allocate .stow s.refreshStart))) :=
  ⟨_, congrArg Host.Outcome.next (if_pos hdue)⟩

theorem offerGrant_allocates {k : AllocKind} {s : State} (u : State) (n : StationId) (h : Allocates k s u) :
    Allocates k s (offerGrant u n) :=
  h.ports (offerGrant_ports u n)

theorem offerStow_allocates {k : AllocKind} {s : State} (clamped : StationId → Bool) (u : State) (n : StationId)
    (h : Allocates k s u) : Allocates k s (offerStow clamped u n) := by
  unfold offerStow
  simp only
  split
  · exact offerGrant_allocates _ n (h.setClip n _)
  · exact offerGrant_allocates u n h

/-- Settles O17: the grants fit the room that the shedding left, and the admitted zones the headroom that the grants left. -/
theorem grantsStayWithinTheFeed : Obligations.GrantsStayWithinTheFeed := by
  intro es s t hevent
  have hallocates : ∃ k a, Allocates k a t := by
    rcases hevent with ⟨hwf, hstow, ht⟩ | ⟨hdue, ht⟩
    · rw [exec_pointingBatch hwf hstow] at ht
      obtain rfl := Host.Outcome.next.inj ht
      exact ⟨_, _, (Allocates.foldl offerGrant_allocates _ (allocate_allocates _ _)).examine⟩
    · obtain ⟨clamped, hexec⟩ := exec_stowRefreshExpiry hdue
      rw [hexec] at ht
      obtain rfl := Host.Outcome.next.inj ht
      exact ⟨_, _, (Allocates.foldl (offerStow_allocates clamped) _ (allocate_allocates _ _)).examine⟩
  obtain ⟨k, a, h⟩ := hallocates
  have hfree : (t.settings.budget.capacity : Int) - t.settings.budget.reserve - t.alloc.heatW - t.alloc.holdW
      = (a.afterShed k).afterHold := by
    rw [h.settings, h.alloc, State.afterShed_afterHold]
    rfl
  dsimp only
  rw [hfree]
  exact ⟨h.grantedW_le, h.headroom, h.heatLoad_le, h.grant_le⟩

end Sys2Proof.Machine
end

section
/-! SUPPORT. Shedding and admission (O18): the start of an allocation keeps the zones and the ports, and a BUDGET write sheds as an
allocation does (R53 to R56, R58, R61, R161, R168, R169). -/

namespace Sys2Proof.Machine

/-! ### States that agree on the zones -/

/-- Two states with the same zones, the same records of them, and the same time. -/
structure SameHeat (s a : State) : Prop where
  zone : a.zone = s.zone
  zoneRecord : a.zoneRecord = s.zoneRecord
  now : a.now = s.now

section
variable {s a t : State}

theorem SameHeat.zonePower (h : SameHeat s a) : a.zonePower = s.zonePower := by
  funext p
  unfold State.zonePower
  rw [h.zoneRecord]

theorem SameHeat.zoneOn (h : SameHeat s a) : a.zoneOn = s.zoneOn := by
  funext p
  unfold State.zoneOn
  rw [h.zone]

theorem SameHeat.heatLoad (h : SameHeat s a) : a.heatLoad = s.heatLoad := by
  unfold State.heatLoad
  rw [h.zoneOn, h.zonePower]

theorem SameHeat.onMask (h : SameHeat s a) (n : StationId) : a.onMask n = s.onMask n := by
  unfold State.onMask
  rw [h.zoneOn]

theorem SameHeat.powerOf (h : SameHeat s a) : powerOf a = powerOf s := by
  unfold Machine.powerOf
  rw [h.zoneRecord]

theorem SameHeat.turned (h : SameHeat s a) (x y : ZoneState) (t : State) : turned x y a t = turned x y s t := by
  unfold Machine.turned
  rw [h.zone]

theorem SameHeat.admitBefore (h : SameHeat s a) : admitBefore a = admitBefore s := by
  unfold Machine.admitBefore
  rw [h.zoneRecord]

theorem SameHeat.shedBefore (h : SameHeat s a) : shedBefore a = shedBefore s := by
  unfold Machine.shedBefore onTimeOf
  rw [h.zoneRecord, h.zone, h.now]

theorem SameHeat.shedInOrder (h : SameHeat s a) {candidate : StationId × ZoneNum → Prop} {need : Int} :
    shedInOrder candidate need a t ↔ shedInOrder candidate need s t := by
  unfold Machine.shedInOrder
  rw [h.turned, h.powerOf, h.shedBefore, h.zoneRecord, h.now]

theorem SameHeat.heatTurned (h : SameHeat s a) {shed adm : List (StationId × ZoneNum)} (k : HeatTurned shed adm a t) :
    HeatTurned shed adm s t := by
  obtain ⟨hon, hwaiting, hzone⟩ := k
  rw [h.zone] at hon hwaiting
  rw [h.zone, h.now] at hzone
  exact ⟨hon, hwaiting, hzone⟩

end

/-! ### The start of an allocation -/

/-- Two records that differ at most in the demand, its freshness, the grant and the clip causes. -/
def Station.sameRest (a b : Station) : Prop :=
  b = { a with
    freshness := b.freshness, stale := b.stale, demand := b.demand, grant := b.grant, clipStatus := b.clipStatus
    clipLog := b.clipLog }

theorem Station.sameRest.refl (a : Station) : a.sameRest a := rfl

theorem Station.sameRest.trans {a b c : Station} (h : a.sameRest b) (k : b.sameRest c) : a.sameRest c := by
  unfold Station.sameRest at *
  rw [h] at k
  exact k

theorem Station.sameRest.offers {a b : Station} (node : Byte) (h : a.sameRest b) : Offers node [] a b := by
  refine .of_same ?_ ?_ ?_ <;> rw [h]

/-- A change of one record within its demand and its clip causes. -/
theorem State.updStation_sameRest (s : State) (n : StationId) {f : Station → Station} (hf : ∀ st : Station, st.sameRest (f st))
    (m : StationId) : (s.station m).sameRest ((s.updStation n f).station m) := by
  rw [State.updStation_station]
  split
  · next h => subst h; exact hf _
  · exact .refl _

theorem handled_sameRest (s : State) (b : BatchEntry) (st : Station) : st.sameRest (handled s b st) := by
  unfold handled
  simp only
  split
  · rfl
  · cases discardCause (authorityOf s.stowActive st) <;> rfl

/-- The record of a member of a batch allocation, its demand refreshed (R51, R60). -/
def refreshed (s : State) (n : StationId) (st : Station) : Station :=
  if st.demand.cls == .track && !st.stale then
    let fit := s.fitDemand n st.demand.azTarget st.demand.elTarget st.demand.azSpeed st.demand.elSpeed
    { st with demand := fit.1 }.clipped (st.clipStatus.capping.union fit.2)
  else st

theorem refreshDemand_eq (s : State) (n : StationId) : refreshDemand s n = s.updStation n (refreshed s n) := by
  unfold refreshDemand
  simp only
  split
  · next h =>
    rw [setClip_eq, State.updStation_updStation]
    exact State.updStation_congr (if_pos h).symm
  · next h => exact (State.updStation_self s n _ (if_neg h)).symm

theorem refreshed_sameRest (s : State) (n : StationId) (st : Station) : st.sameRest (refreshed s n st) := by
  unfold refreshed
  split <;> rfl

/-- The records of a state keep all but their demand and clip causes through a row of steps that each do. -/
theorem foldl_sameRest {α : Type} {step : State → α → State}
    (h : ∀ (s : State) (a : α) (n : StationId), (s.station n).sameRest ((step s a).station n)) (l : List α) (s : State) (n : StationId) :
    (s.station n).sameRest ((l.foldl step s).station n) := by
  induction l generalizing s with
  | nil => exact .refl _
  | cons a l ih => exact (h s a n).trans (ih _)

theorem State.batchStart_only (s : State) (es : List BatchEntry) : OnlyStations s (s.batchStart es) :=
  (OnlyStations.foldl handleEntry_only es s).trans (OnlyStations.foldl refreshDemand_only stationIds _)

theorem State.batchStart_sameRest (s : State) (es : List BatchEntry) (n : StationId) :
    (s.station n).sameRest ((s.batchStart es).station n) := by
  refine (foldl_sameRest (fun u b m => ?_) es s n).trans (foldl_sameRest (fun u p m => ?_) stationIds _ n)
  · rw [handleEntry_change.eq]
    exact State.updStation_sameRest u _ (handled_sameRest u b) m
  · rw [refreshDemand_eq]
    exact State.updStation_sameRest u p (refreshed_sameRest u p) m

theorem State.refreshStart_sameRest (s : State) (n : StationId) : (s.station n).sameRest (s.refreshStart.station n) := by
  rw [State.refreshStart, writeStowDemand_station]
  split <;> rfl

theorem SameHeat.of_sameRest {s a : State} (hset : a.settings = s.settings) (hnow : a.now = s.now)
    (h : ∀ n, (s.station n).sameRest (a.station n)) : SameHeat s a where
  zone := by
    funext n z
    unfold State.zone
    rw [h n]
  zoneRecord := by
    unfold State.zoneRecord
    rw [hset]
  now := hnow

/-- What an allocation of `a` has offered to a station of `s`, from which `a` differs in no port and no zone (R168). -/
theorem allocate_offers {s a : State} {n : StationId} (k : AllocKind) (hnode : a.nodeAddress = s.nodeAddress)
    (h : (s.station n).sameRest (a.station n)) :
    Offers s.nodeAddress (markOf n a (a.afterAdmission k)) (s.station n) ((allocate k a).station n) := by
  have hgrants : Offers s.nodeAddress [] (a.station n) ((a.afterAdmission k).station n) := by
    have hport : (a.grantedRecord k n (a.station n)).link = (a.station n).link
        ∧ (a.grantedRecord k n (a.station n)).tx = (a.station n).tx
        ∧ (a.grantedRecord k n (a.station n)).queue = (a.station n).queue := by
      unfold State.grantedRecord Station.granted
      split <;> exact ⟨rfl, rfl, rfl⟩
    obtain ⟨hlink, htx, hqueue⟩ := hport
    rw [a.afterAdmission_station k n]
    exact .of_same (congrArg Link.isUp hlink) htx hqueue
  have hmarks := offerHeatMarkers_offers a (a.afterAdmission k) n
  have hnode' : (a.afterAdmission k).nodeAddress = s.nodeAddress :=
    ((admitAll_zones _ (a.afterRecord k)).only.nodeAddress.trans (a.afterShed_zones k).only.nodeAddress).trans hnode
  rw [hnode', ← allocate_eq] at hmarks
  exact ((h.offers _).trans hgrants).trans hmarks

/-- The mask of a station as the markers of an allocation find it is that which the event leaves. -/
theorem Allocates.markOf {k : AllocKind} {s a t : State} (h : Allocates k a t) (hs : SameHeat s a) (n : StationId) :
    markOf n a (a.afterAdmission k) = Machine.markOf n s t := by
  have hmask : t.onMask n = (a.afterAdmission k).onMask n :=
    onMask_congr fun z => (h.heat.state n z).trans ((a.afterAdmission_heat k).state n z).symm
  unfold Machine.markOf
  rw [hs.onMask, hmask]

/-- An offer of a SETPOINT puts one on its way, be it the STOP of R21. -/
theorem offerGrant_offers (s : State) (n : StationId) :
    ∃ sp, Offers s.nodeAddress [.setpoint sp] (s.station n) ((offerGrant s n).station n) := by
  have hkind : ∃ sp, checked n (.setpoint (s.grantSetpoint n)) s = .setpoint sp := by
    unfold checked
    simp only
    split
    · exact ⟨_, rfl⟩
    · exact ⟨_, rfl⟩
  obtain ⟨sp, hsp⟩ := hkind
  refine ⟨sp, ?_⟩
  rw [offerGrant, offer_station_self, hsp]
  exact .takes _ _ _

theorem offerStow_offers (clamped : StationId → Bool) (s : State) (n : StationId) :
    ∃ sp, Offers s.nodeAddress [.setpoint sp] (s.station n) ((offerStow clamped s n).station n) := by
  unfold offerStow
  simp only
  split
  · obtain ⟨sp, hoffers⟩ := offerGrant_offers (setClip n ((s.station n).clipStatus.union { noClip with targetClamp := true }) s) n
    refine ⟨sp, Offers.trans (es := []) ?_ hoffers⟩
    rw [setClip_eq, State.updStation_station, if_pos rfl]
    exact .of_same rfl rfl rfl
  · exact offerGrant_offers s n

/-- Behind the marker of an allocation come SETPOINTs alone. -/
theorem OwnRecord.foldl_setpoints {step : State → StationId → State} (h : OwnRecord step)
    (hstep : ∀ u n, ∃ sp, Offers u.nodeAddress [.setpoint sp] (u.station n) ((step u n).station n)) {l : List StationId}
    (hl : l.Nodup) (s : State) (n : StationId) :
    ∃ es : List StationEntry, (∀ e ∈ es, e.kind = .setpoint)
      ∧ Offers s.nodeAddress es (s.station n) ((l.foldl step s).station n) := by
  by_cases hn : n ∈ l
  · obtain ⟨u, honly, hst, hown⟩ := h.foldl_inside s hl hn
    obtain ⟨sp, hoffers⟩ := hstep u n
    rw [hst, honly.nodeAddress, ← hown] at hoffers
    exact ⟨_, by simp, hoffers⟩
  · rw [h.foldl_outside s hn]
    exact ⟨[], by simp, .refl⟩

/-! ### An allocation between two events -/

/-- An event from `s` to `t` makes an allocation, of a batch or of a stow refresh, that starts in `a`. -/
structure AllocatesFrom (k : AllocKind) (s a t : State) : Prop where
  kind : k = .batch ∨ k = .stow
  heat : SameHeat s a
  budget : a.settings.budget = s.settings.budget
  allocates : Allocates k a t
  marks : ∀ n, ∃ es : List StationEntry, (∀ e ∈ es, e.kind = .setpoint)
    ∧ Offers s.nodeAddress (markOf n s t ++ es) (s.station n) (t.station n)

/-- An allocation followed by offers of setpoints, each to another station. -/
theorem AllocatesFrom.of_offers {k : AllocKind} {s a : State} {step : State → StationId → State} {l : List StationId}
    (hkind : k = .batch ∨ k = .stow) (hset : a.settings = s.settings) (hnow : a.now = s.now)
    (hnode : a.nodeAddress = s.nodeAddress) (hrest : ∀ n, (s.station n).sameRest (a.station n)) (hown : OwnRecord step)
    (hkeeps : ∀ u n, Allocates k a u → Allocates k a (step u n))
    (hstep : ∀ u n, ∃ sp, Offers u.nodeAddress [.setpoint sp] (u.station n) ((step u n).station n)) (hl : l.Nodup) :
    AllocatesFrom k s a (examine (l.foldl step (allocate k a))) := by
  have hheat : SameHeat s a := .of_sameRest hset hnow hrest
  have hallocates := (Allocates.foldl hkeeps l (allocate_allocates k a)).examine
  refine ⟨hkind, hheat, by rw [hset], hallocates, fun n => ?_⟩
  obtain ⟨es, hes, hoffers⟩ := hown.foldl_setpoints hstep hl (allocate k a) n
  have hmarks := allocate_offers k hnode (hrest n)
  rw [hallocates.markOf hheat] at hmarks
  rw [(allocate_keeps k a).nodeAddress.trans hnode] at hoffers
  rw [examine_station]
  exact ⟨es, hes, hmarks.trans hoffers⟩

theorem exists_allocatesFrom {es : List BatchEntry} {s t : State}
    (h : (wellFormedBatch es ∧ s.stowActive = false ∧ exec (.pointingBatch es) s = .next t)
      ∨ (timerDue s.wind.refresh s.now = true ∧ exec .stowRefreshExpiry s = .next t)) :
    ∃ k a, AllocatesFrom k s a t := by
  rcases h with ⟨hwf, hstow, ht⟩ | ⟨hdue, ht⟩
  · rw [exec_pointingBatch hwf hstow] at ht
    obtain rfl := Host.Outcome.next.inj ht
    have honly := s.batchStart_only es
    exact ⟨.batch, s.batchStart es, .of_offers (.inl rfl) honly.settings honly.now honly.nodeAddress
      (s.batchStart_sameRest es) offerGrant_own offerGrant_allocates offerGrant_offers (nodup_stationIds.filter _)⟩
  · obtain ⟨clamped, hexec⟩ := exec_stowRefreshExpiry hdue
    rw [hexec] at ht
    obtain rfl := Host.Outcome.next.inj ht
    exact ⟨.stow, s.refreshStart, .of_offers (.inr rfl) rfl rfl rfl s.refreshStart_sameRest (offerStow_own clamped)
      (offerStow_allocates clamped) (offerStow_offers clamped) (nodup_stationIds.filter _)⟩

/-- A marker is offered where the ON zones of a station changed, and no SETPOINT behind it takes its place (R35, R168). -/
theorem offered_heat_of_marks {s t : State} {n : StationId} {es : List StationEntry} (hes : ∀ e ∈ es, e.kind = .setpoint)
    (h : Offers s.nodeAddress (markOf n s t ++ es) (s.station n) (t.station n))
    (hturned : ∃ z, ¬((s.zone n z).state = .on ↔ (t.zone n z).state = .on)) : s.offered t n .heat := by
  rintro hqueues ⟨hup, htx⟩
  rw [markOf, if_neg (onMask_ne_of_turned hturned)] at h
  refine Offers.waits (pre := []) h hup htx (hqueues n).1 rfl fun x hx => ?_
  rw [hes x hx]
  decide

/-! ### The terms of the record (R52 to R54, R58, R161) -/

section
variable {k : AllocKind} {s a t : State}

/-- A member, as the event leaves it (R52). -/
theorem AllocatesFrom.member_iff (h : AllocatesFrom k s a t) (n : StationId) :
    (if t.alloc.kind = .stow then t.authority n = .stowMoving
      else (t.station n).demand.cls = .track ∧ (t.station n).stale = false) ↔ a.memberOf k n = true := by
  rw [h.allocates.authority, h.allocates.demand, h.allocates.stale, h.allocates.alloc]
  change (if k = .stow then _ else _) ↔ _
  rcases h.kind with rfl | rfl
  · rw [if_neg (by decide)]
    simp [State.memberOf]
  · rw [if_pos rfl]
    simp [State.memberOf]

theorem Allocates.demandW (h : Allocates k a t) :
    ((stationIds.filter (a.memberOf k)).map fun n => (t.station n).demand.watts).sum = a.demandW k := by
  simp only [h.demand]
  rfl

theorem Allocates.holdW (h : Allocates k a t) :
    ((stationIds.filter fun n => (t.authority n).energised).map fun n => (t.envelope n).holdW).sum = a.holdW := by
  simp only [h.authority, h.envelope]
  rfl

theorem Allocates.roomW (h : Allocates k a t) :
    t.alloc.roomW = ((t.settings.budget.capacity : Int) - t.settings.budget.reserve - t.alloc.heatW - a.holdW).toNat := by
  rw [h.settings, h.alloc]
  exact congrArg Int.toNat (a.afterShed_afterHold k)

/-- The room before shedding (R54). -/
theorem AllocatesFrom.room (h : AllocatesFrom k s a t) :
    ((t.settings.budget.capacity : Int) - t.settings.budget.reserve - s.heatLoad - a.holdW).toNat = a.room := by
  rw [h.allocates.settings, ← h.heat.heatLoad]
  rfl

theorem AllocatesFrom.heatTurned (h : AllocatesFrom k s a t) : HeatTurned (a.shedZones k) (a.admittedZones k) s t :=
  h.heat.heatTurned h.allocates.heat

theorem AllocatesFrom.shed_perm (h : AllocatesFrom k s a t) : (turned .on .shed s t).Perm (a.shedZones k) :=
  h.heatTurned.turned_shed_perm State.shedZones_nodup

theorem AllocatesFrom.shedW (h : AllocatesFrom k s a t) : t.alloc.shedW = powerOf s (turned .on .shed s t) := by
  rw [powerOf_perm s h.shed_perm, ← h.heat.powerOf, h.allocates.alloc]
  rfl

theorem AllocatesFrom.heatW (h : AllocatesFrom k s a t) : t.alloc.heatW + t.alloc.shedW = s.heatLoad := by
  have hon : ∀ p ∈ a.shedZones k, a.zoneOn p = true := fun p hp => by
    rw [State.zoneOn, State.shedZones_on hp]
    rfl
  rw [← h.heat.heatLoad, heatLoad_shedAll State.shedZones_nodup hon, h.allocates.alloc, Nat.add_comm]
  rfl

theorem AllocatesFrom.not_shed (h : AllocatesFrom k s a t) (hroom : a.demandW k ≤ a.room) : turned .on .shed s t = [] := by
  refine List.Perm.eq_nil (h.shed_perm.trans ?_)
  rw [State.shedZones, untilMet_of_le _ (by omega)]

/-- The candidates, in the words of R55 and at the state before the event. -/
theorem AllocatesFrom.candidate_iff (h : AllocatesFrom k s a t) (p : StationId × ZoneNum) :
    ((s.zone p.1 p.2).state = .on ∧ 1 ≤ (s.zoneRecord p.1 p.2).powerW
        ∧ (t.alloc.kind ≠ .stow →
            s.settings.budget.meltPriority ≠ 1 ∧ 1 ≤ (s.zoneRecord p.1 p.2).priority
              ∧ ((s.zone p.1 p.2).minOnReached = true
                ∨ ∃ start ∈ (s.zone p.1 p.2).onStart, (s.zoneRecord p.1 p.2).minOn ≤ (s.now - start).toNat)))
      ↔ p ∈ shedOrder a (a.candidates k) := by
  rw [mem_shedOrder, State.mem_candidates, h.heat.zone, h.heat.zoneRecord, h.heat.now, h.budget, h.allocates.alloc]
  rfl

/-- A zone in WAIT is admitted whole where it fits what those before it leave, and else passed over; a zone that neither waits
nor is shed stands (R161). -/
theorem AllocatesFrom.zone (h : AllocatesFrom k s a t) (n : StationId) (z : ZoneNum) :
    let used := powerOf s ((turned .wait .on s t).filter fun q => admitBefore s q (n, z))
    ((s.zone n z).state = .wait → (s.zoneRecord n z).priority ≤ 3 →
      if ((s.zoneRecord n z).powerW : Int) ≤ t.alloc.headroomW - used then ((s.zone n z).enter s.now).alike (t.zone n z)
      else (s.zone n z).alike (t.zone n z))
    ∧ ((s.zone n z).state ≠ .wait → (n, z) ∉ turned .on .shed s t → (s.zone n z).alike (t.zone n z)) := by
  have hturned := h.heatTurned
  have hused : powerOf s ((turned .wait .on s t).filter fun q => admitBefore s q (n, z))
      = powerOf a ((a.admittedZones k).filter fun q => admitBefore a q (n, z)) := by
    rw [h.heat.powerOf, h.heat.admitBefore]
    exact powerOf_perm s ((hturned.turned_admitted_perm State.admittedZones_nodup).filter _)
  have hheadroom : t.alloc.headroomW = a.headroomFor k := by rw [h.allocates.alloc]; rfl
  dsimp only
  rw [hused, hheadroom]
  refine ⟨fun hwait hprio => ?_, fun hwait hshed => ?_⟩
  · have hwaits : (n, z) ∈ admissionOrder a := by
      rw [mem_admissionOrder, h.heat.zone, h.heat.zoneRecord]
      exact ⟨hwait, hprio⟩
    have hshed : (n, z) ∉ a.shedZones k := fun hs => absurd ((hturned.on _ hs).symm.trans hwait) (by decide)
    have hadmitted := State.mem_admittedZones_iff (k := k) hwaits
    simp only [h.heat.zoneRecord] at hadmitted
    split
    · next hfits => exact hturned.zone_admitted (hadmitted.mpr hfits)
    · next hfits => exact hturned.zone_other hshed fun ha => hfits (hadmitted.mp ha)
  · rw [hturned.mem_turned_shed] at hshed
    exact hturned.zone_other hshed fun ha => hwait (hturned.waiting _ ha)

end

end Sys2Proof.Machine
end

section
/-! SUPPORT. Shedding on a BUDGET write (R169), and O18 (R53 to R56, R58, R61, R161, R168, R169). -/

namespace Sys2Proof.Machine

/-! ### A BUDGET write (R169, R186) -/

/-- A write of the shape of BUDGET goes to BUDGET, and its last record stands (R49, R185). -/
theorem runTableWrite_budget {s : State} {count : Byte} {bs : List Byte} (hpos : 1 ≤ count.toNat) (hmax : count.toNat ≤ 32)
    (hlen : bs.length = count.toNat * 9) (hsave : s.store.state ≠ .saving)
    (hvalid : budgetFailing (budgetOfBytes (bs.drop (9 * (count.toNat - 1)))) = none) :
    runTableWrite (2 :: 0 :: count :: bs) s = done []
      (budgetShed { s with settings := { s.settings with budget := budgetOfBytes (bs.drop (9 * (count.toNat - 1))) } }) := by
  have hrecord : recordBytes 9 (count.toNat - 1) bs = bs.drop (9 * (count.toNat - 1)) := by
    rw [recordBytes, Nat.mul_comm, List.take_of_length_le]
    rw [List.length_drop]
    omega
  have hshape : ¬(6 < (2 : Byte).toNat ∨ (2 : Byte).toNat = 1 ∨ tableLength (2 : Byte).toNat ≤ (0 : Byte).toNat
      ∨ count.toNat = 0 ∨ 32 < count.toNat ∨ bs.length ≠ count.toNat * recordSize (2 : Byte).toNat) := by
    have hsize : recordSize (2 : Byte).toNat = 9 := by decide
    have hspace : ¬tableLength (2 : Byte).toNat ≤ (0 : Byte).toNat := by decide
    have htable : (2 : Byte).toNat = 2 := rfl
    rw [hsize]
    omega
  have hbudget : runTableWrite (2 :: 0 :: count :: bs) s = writeBudget count.toNat bs s := if_neg hshape
  rw [hbudget]
  rw [writeBudget, if_neg hsave, hrecord, hvalid]

/-- A write that lowers the room sheds in the order of R56 any zone that draws power, until H + R is within C. -/
theorem budgetShed_eq (s : State) :
    budgetShed s = shedAll (untilMet s.zonePower
      ((s.heatLoad : Int) + s.settings.budget.reserve - s.settings.budget.capacity) (shedOrder s s.drawing)) s :=
  shedToBudget_eq (shedOrder_nodup State.drawing_nodup) fun p hp => by
    rw [State.zoneOn, (State.mem_drawing.mp (mem_shedOrder.mp hp)).1]
    rfl

theorem HeatTurned.of_shedAll {shed : List (StationId × ZoneNum)} {s : State}
    (hon : ∀ p ∈ shed, (s.zone p.1 p.2).state = .on) : HeatTurned shed [] s (shedAll shed s) := by
  refine ⟨hon, fun p hp => absurd hp (by simp), fun n z => ?_⟩
  rw [shedAll_zone, if_neg (List.not_mem_nil (a := (n, z)))]
  exact .refl _

/-- The end of a request whose execution leaves `x` without a turn of the stow: the markers, and the record of each station. -/
theorem respond_station {tag code : Byte} {s x : State} {contents : List Byte} (hwind : x.wind = s.wind) (n : StationId) :
    (respond tag code s (done contents x)).station n = (offerHeatMarkers s x).station n := by
  have hstow : settleStow s x = x := settleStow_same s x (stowActive_of_wind hwind)
  unfold respond
  rw [examine_station, offerUp_station]
  change ({ offerHeatMarkers s (settleStow s x) with responder := none } : State).station n = _
  rw [hstow]
  rfl

/-- What a BUDGET write leaves of the zones and the ports: `a` is the state with the new record in place. -/
theorem budgetWrite_sheds {tag : Byte} {s a t : State} (hsame : SameHeat s a) (hst : a.stations = s.stations)
    (hwind : a.wind = s.wind) (hnode : a.nodeAddress = s.nodeAddress)
    (ht : ∀ n, t.station n = (respond tag 0x05 s (done [] (budgetShed a))).station n) :
    shedInOrder (fun p => (s.zone p.1 p.2).state = .on ∧ 1 ≤ (s.zoneRecord p.1 p.2).powerW)
        ((s.heatLoad : Int) + a.settings.budget.reserve - a.settings.budget.capacity) s t
      ∧ ∀ n, ((∃ z, ¬((s.zone n z).state = .on ↔ (t.zone n z).state = .on)) → s.offered t n .heat)
        ∧ ∀ z, (n, z) ∉ turned .on .shed s t → (s.zone n z).alike (t.zone n z) := by
  obtain ⟨need, hneed⟩ : ∃ need, need = (s.heatLoad : Int) + a.settings.budget.reserve - a.settings.budget.capacity :=
    ⟨_, rfl⟩
  have hx : budgetShed a = shedAll (untilMet a.zonePower need (shedOrder a a.drawing)) a := by
    rw [budgetShed_eq, hsame.heatLoad, hneed]
  have hon : ∀ p ∈ untilMet a.zonePower need (shedOrder a a.drawing), (a.zone p.1 p.2).state = .on := fun p hp =>
    (State.mem_drawing.mp (mem_shedOrder.mp (untilMet_subset hp))).1
  have hzones := shedAll_zones (untilMet a.zonePower need (shedOrder a a.drawing)) a
  have hturned := HeatTurned.of_shedAll hon
  rw [← hx] at hturned hzones
  rw [← hneed]
  have hstation : ∀ n, t.station n = (offerHeatMarkers s (budgetShed a)).station n := fun n =>
    (ht n).trans (respond_station (hzones.only.wind.trans hwind) n)
  have hfinal : HeatTurned (untilMet a.zonePower need (shedOrder a a.drawing)) [] a t := by
    refine ⟨hon, hturned.waiting, fun n z => ?_⟩
    have hports := hturned.ports (offerHeatMarkers_ports s _)
    have hzone : t.zone n z = (offerHeatMarkers s (budgetShed a)).zone n z := by
      unfold State.zone
      rw [hstation]
    rw [hzone]
    exact hports.zone n z
  refine ⟨hsame.shedInOrder.mp (shedInOrder_of_untilMet (fun p => ?_) (shedOrder_nodup State.drawing_nodup)
    (shedOrder_pairwise a _) hfinal), fun n => ⟨fun hne => ?_, fun z hz => ?_⟩⟩
  · rw [mem_shedOrder, State.mem_drawing, hsame.zone, hsame.zoneRecord]
  · have hmarks := offerHeatMarkers_offers s (budgetShed a) n
    have hport : Offers s.nodeAddress [] (s.station n) ((budgetShed a).station n) := by
      rw [hzones.record n, State.station_congr hst n]
      exact .of_same rfl rfl rfl
    have hmask : Machine.markOf n s (budgetShed a) = markOf n s t := by
      have hmask : t.onMask n = (budgetShed a).onMask n :=
        onMask_congr fun z => (hfinal.state n z).trans (hturned.state n z).symm
      unfold markOf
      rw [hmask]
    rw [hzones.only.nodeAddress.trans hnode, hmask, ← hstation] at hmarks
    refine offered_heat_of_marks (es := []) (by simp) ?_ hne
    rw [List.append_nil]
    exact hport.trans hmarks
  · have hs := hsame.heatTurned hfinal
    rw [hs.mem_turned_shed] at hz
    exact hs.zone_other hz (by simp)

/-! ### The obligation -/

/-- Settles O18: each walk over the zones takes them in its order until its need is met, or as they fit; and a marker waits
behind no SETPOINT that could take its place. -/
theorem sheddingAndAdmission : Obligations.SheddingAndAdmission := by
  refine ⟨fun es s t hevent => ?_, fun tag count bs s hroom hsave hpos hmax hlen => ?_⟩
  · obtain ⟨k, a, h⟩ := exists_allocatesFrom hevent
    intro member demand hold room candidate shed admitted
    have hmember : ∀ n, member n ↔ a.memberOf k n = true := h.member_iff
    have hmembers : (stationIds.filter fun n => decide (member n)) = stationIds.filter (a.memberOf k) :=
      List.filter_congr fun n _ => Bool.eq_iff_iff.mpr (decide_eq_true_iff.trans (hmember n))
    have hdemand : demand = a.demandW k := by
      rw [← h.allocates.demandW, ← hmembers]
    have hhold : hold = a.holdW := h.allocates.holdW
    have hroomW : t.alloc.roomW = room t.alloc.heatW := by
      rw [h.allocates.roomW, ← hhold]
    have hbefore : room s.heatLoad = a.room := by
      rw [← h.room, ← hhold]
    have halloc := h.allocates.alloc
    refine ⟨?_, ?_, ?_, ?_, h.shedW, h.heatW, hroomW, ?_, fun hfits => ?_, fun hshort => ?_, fun n => ⟨?_, ?_, fun z => ?_⟩⟩
    · rw [hmembers, halloc]
      rfl
    · rw [hdemand, halloc]
      rfl
    · rw [hhold, halloc]
      rfl
    · rw [h.shed_perm.length_eq, halloc]
      rfl
    · rw [hdemand, halloc]
      rfl
    · exact h.not_shed (by rwa [← hdemand, ← hbefore])
    · rw [hbefore, hdemand]
      exact h.heat.shedInOrder.mp (shedInOrder_of_untilMet h.candidate_iff (shedOrder_nodup State.candidates_nodup)
        (shedOrder_pairwise a _) h.allocates.heat)
    · rw [h.allocates.grant]
      by_cases hn : a.memberOf k n = true
      · rw [if_pos hn, if_pos ((hmember n).mpr hn), h.allocates.demand, halloc]
        rfl
      · rw [if_neg hn, if_neg fun hm => hn ((hmember n).mp hm)]
    · obtain ⟨es, hes, hoffers⟩ := h.marks n
      exact offered_heat_of_marks hes hoffers
    · exact h.zone n z
  · intro r hvalid
    refine ⟨_, rfl, ?_⟩
    rw [manage_room tag 0x05 _ s hroom, runTableWrite_budget (s := { s with responder := some (tag, 0x05) }) hpos hmax hlen
      hsave hvalid]
    exact budgetWrite_sheds (a := { s with responder := some (tag, 0x05), settings := { s.settings with budget := r } })
      ⟨rfl, rfl, rfl⟩ rfl rfl rfl fun _ => rfl

end Sys2Proof.Machine
end

section
/-! SUPPORT. A batch taken (O25): a demand that fits the figures in force and its causes (R26 to R28, R50, R51), the records at the
start of the allocation and at the end of the event (R59, R60), and what the stations are offered (R29, R30, R168). -/

namespace Sys2Proof.Machine

/-! ### A demand that fits (R26, R27, R50) -/

theorem clampInt_eq_max_min {lo hi : Int} (h : lo ≤ hi) (v : Int) : clampInt lo hi v = max lo (min hi v) := by
  unfold clampInt
  split_ifs <;> omega

theorem clampInt_bne (lo hi v : Int) : (clampInt lo hi v != v) = decide (v < lo ∨ hi < v) := by
  rw [Bool.eq_iff_iff, bne_iff_ne, decide_eq_true_iff]
  unfold clampInt
  split_ifs <;> omega

/-- A value clamped twice between limits in order is clamped once. -/
theorem clampInt_clampInt {lo hi : Int} (h : lo ≤ hi) (v : Int) : clampInt lo hi (clampInt lo hi v) = clampInt lo hi v := by
  rw [clampInt_eq_max_min h, clampInt_eq_max_min h]
  omega

/-- Whether a request exceeds its cap (R27). -/
def isCapped (rateMax pct req : Nat) : Bool := decide (min rateMax (windCap rateMax pct) < req)

/-- Whether the wind caps an axis below its rate limit (R27). -/
def windBelow (rateMax pct : Nat) : Bool := decide (windCap rateMax pct < rateMax)

theorem capSpeed_lt_iff (rateMax pct req : Nat) : capSpeed rateMax pct req < req ↔ isCapped rateMax pct req = true := by
  rw [isCapped, decide_eq_true_iff, capSpeed]
  omega

theorem capSpeed_capSpeed (rateMax pct req : Nat) : capSpeed rateMax pct (capSpeed rateMax pct req) = capSpeed rateMax pct req := by
  unfold capSpeed
  omega

theorem capCause_eq (rateMax pct req : Nat) :
    capCause rateMax pct req = { noClip with
      rateCap := isCapped rateMax pct req && !windBelow rateMax pct
      windCap := isCapped rateMax pct req && windBelow rateMax pct } := by
  unfold capCause
  simp only [capSpeed_lt_iff]
  cases isCapped rateMax pct req
  · rfl
  · by_cases hwind : windCap rateMax pct < rateMax <;> simp [windBelow, hwind, noClip]

theorem capCause_capSpeed (rateMax pct req : Nat) : capCause rateMax pct (capSpeed rateMax pct req) = noClip :=
  if_neg (by rw [capSpeed_capSpeed]; exact lt_irrefl _)

/-! ### Sets of causes (R17) -/

theorem ClipSet.union_noClip (a : ClipSet) : a.union noClip = a := by
  simp [ClipSet.union, noClip]

theorem ClipSet.union_assoc (a b c : ClipSet) : (a.union b).union c = a.union (b.union c) := by
  simp [ClipSet.union, Bool.or_assoc]

theorem ClipSet.union_self (a : ClipSet) : a.union a = a := by
  simp [ClipSet.union]

theorem ClipSet.union_union (a b : ClipSet) : a.union (a.union b) = a.union b := by
  rw [← ClipSet.union_assoc, ClipSet.union_self]

/-- The causes of a TRACK demand in force: the capping causes before it joined by those of its fit, and the allocation causes
(R27, R59, R60). -/
def trackCauses (e : Envelope) (pct : Nat) (before : ClipSet) (az el : Int) (azReq elReq : Nat) (budget heatHeld : Bool) : ClipSet where
  targetClamp := before.targetClamp || decide (az < e.azMin ∨ e.azMax < az ∨ el < e.elMin ∨ e.elMax < el)
  rateCap := before.rateCap || (isCapped e.azRateMax pct azReq && !windBelow e.azRateMax pct)
    || (isCapped e.elRateMax pct elReq && !windBelow e.elRateMax pct)
  windCap := before.windCap || (isCapped e.azRateMax pct azReq && windBelow e.azRateMax pct)
    || (isCapped e.elRateMax pct elReq && windBelow e.elRateMax pct)
  budget := budget
  heatHeld := heatHeld
  stale := false
  lockout := false
  stowOverride := false
  stopped := false

section
variable {s : State} {n : StationId} {az el : Int} {azReq elReq : Nat}

/-- A demand that fits, in the words of R26, R27 and R50. -/
theorem State.fitDemand_demand (h : (s.envelope n).ordered) :
    (s.fitDemand n az el azReq elReq).1 =
      { cls := .track
        azSpeed := min azReq (min (s.envelope n).azRateMax ((s.envelope n).azRateMax * s.pct / 100))
        elSpeed := min elReq (min (s.envelope n).elRateMax ((s.envelope n).elRateMax * s.pct / 100))
        azTarget := max (s.envelope n).azMin (min (s.envelope n).azMax az)
        elTarget := max (s.envelope n).elMin (min (s.envelope n).elMax el)
        watts := motionWatts (s.envelope n) s.windFactor
          (min azReq (min (s.envelope n).azRateMax ((s.envelope n).azRateMax * s.pct / 100)))
          (min elReq (min (s.envelope n).elRateMax ((s.envelope n).elRateMax * s.pct / 100))) } := by
  obtain ⟨haz, hel⟩ := h
  rw [← clampInt_eq_max_min haz.le, ← clampInt_eq_max_min hel.le]
  rfl

/-- The capping causes of a fit joined to those before. -/
theorem State.fitDemand_causes (before : ClipSet) (budget heatHeld : Bool) :
    (before.capping.union (s.fitDemand n az el azReq elReq).2).union { noClip with budget := budget, heatHeld := heatHeld } =
      trackCauses (s.envelope n) s.pct before az el azReq elReq budget heatHeld := by
  simp only [State.fitDemand, capCause_eq, clampInt_bne]
  simp [ClipSet.union, ClipSet.capping, trackCauses, noClip, Bool.or_assoc]

theorem State.fitDemand_capping : (s.fitDemand n az el azReq elReq).2.capping = (s.fitDemand n az el azReq elReq).2 := by
  simp only [State.fitDemand, capCause_eq]
  simp [ClipSet.union, ClipSet.capping, noClip]

/-- A demand that fits does so again, without a cause (R51). -/
theorem State.fitDemand_again (h : (s.envelope n).ordered) :
    let d := (s.fitDemand n az el azReq elReq).1
    s.fitDemand n d.azTarget d.elTarget d.azSpeed d.elSpeed = (d, noClip) := by
  obtain ⟨haz, hel⟩ := h
  simp only [State.fitDemand, clampInt_clampInt haz.le, clampInt_clampInt hel.le, capSpeed_capSpeed, capCause_capSpeed, bne_self_eq_false]
  rfl

end

/-! ### Records at the start of the allocation (R25 to R28, R51) -/

theorem refreshDemand_own : OwnRecord refreshDemand where
  only := refreshDemand_only
  other s n m h := by rw [refreshDemand_eq, State.updStation_station, if_neg h]

theorem refreshed_congr {s u : State} (h : OnlyStations s u) : refreshed u = refreshed s := by
  have hfit : u.fitDemand = s.fitDemand := by
    unfold State.fitDemand State.envelope State.pct State.windFactor State.windRecord
    rw [h.settings, h.wind]
  funext n st
  unfold refreshed
  rw [hfit]

theorem State.batchStart_station (s : State) (es : List BatchEntry) (n : StationId) :
    (s.batchStart es).station n = refreshed s n ((es.foldl handleEntry s).station n) := by
  obtain ⟨u, honly, hst, hstep⟩ :=
    refreshDemand_own.foldl_inside (es.foldl handleEntry s) nodup_stationIds (mem_stationIds n)
  rw [State.batchStart, hstep, refreshDemand_eq, State.updStation_station, if_pos rfl, hst,
    refreshed_congr ((OnlyStations.foldl handleEntry_only es s).trans honly)]

/-- A record with a TRACK demand that fits the figures in force, its capping causes joined to `before` and logged. -/
structure TracksFit (s : State) (n : StationId) (before : ClipSet) (az el : Int) (azReq elReq : Nat) (st : Station) : Prop where
  demand : st.demand = (s.fitDemand n az el azReq elReq).1
  stale : st.stale = false
  clipStatus : st.clipStatus = before.capping.union (s.fitDemand n az el azReq elReq).2
  clipLog : st.clipLog = (s.station n).clipLog.union st.clipStatus

section
variable {s : State} {es : List BatchEntry} {b : BatchEntry} {n : StationId}

theorem wellFormedBatch.names_iff (hwf : wellFormedBatch es) (hb : b ∈ es) : b.station.toNat = n.val ↔ entryStation b = n := by
  obtain ⟨-, hnames, -⟩ := hwf
  rw [Fin.ext_iff, entryStation_val (hnames b hb)]

theorem batchStart_named (hwf : wellFormedBatch es) (hb : b ∈ es) :
    (s.batchStart es).station (entryStation b) = refreshed s (entryStation b) (handled s b (s.station (entryStation b))) := by
  rw [s.batchStart_station, handleEntry_change.foldl_own s hwf.nodup hb]

theorem batchStart_unnamed (hn : ∀ b ∈ es, entryStation b ≠ n) :
    (s.batchStart es).station n = refreshed s n (s.station n) := by
  rw [s.batchStart_station, handleEntry_change.foldl_others s hn]

theorem refreshed_of_not {st : Station} (h : ¬(st.demand.cls = .track ∧ st.stale = false)) : refreshed s n st = st :=
  if_neg (by simpa using h)

theorem refreshed_of_track {st : Station} (htrack : st.demand.cls = .track) (hfresh : st.stale = false) :
    refreshed s n st =
      { st with demand := (s.fitDemand n st.demand.azTarget st.demand.elTarget st.demand.azSpeed st.demand.elSpeed).1 }.clipped
        (st.clipStatus.capping.union
          (s.fitDemand n st.demand.azTarget st.demand.elTarget st.demand.azSpeed st.demand.elSpeed).2) :=
  if_pos (by simp [htrack, hfresh])

theorem handled_taken (h : (s.authority (entryStation b)).takes = true) :
    handled s b (s.station (entryStation b)) =
      { s.station (entryStation b) with
        demand := (s.fitDemand (entryStation b) b.azTarget.toInt b.elTarget.toInt b.azSpeed.toNat b.elSpeed.toNat).1
        freshness := some (s.timer s.settings.timing.setpointDeadline)
        stale := false }.clipped
        (s.fitDemand (entryStation b) b.azTarget.toInt b.elTarget.toInt b.azSpeed.toNat b.elSpeed.toNat).2 :=
  if_pos h

/-- An entry taken: the refresh finds nothing to change (R26 to R28, R51). -/
theorem batchStart_taken (hwf : wellFormedBatch es) (hb : b ∈ es) (horder : (s.envelope (entryStation b)).ordered)
    (htakes : (s.authority (entryStation b)).takes = true) :
    TracksFit s (entryStation b) noClip b.azTarget.toInt b.elTarget.toInt b.azSpeed.toNat b.elSpeed.toNat
        ((s.batchStart es).station (entryStation b))
      ∧ ((s.batchStart es).station (entryStation b)).freshness = some (s.timer s.settings.timing.setpointDeadline) := by
  have hhandled := batchStart_named (s := s) hwf hb
  rw [handled_taken htakes, refreshed_of_track rfl rfl] at hhandled
  simp only [Station.clipped, State.fitDemand_again horder, State.fitDemand_capping, ClipSet.union_noClip, ClipSet.union_assoc,
    ClipSet.union_self] at hhandled
  rw [hhandled]
  exact ⟨⟨rfl, rfl, rfl, rfl⟩, rfl⟩

/-- A TRACK station without an entry is refreshed (R51, R60). -/
theorem batchStart_refreshed (hn : ∀ b ∈ es, entryStation b ≠ n) (htrack : (s.station n).demand.cls = .track)
    (hfresh : (s.station n).stale = false) :
    TracksFit s n (s.station n).clipStatus (s.station n).demand.azTarget (s.station n).demand.elTarget
        (s.station n).demand.azSpeed (s.station n).demand.elSpeed ((s.batchStart es).station n)
      ∧ ((s.batchStart es).station n).freshness = (s.station n).freshness := by
  rw [batchStart_unnamed hn, refreshed_of_track htrack hfresh]
  exact ⟨⟨rfl, hfresh, rfl, rfl⟩, rfl⟩

/-- An entry discarded leaves at most its cause (R25). -/
theorem batchStart_discarded (hwf : wellFormedBatch es) (hb : b ∈ es) (hother : (s.station (entryStation b)).demand.cls ≠ .track)
    (hdiscards : ¬(s.authority (entryStation b)).takes = true) :
    (s.batchStart es).station (entryStation b) =
      (discardCause (s.authority (entryStation b))).elim (s.station (entryStation b)) (s.station (entryStation b)).clipped := by
  rw [batchStart_named hwf hb, handled_discarded hdiscards]
  cases discardCause (s.authority (entryStation b)) with
  | none => exact refreshed_of_not fun h => hother h.1
  | some c => exact refreshed_of_not fun h => hother h.1

end

/-! ### Heat that was held (R55, R59) -/

/-- A zone goes on drawing that was no candidate: one that R55 protects, for none of these is shed. -/
theorem heatHeld_batch_iff (s : State) :
    heatHeld s (s.afterShed .batch) .batch = true ↔
      ∃ m z, (s.zone m z).state = .on ∧ 1 ≤ (s.zoneRecord m z).powerW
        ∧ (s.settings.budget.meltPriority = 1 ∨ (s.zoneRecord m z).priority = 0
          ∨ ((s.zone m z).minOnReached = false
            ∧ ∀ start ∈ (s.zone m z).onStart, (s.now - start).toNat < (s.zoneRecord m z).minOn)) := by
  have hdrawing : ∀ p, p ∉ s.candidates .batch → (p ∈ (s.afterShed .batch).drawing ↔ p ∈ s.drawing) := fun p hp => by
    have hshed : p ∉ s.shedZones .batch := fun hs => hp (mem_shedOrder.mp (untilMet_subset hs))
    rw [State.mem_drawing, State.mem_drawing, State.afterShed, shedAll_zone, if_neg hshed, (shedAll_zones _ s).only.zoneRecord]
  have hheld : heatHeld s (s.afterShed .batch) .batch = true ↔ ∃ p, p ∈ s.drawing ∧ p ∉ s.candidates .batch := by
    rw [heatHeld, List.any_eq_true]
    refine exists_congr fun p => ?_
    rw [Bool.not_eq_true', ← Bool.not_eq_true, List.contains_iff_mem]
    exact and_congr_left (hdrawing p)
  rw [hheld, Prod.exists]
  refine exists_congr fun m => exists_congr fun z => ?_
  rw [State.mem_drawing, State.mem_candidates, and_assoc]
  refine and_congr_right fun hon => and_congr_right fun hdraws => ?_
  simp only [hon, hdraws, true_and, ne_eq, reduceCtorEq, not_false_eq_true, not_and_or, not_not, not_or,
    Bool.not_eq_true, not_exists, not_le, Nat.lt_one_iff, imp_iff_not_or]

end Sys2Proof.Machine
end

section
/-! SUPPORT. The end of a batch taken, and O25: the causes and the grants of every record (R59, R60), the markers and the SETPOINTs
offered (R29, R30, R168), and what stands. -/

namespace Sys2Proof.Machine

/-- What a batch taken leaves (R25 to R30, R51). -/
def State.batchEnd (s : State) (es : List BatchEntry) : State :=
  examine ((batchOffers (s.takers es) s (allocate .batch (s.batchStart es))).foldl offerGrant (allocate .batch (s.batchStart es)))

theorem OnlyStations.withAlloc {s x : State} (h : OnlyStations s x) (r : AllocRecord) :
    OnlyStations { s with alloc := r } { x with alloc := r } := by
  obtain ⟨h1, h2, h3, h4, h5, h6, h7, h8, h9, -, h11, h12, h13, h14, h15, h16, h17, h18, h19⟩ := h
  exact ⟨h1, h2, h3, h4, h5, h6, h7, h8, h9, rfl, h11, h12, h13, h14, h15, h16, h17, h18, h19⟩

theorem State.sameButStations.of_only {s x : State} (h : OnlyStations s x) : s.sameButStations (examine x) := by
  unfold State.sameButStations
  rw [examine_eq]
  obtain ⟨h1, h2, h3, h4, h5, h6, h7, h8, h9, h10, h11, h12, h13, h14, h15, -, -, h18, h19⟩ := h
  cases s
  cases x
  simp only at h1 h2 h3 h4 h5 h6 h7 h8 h9 h10 h11 h12 h13 h14 h15 h18 h19
  subst h1 h2 h3 h4 h5 h6 h7 h8 h9 h10 h11 h12 h13 h14 h15 h18 h19
  rfl

/-- An allocation changes its record, and else the station records alone. -/
theorem State.afterAdmission_only (s : State) (k : AllocKind) :
    OnlyStations { s with alloc := s.recordFor k } (s.afterAdmission k) := by
  have hgrants : OnlyStations (s.afterShed k) (s.afterGrants k) :=
    ⟨rfl, rfl, rfl, rfl, rfl, rfl, rfl, rfl, rfl, rfl, rfl, rfl, rfl, rfl, rfl, rfl, rfl, rfl, rfl⟩
  exact (((s.afterShed_zones k).only.trans hgrants).withAlloc _).trans (admitAll_zones _ (s.afterRecord k)).only

section
variable {k : AllocKind} {s t u : State}

theorem Allocates.kind (h : Allocates k s t) : t.alloc.kind = k := by
  rw [h.alloc]
  rfl

theorem Allocates.time (h : Allocates k s t) : t.alloc.time = s.now := by
  rw [h.alloc]
  rfl

theorem Allocates.scale (h : Allocates k s t) : t.alloc.scale = s.scaleFor k := by
  rw [h.alloc]
  rfl

/-- The SETPOINT of an allocation is the same however far its offers have come. -/
theorem Allocates.grantSetpoint (h : Allocates k s t) (h' : Allocates k s u) (n : StationId) :
    t.grantSetpoint n = u.grantSetpoint n := by
  unfold State.grantSetpoint
  rw [h.demand, h.grant, h'.demand, h'.grant]

end

theorem Authority.permitting_of_takes {a : Authority} (h : a.takes = true) : a.permitting = true := by
  revert h
  cases a <;> decide

section
variable (s : State) (es : List BatchEntry) (n : StationId)

theorem batchEnd_ports : OnlyPorts ((s.batchStart es).afterAdmission .batch)
    ((batchOffers (s.takers es) s (allocate .batch (s.batchStart es))).foldl offerGrant (allocate .batch (s.batchStart es))) := by
  have hmarks := offerHeatMarkers_ports (s.batchStart es) ((s.batchStart es).afterAdmission .batch)
  rw [← allocate_eq] at hmarks
  exact hmarks.trans (.foldl offerGrant_ports _ _)

theorem batchEnd_allocates : Allocates .batch (s.batchStart es) (s.batchEnd es) :=
  (Allocates.foldl offerGrant_allocates _ (allocate_allocates _ _)).examine

theorem batchEnd_alloc_kind : (s.batchEnd es).alloc.kind = .batch := (batchEnd_allocates s es).kind

theorem batchEnd_alloc_time : (s.batchEnd es).alloc.time = s.now :=
  (batchEnd_allocates s es).time.trans (s.batchStart_only es).now

theorem batchEnd_sameButStations : { s with alloc := (s.batchEnd es).alloc }.sameButStations (s.batchEnd es) := by
  rw [(batchEnd_allocates s es).alloc]
  have hstart := (s.batchStart_only es).withAlloc ((s.batchStart es).recordFor .batch)
  have honly := (hstart.trans ((s.batchStart es).afterAdmission_only .batch)).trans (batchEnd_ports s es).only
  rw [State.batchEnd]
  exact .of_only honly

/-- Behind the grants and the admissions, a record changes in its port alone. -/
theorem batchEnd_body :
    SameBody
      { (s.batchStart es).grantedRecord .batch n ((s.batchStart es).station n) with
        zones := (((s.batchStart es).afterAdmission .batch).station n).zones }
      ((s.batchEnd es).station n) := by
  have hsame := (batchEnd_ports s es).same n
  rw [(s.batchStart es).afterAdmission_station .batch n] at hsame
  rw [State.batchEnd, examine_station]
  exact hsame

end

/-! ### Records at the end (R58 to R60) -/

section
variable {st b : Station} {zones : Tab 4 Zone} {scale : Nat} {held : Bool}

theorem SameBody.granted_member (h : SameBody { st.granted .batch true scale held with zones := zones } b) :
    b.freshness = st.freshness ∧ b.clipStatus = st.clipStatus.union (allocationCauses st.demand scale held)
      ∧ b.clipLog = st.clipLog.union b.clipStatus :=
  ⟨h.freshness, h.clipStatus, by rw [h.clipLog, h.clipStatus]; rfl⟩

theorem SameBody.granted_other (h : SameBody { st.granted .batch false scale held with zones := zones } b) :
    b.freshness = st.freshness ∧ b.clipStatus = st.clipStatus ∧ b.clipLog = st.clipLog ∧ b.demand = st.demand ∧ b.grant = noGrant :=
  ⟨h.freshness, h.clipStatus, h.clipLog, h.demand, h.grant⟩

end

section
variable {s : State} {es : List BatchEntry} {n : StationId}

theorem batchEnd_member (hn : (s.batchStart es).memberOf .batch n = true) :
    ((s.batchEnd es).station n).freshness = ((s.batchStart es).station n).freshness
      ∧ ((s.batchEnd es).station n).clipStatus = ((s.batchStart es).station n).clipStatus.union
          (allocationCauses ((s.batchStart es).station n).demand ((s.batchStart es).scaleFor .batch)
            (heatHeld (s.batchStart es) ((s.batchStart es).afterShed .batch) .batch))
      ∧ ((s.batchEnd es).station n).clipLog =
          ((s.batchStart es).station n).clipLog.union ((s.batchEnd es).station n).clipStatus := by
  have hbody := batchEnd_body s es n
  rw [State.grantedRecord, hn] at hbody
  exact hbody.granted_member

theorem batchEnd_other (hn : (s.batchStart es).memberOf .batch n = false) :
    ((s.batchEnd es).station n).freshness = ((s.batchStart es).station n).freshness
      ∧ ((s.batchEnd es).station n).clipStatus = ((s.batchStart es).station n).clipStatus
      ∧ ((s.batchEnd es).station n).clipLog = ((s.batchStart es).station n).clipLog
      ∧ ((s.batchEnd es).station n).demand = ((s.batchStart es).station n).demand
      ∧ ((s.batchEnd es).station n).grant = noGrant := by
  have hbody := batchEnd_body s es n
  rw [State.grantedRecord, hn] at hbody
  exact hbody.granted_other

/-! ### TRACK stations (R50, R51, R59, R60) -/

theorem State.batchStart_heat (s : State) (es : List BatchEntry) : SameHeat s (s.batchStart es) :=
  have honly := s.batchStart_only es
  .of_sameRest honly.settings honly.now (s.batchStart_sameRest es)

theorem batchStart_heatHeld_iff :
    heatHeld (s.batchStart es) ((s.batchStart es).afterShed .batch) .batch = true ↔
      ∃ m z, (s.zone m z).state = .on ∧ 1 ≤ (s.zoneRecord m z).powerW
        ∧ (s.settings.budget.meltPriority = 1 ∨ (s.zoneRecord m z).priority = 0
          ∨ ((s.zone m z).minOnReached = false
            ∧ ∀ start ∈ (s.zone m z).onStart, (s.now - start).toNat < (s.zoneRecord m z).minOn)) := by
  obtain ⟨hzone, hrecord, hnow⟩ := s.batchStart_heat es
  rw [heatHeld_batch_iff, hzone, hrecord, hnow, (s.batchStart_only es).settings]

theorem allocationCauses_eq {d : Demand} {scale : Nat} {heldBool : Bool} {limited held : Prop} {_ : Decidable limited}
    {_ : Decidable (limited ∧ held)} (hlimited : limited ↔ d.watts ≠ 0 ∧ scale < 1024) (hheld : heldBool = true ↔ held) :
    allocationCauses d scale heldBool = { noClip with budget := decide limited, heatHeld := decide (limited ∧ held) } := by
  unfold allocationCauses
  by_cases hl : limited
  · have hb : heldBool = decide (limited ∧ held) := by
      rw [Bool.eq_iff_iff, hheld, decide_eq_true_iff, and_iff_right hl]
    rw [if_pos (hlimited.mp hl), hb, decide_eq_true hl]
  · rw [if_neg fun h => hl (hlimited.mpr h), decide_eq_false hl, decide_eq_false fun h => hl h.1]
    rfl

/-- A TRACK station at the end: what it demands, and its causes with those of the allocation. -/
theorem batchEnd_tracks {before : ClipSet} {az el : Int} {azReq elReq : Nat}
    (h : TracksFit s n before az el azReq elReq ((s.batchStart es).station n)) {limited held : Prop} {_ : Decidable limited}
    {_ : Decidable (limited ∧ held)}
    (hlimited : limited ↔ ((s.batchEnd es).station n).demand.watts ≠ 0 ∧ (s.batchEnd es).alloc.scale < 1024)
    (hheld : heatHeld (s.batchStart es) ((s.batchStart es).afterShed .batch) .batch = true ↔ held) :
    ((s.batchEnd es).station n).demand = (s.fitDemand n az el azReq elReq).1
      ∧ ((s.batchEnd es).station n).freshness = ((s.batchStart es).station n).freshness
      ∧ ((s.batchEnd es).station n).stale = false
      ∧ ((s.batchEnd es).station n).clipStatus =
          trackCauses (s.envelope n) s.pct before az el azReq elReq (decide limited) (decide (limited ∧ held))
      ∧ ((s.batchEnd es).station n).clipLog = (s.station n).clipLog.union ((s.batchEnd es).station n).clipStatus := by
  have hallocates := batchEnd_allocates s es
  obtain ⟨hdemand, hstale, hclip, hlog⟩ := h
  have hmember : (s.batchStart es).memberOf .batch n = true := by
    rw [State.memberOf, hdemand, hstale]
    rfl
  obtain ⟨hfreshness, hclip', hlog'⟩ := batchEnd_member hmember
  rw [hallocates.demand, hallocates.scale] at hlimited
  rw [allocationCauses_eq hlimited hheld] at hclip'
  refine ⟨(hallocates.demand n).trans hdemand, hfreshness, (hallocates.stale n).trans hstale, ?_, ?_⟩
  · rw [hclip', hclip, State.fitDemand_causes]
  · rw [hlog', hlog, ClipSet.union_assoc, hclip', ClipSet.union_union]

/-! ### What the stations are offered (R29, R30, R168) -/

theorem mem_takers_iff {b : BatchEntry} (hb : b ∈ es) :
    entryStation b ∈ s.takers es ↔ (s.authority (entryStation b)).takes = true := by
  rw [State.takers, List.mem_map]
  refine ⟨fun ⟨a, ha, hab⟩ => ?_, fun h => ⟨b, List.mem_filter.mpr ⟨hb, h⟩, rfl⟩⟩
  rw [← hab]
  exact (List.mem_filter.mp ha).2

theorem not_mem_takers (hn : ∀ b ∈ es, entryStation b ≠ n) : n ∉ s.takers es := fun h => by
  obtain ⟨b, hb, hbn⟩ := List.mem_map.mp h
  exact hn b (List.mem_filter.mp hb).1 hbn

/-- The stations offered a SETPOINT, in the words of R29 and at the end of the event. -/
theorem mem_batchOffers_iff :
    n ∈ batchOffers (s.takers es) s (allocate .batch (s.batchStart es)) ↔
      n ∈ s.takers es ∨ (((s.batchEnd es).station n).demand.cls = .track ∧ ((s.batchEnd es).station n).stale = false
        ∧ (((s.batchEnd es).station n).grant.azSpeed ≠ (s.station n).grant.azSpeed
          ∨ ((s.batchEnd es).station n).grant.elSpeed ≠ (s.station n).grant.elSpeed)) := by
  have hend := batchEnd_allocates s es
  have hfirst := allocate_allocates .batch (s.batchStart es)
  rw [hend.demand, hend.stale, hend.grant, ← hfirst.grant n, ← hfirst.demand n, ← hfirst.stale n]
  simp [batchOffers, mem_stationIds, and_assoc, ne_comm]

theorem Station.sameRest.free {a b : Station} (h : a.sameRest b) : b.free = a.free := by
  rw [h]
  rfl

/-- Taking entries rests on what an entry and a refresh leave alone. -/
theorem batchStart_takes : ((s.batchStart es).authority n).takes = (s.authority n).takes := by
  have hfree := (s.batchStart_sameRest es n).free
  rw [State.authority, State.authority, authorityOf_takes, authorityOf_takes, hfree, (s.batchStart_only es).stowActive]

theorem batchEnd_marks : Offers s.nodeAddress (markOf n s (s.batchEnd es)) (s.station n)
    ((allocate .batch (s.batchStart es)).station n) := by
  have hmarks := allocate_offers .batch (s.batchStart_only es).nodeAddress (s.batchStart_sameRest es n)
  rwa [(batchEnd_allocates s es).markOf (s.batchStart_heat es)] at hmarks

/-- Behind its marker a station that permits motion is offered the SETPOINT of its grant. -/
theorem batchEnd_offers_setpoint (htakes : (s.authority n).takes = true)
    (hn : n ∈ batchOffers (s.takers es) s (allocate .batch (s.batchStart es))) :
    Offers s.nodeAddress (markOf n s (s.batchEnd es) ++ [.setpoint ((s.batchEnd es).grantSetpoint n)]) (s.station n)
      ((s.batchEnd es).station n) := by
  have hfirst := allocate_allocates .batch (s.batchStart es)
  obtain ⟨u, honly, hst, hstep⟩ :=
    offerGrant_own.foldl_inside (allocate .batch (s.batchStart es)) (nodup_stationIds.filter _) hn
  have hauthority : u.authority n = (s.batchStart es).authority n := by
    rw [← hfirst.authority, State.authority, State.authority, honly.stowActive, hst]
  have hpermits : (u.authority n).permitting = true :=
    Authority.permitting_of_takes (by rw [hauthority, batchStart_takes, htakes])
  have hset : u.grantSetpoint n = (s.batchEnd es).grantSetpoint n := by
    rw [(batchEnd_allocates s es).grantSetpoint hfirst, State.grantSetpoint, State.grantSetpoint, hst]
  have hoffers := offers_offer (n := n) (e := .setpoint (u.grantSetpoint n)) u (by simp [checked, hpermits])
  have hnode := (allocate_keeps .batch (s.batchStart es)).nodeAddress.trans (s.batchStart_only es).nodeAddress
  rw [← offerGrant, hset, hst, honly.nodeAddress, hnode] at hoffers
  rw [State.batchEnd, examine_station, batchOffers, hstep]
  exact batchEnd_marks.trans hoffers

/-- The other stations are offered their marker alone. -/
theorem batchEnd_offers_mark (hn : n ∉ batchOffers (s.takers es) s (allocate .batch (s.batchStart es))) :
    Offers s.nodeAddress (markOf n s (s.batchEnd es)) (s.station n) ((s.batchEnd es).station n) := by
  have hmarks : Offers s.nodeAddress (markOf n s (s.batchEnd es)) (s.station n) _ := batchEnd_marks
  rwa [← offerGrant_own.foldl_outside (allocate .batch (s.batchStart es)) hn,
    ← examine_station (List.foldl offerGrant _ _)] at hmarks

theorem Offers.keeps_setpoints {t : State} {node : Byte} (h : Offers node (markOf n s t) (s.station n) (t.station n))
    (hqueues : s.queueing n) : queuedSetpoints (t.station n).queue = queuedSetpoints (s.station n).queue := by
  obtain ⟨hup, htx⟩ := hqueues
  refine h.setpoints hup htx fun e he => ?_
  unfold markOf at he
  split at he
  · exact absurd he (by simp)
  · obtain rfl := List.mem_singleton.mp he
    decide

theorem Offers.offered_setpoint {t : State} {node : Byte} {sp : Setpoint}
    (h : Offers node (markOf n s t ++ [.setpoint sp]) (s.station n) (t.station n)) : s.offered t n (.setpoint sp) := by
  rintro hqueues ⟨hup, htx⟩
  exact h.waits hup htx (hqueues n).1 rfl fun x hx => absurd hx (by simp)

/-- Where no zone has turned, a SETPOINT leaves an idle port at once. -/
theorem Offers.setpoint_leaves {t : State} {node : Byte} {sp : Setpoint}
    (h : Offers node (markOf n s t ++ [.setpoint sp]) (s.station n) (t.station n)) (hidle : s.idling n)
    (hzones : ∀ z, (t.zone n z).state = (s.zone n z).state) : (t.station n).tx = some (.setpoint sp) := by
  obtain ⟨hup, htx, hnil⟩ := hidle
  rw [markOf, if_pos (onMask_congr hzones).symm] at h
  exact h.first_leaves hup htx hnil rfl

end

/-! ### O25 -/

theorem Authority.takes_iff {a : Authority} : a.takes = true ↔ a = .coasting ∨ a = .tracking ∨ a = .idle := by
  cases a <;> simp [Authority.takes]

theorem Authority.takes_of_discardCause {a : Authority} {c : ClipSet} (h : discardCause a = some c) : ¬a.takes = true := fun htakes => by
  rcases Authority.takes_iff.mp htakes with rfl | rfl | rfl <;> exact absurd h (by simp [discardCause])

/-- TRACKING stands for a demand of class TRACK that is not stale (R18). -/
theorem authorityOf_tracking {stow : Bool} {st : Station} (h : authorityOf stow st = .tracking) :
    st.demand.cls = .track ∧ st.stale = false := by
  unfold authorityOf at h
  obtain ⟨-, h⟩ := ite_resolve h (by simp)
  obtain ⟨-, h⟩ := ite_resolve h (by simp)
  obtain ⟨-, h⟩ := ite_resolve h (by simp)
  obtain ⟨-, h⟩ := ite_resolve h (by simp)
  obtain ⟨-, h⟩ := ite_resolve h (by simp)
  obtain ⟨-, h⟩ := ite_resolve h (by cases st.progress <;> simp)
  obtain ⟨hfresh, h⟩ := ite_resolve h (by simp)
  by_cases htrack : st.demand.cls = .track
  · exact ⟨htrack, Bool.not_eq_true _ ▸ hfresh⟩
  · exact absurd ((if_neg htrack).symm.trans h) (by simp)

/-- The percentage in force, level by level (R27). -/
theorem State.pct_eq (s : State) :
    s.pct = match s.wind.level with
      | .breezy => (s.settings.wind.get 1).pct
      | .gusty => (s.settings.wind.get 2).pct
      | .calm | .stow => 100 := by
  unfold State.pct State.windRecord
  cases s.wind.level <;> rfl

section
variable {s : State} {es : List BatchEntry} {n : StationId}

theorem Station.sameRest.granted_sameButPort {a b c : Station} {k : AllocKind} {member : Bool} {scale : Nat} {held : Bool}
    (h : a.sameRest b) (hc : (b.granted k member scale held).sameDrive c) :
    { a with
      freshness := c.freshness, stale := c.stale, demand := c.demand, grant := c.grant, clipStatus := c.clipStatus
      clipLog := c.clipLog, zones := c.zones }.sameButPort c := by
  refine ⟨?_, fun z => rfl⟩
  rw [hc, h]
  unfold Station.granted
  split <;> rfl

theorem batchEnd_sameButPort (s : State) (es : List BatchEntry) (n : StationId) :
    { s.station n with
      freshness := ((s.batchEnd es).station n).freshness, stale := ((s.batchEnd es).station n).stale
      demand := ((s.batchEnd es).station n).demand, grant := ((s.batchEnd es).station n).grant
      clipStatus := ((s.batchEnd es).station n).clipStatus, clipLog := ((s.batchEnd es).station n).clipLog
      zones := ((s.batchEnd es).station n).zones }.sameButPort ((s.batchEnd es).station n) :=
  (s.batchStart_sameRest es n).granted_sameButPort ((batchEnd_allocates s es).record n)

/-- A record whose demand does not track at the start of the allocation stands. -/
theorem batchEnd_stands {st : Station} (hst : (s.batchStart es).station n = st)
    (hother : ¬(st.demand.cls = .track ∧ st.stale = false)) :
    ((s.batchEnd es).station n).freshness = st.freshness ∧ ((s.batchEnd es).station n).clipStatus = st.clipStatus
      ∧ ((s.batchEnd es).station n).clipLog = st.clipLog ∧ ((s.batchEnd es).station n).demand = st.demand
      ∧ ((s.batchEnd es).station n).grant = noGrant := by
  subst hst
  exact batchEnd_other (by simpa [State.memberOf] using hother)

/-- An entry discarded with a cause leaves that cause (R25). -/
theorem batchEnd_discarded {b : BatchEntry} {c : ClipSet} (hwf : wellFormedBatch es) (hb : b ∈ es)
    (hother : (s.station (entryStation b)).demand.cls ≠ .track) (hcause : discardCause (s.authority (entryStation b)) = some c) :
    ((s.batchEnd es).station (entryStation b)).clipStatus = c
      ∧ ((s.batchEnd es).station (entryStation b)).clipLog = (s.station (entryStation b)).clipLog.union c
      ∧ ((s.batchEnd es).station (entryStation b)).demand = (s.station (entryStation b)).demand
      ∧ ((s.batchEnd es).station (entryStation b)).freshness = (s.station (entryStation b)).freshness := by
  have hstart := batchStart_discarded hwf hb hother (Authority.takes_of_discardCause hcause)
  rw [hcause] at hstart
  obtain ⟨hfreshness, hclip, hlog, hdemand, -⟩ := batchEnd_stands hstart fun h => hother h.1
  exact ⟨hclip, hlog, hdemand, hfreshness⟩

/-- An entry for an ABSENT station leaves nothing (R25). -/
theorem batchEnd_absent {b : BatchEntry} (hwf : wellFormedBatch es) (hb : b ∈ es)
    (hother : (s.station (entryStation b)).demand.cls ≠ .track) (habsent : s.authority (entryStation b) = .absent) :
    ((s.batchEnd es).station (entryStation b)).clipStatus = (s.station (entryStation b)).clipStatus
      ∧ ((s.batchEnd es).station (entryStation b)).clipLog = (s.station (entryStation b)).clipLog
      ∧ ((s.batchEnd es).station (entryStation b)).demand = (s.station (entryStation b)).demand
      ∧ ((s.batchEnd es).station (entryStation b)).freshness = (s.station (entryStation b)).freshness := by
  have hstart := batchStart_discarded hwf hb hother (by rw [habsent]; exact Bool.false_ne_true)
  rw [habsent] at hstart
  obtain ⟨hfreshness, hclip, hlog, hdemand, -⟩ := batchEnd_stands hstart fun h => hother h.1
  exact ⟨hclip, hlog, hdemand, hfreshness⟩

end

/-- Settles O25: an entry taken leaves a demand that the refresh finds fitting already, and a discarded one its cause alone. -/
theorem batchEntriesTaken : Obligations.BatchEntriesTaken := by
  intro es s hwf hstow hlimits
  refine ⟨s.batchEnd es, exec_pointingBatch hwf hstow, batchEnd_alloc_kind s es, batchEnd_alloc_time s es,
    batchEnd_sameButStations s es, batchEnd_sameButPort s es, fun n => ?_⟩
  intro e pct cap capped windBelow fitted held limited causes sp
  have hpct : s.pct = pct := s.pct_eq
  have horder : ∀ m, (s.envelope m).ordered := hlimits.1
  have hheld : heatHeld (s.batchStart es) ((s.batchStart es).afterShed .batch) .batch = true ↔ held := batchStart_heatHeld_iff
  refine ⟨fun b hb hbn => ?_, fun hunnamed htracking => ?_, fun hunnamed hother => ?_⟩
  · obtain rfl := (hwf.names_iff hb).mp hbn
    refine ⟨fun hauthority => ?_, fun hother hauthority => ?_, fun hother hauthority => ?_, fun hother hauthority => ?_⟩
    · have htakes := Authority.takes_iff.mpr hauthority
      obtain ⟨hstart, hfresh⟩ := batchStart_taken hwf hb (horder _) htakes
      obtain ⟨hdemand, hfreshness, hstale, hclip, hlog⟩ :=
        batchEnd_tracks (limited := limited) (held := held) hstart Iff.rfl hheld
      have hoffers := batchEnd_offers_setpoint htakes (mem_batchOffers_iff.mpr (.inl ((mem_takers_iff hb).mpr htakes)))
      rw [State.fitDemand_demand (horder _), hpct] at hdemand
      rw [hpct] at hclip
      exact ⟨hdemand, hfreshness.trans hfresh, hstale, hclip, hlog, hoffers.offered_setpoint, hoffers.setpoint_leaves⟩
    · refine batchEnd_discarded hwf hb hother ?_
      rcases hauthority with h | h | h <;> rw [h] <;> rfl
    · exact batchEnd_discarded hwf hb hother (by rw [hauthority]; rfl)
    · exact batchEnd_absent hwf hb hother hauthority
  · have hn : ∀ b ∈ es, entryStation b ≠ n := fun b hb hbn => hunnamed b hb ((hwf.names_iff hb).mpr hbn)
    obtain ⟨htrack, hcurrent⟩ := authorityOf_tracking htracking
    obtain ⟨hstart, hfresh⟩ := batchStart_refreshed hn htrack hcurrent
    obtain ⟨hdemand, hfreshness, hstale, hclip, hlog⟩ :=
      batchEnd_tracks (limited := limited) (held := held) hstart Iff.rfl hheld
    have hcls : ((s.batchEnd es).station n).demand.cls = .track := by rw [hdemand]; rfl
    have hmember := mem_batchOffers_iff (s := s) (es := es) (n := n)
    rw [or_iff_right (not_mem_takers hn), and_iff_right hcls, and_iff_right hstale] at hmember
    rw [State.fitDemand_demand (horder _), hpct] at hdemand
    rw [hpct] at hclip
    refine ⟨hdemand, hfreshness.trans hfresh, hclip, hlog, fun hgrant => ?_, fun haz hel => ?_⟩
    · exact (batchEnd_offers_setpoint (Authority.takes_iff.mpr (.inr (.inl htracking))) (hmember.mpr hgrant)).offered_setpoint
    · exact (batchEnd_offers_mark (mt hmember.mp (by simp [haz, hel]))).keeps_setpoints
  · have hn : ∀ b ∈ es, entryStation b ≠ n := fun b hb hbn => hunnamed b hb ((hwf.names_iff hb).mpr hbn)
    have hstill : ¬((s.station n).demand.cls = .track ∧ (s.station n).stale = false) := fun ⟨htrack, hcurrent⟩ => by
      rcases hother with h | h
      · exact h htrack
      · exact absurd (hcurrent.symm.trans h) Bool.false_ne_true
    have hstart := (batchStart_unnamed (s := s) hn).trans (refreshed_of_not hstill)
    obtain ⟨-, hclip, hlog, hdemand, hgrant⟩ := batchEnd_stands hstart hstill
    have hstale := ((batchEnd_allocates s es).stale n).trans (congrArg Station.stale hstart)
    refine ⟨hdemand, hgrant, hclip, hlog, (batchEnd_offers_mark fun hmember => ?_).keeps_setpoints⟩
    rw [mem_batchOffers_iff, or_iff_right (not_mem_takers hn), hdemand, hstale] at hmember
    exact hstill ⟨hmember.1, hmember.2.1⟩

end Sys2Proof.Machine
end

section
/-! SUPPORT. The settings over every command (O15): what lockdown holds of the tables and what a save holds of its snapshot (R71,
R79, R191). -/

namespace Sys2Proof.Machine

/-- The law of the store is kept, and under lockdown the flag, the active table and the wind table stand (R71, R79, R191). -/
structure SettingsKept (s t : State) : Prop where
  law : s.storeLaw → t.storeLaw
  locked : s.lockdown = true →
    t.lockdown = true ∧ t.settings.active = s.settings.active ∧ t.settings.wind = s.settings.wind

/-! ### Changes that keep the settings -/

theorem SettingsKept.refl (s : State) : SettingsKept s s := ⟨id, fun h => ⟨h, rfl, rfl⟩⟩

theorem SettingsKept.trans {s t u : State} (h : SettingsKept s t) (k : SettingsKept t u) : SettingsKept s u where
  law := k.law ∘ h.law
  locked hs := by
    obtain ⟨ht, hactive, hwind⟩ := h.locked hs
    obtain ⟨hu, kactive, kwind⟩ := k.locked ht
    exact ⟨hu, kactive.trans hactive, kwind.trans hwind⟩

theorem SettingsKept.of_eq {s t : State} (h : t = s) : SettingsKept s t := h ▸ .refl s

/-- A change of neither the flag, the tables nor the store. -/
theorem SettingsKept.of_same {s t : State} (hlock : t.lockdown = s.lockdown) (hset : t.settings = s.settings)
    (hstore : t.store = s.store) : SettingsKept s t where
  law h := by unfold State.storeLaw at *; rw [hlock, hset, hstore]; exact h
  locked h := ⟨hlock.trans h, by rw [hset], by rw [hset]⟩

theorem KeepsSettings.settingsKept {s t : State} (h : KeepsSettings s t) : SettingsKept s t :=
  .of_same h.lockdown h.settings h.store

theorem OnlyStations.settingsKept {s t : State} (h : OnlyStations s t) : SettingsKept s t := h.keepsSettings.settingsKept

/-- While no save is in progress the law of the store asks nothing of the tables, so that they may be written. -/
theorem storeLaw_of_not_saving {t : State} (h : t.store.state ≠ .saving) : t.storeLaw := ⟨fun _ => h, fun hs => absurd hs h⟩

/-- A change outside lockdown that ends with no save in progress. -/
theorem SettingsKept.of_open {s t : State} (hopen : s.lockdown ≠ true) (hstore : t.store.state ≠ .saving) :
    SettingsKept s t :=
  ⟨fun _ => storeLaw_of_not_saving hstore, fun h => absurd h hopen⟩

/-- While no save is in progress a table that lockdown does not hold may be written. -/
theorem SettingsKept.of_write {s : State} {x : Settings} (hsaving : s.store.state ≠ .saving)
    (hactive : x.active = s.settings.active) (hwind : x.wind = s.settings.wind) :
    SettingsKept s { s with settings := x } :=
  ⟨fun _ => storeLaw_of_not_saving hsaving, fun h => ⟨h, hactive, hwind⟩⟩

theorem SettingsKept.of_due {s t : State} {due : Bool} (h : SettingsKept s t) : SettingsKept s (if due then t else s) := by
  split
  · exact h
  · exact .refl s

theorem KeepsSettings.examine {s x : State} (h : KeepsSettings s x) : SettingsKept s (examine x) :=
  (h.trans (examine_keeps x)).settingsKept

theorem KeepsSettings.closeEvent {s x : State} (h : KeepsSettings s x) (s0 : State) : SettingsKept s (closeEvent s0 x) :=
  (h.trans (closeEvent_keeps s0 x)).settingsKept

theorem OnlyStations.examine {s x : State} (h : OnlyStations s x) : SettingsKept s (examine x) := h.keepsSettings.examine

theorem OnlyStations.closeEvent {s x : State} (h : OnlyStations s x) (s0 : State) : SettingsKept s (closeEvent s0 x) :=
  h.keepsSettings.closeEvent s0

/-! ### Events -/

theorem takeBatch_keeps (es : List BatchEntry) (s : State) : KeepsSettings s (takeBatch es s) := by
  unfold takeBatch
  split
  · exact recordFault_keeps _ _ _ s
  · split
    · exact (OnlyStations.foldl overrideEntry_only es s).keepsSettings
    · exact runBatch_keeps es s

theorem routeCabinet_only (f : CabinetFrame) (s : State) : OnlyStations s (routeCabinet f s) := by
  unfold routeCabinet
  split
  · exact (OnlyPorts.foldl (fun s n => offer_ports n (.cabinetData f) s) stationIds s).only
  · split
    · exact (offer_ports _ _ s).only
    · split
      · exact (recordFault_ports _ _ _ s).only
      · exact .refl s

theorem takeTelemetry_keeps (n : StationId) (f : TelemetryFrame) (s : State) : KeepsSettings s (takeTelemetry n f s) := by
  have hstored := (goodFrame_only n s).trans (State.updStation_only _ n fun st => { st with
    lastTelemetry := some (telemetryOf f s.now) })
  have hsettled := (hstored.trans (checkTelemetry_only n (telemetryOf f s.now) _)).trans (settleStation_only n s none _)
  have htested := (hsettled.trans (stowTest_only n (telemetryOf f s.now) _)).trans
    (contactorWatch_only n (telemetryOf f s.now).contactors _)
  exact htested.keepsSettings.trans (offerUp_keeps (.telemetry n f) _)

theorem stepDown_keeps (s : State) : KeepsSettings s (stepDown s) :=
  ((setHoldDown_keeps none s).trans (setLevel_keeps _ _)).trans (evalLevel_keeps _)

theorem goBlind_keeps (s : State) : KeepsSettings s (goBlind s) :=
  KeepsSettings.trans (by constructor <;> rfl) (recordFault_keeps _ _ _ _)

theorem endPrecipHold_keeps (s : State) :
    KeepsSettings s (evalCondition { s with melt := { s.melt with hold := none } }) :=
  KeepsSettings.trans (by constructor <;> rfl) (evalCondition_keeps _)

theorem refreshStow_keeps (s : State) : KeepsSettings s
    (runStowRefresh { s with wind := { s.wind with refresh := some (s.timer s.settings.timing.stowRefresh) } }) :=
  KeepsSettings.trans (by constructor <;> rfl) (runStowRefresh_keeps _)

theorem failContactor_only (n : StationId) (z : ZoneNum) (s : State) : OnlyStations s (failContactor n z s) :=
  (s.updZone_only n z _).trans (recordFault_ports _ _ _ _).only

theorem dropUnhandled_only (link : RxLink) (f : Frame) (s : State) : OnlyStations s (dropUnhandled link f s) := by
  unfold dropUnhandled
  split
  · split
    · exact (recordFault_ports _ _ _ s).only
    · exact .refl s
  · exact (goodFrame_only _ s).trans (recordFault_ports _ _ _ _).only
  · exact (recordFault_ports _ _ _ s).only

theorem departUp_keeps (s : State) : KeepsSettings s (departUp s) := by
  unfold departUp
  split <;> constructor <;> rfl

/-! ### The store and the resets (R191 to R194) -/

/-- A completed save leaves the store VALID (R192). -/
theorem completeSave_settingsKept (s : State) :
    SettingsKept s (if s.store.state = .saving then examine (completeSave s) else s) := by
  have hcomplete : SettingsKept s (completeSave s) :=
    ⟨fun _ => storeLaw_of_not_saving (by simp [completeSave, raise]), fun h => ⟨h, rfl, rfl⟩⟩
  split
  · exact hcomplete.trans (examine_keeps _).settingsKept
  · exact .refl s

theorem finishReset_keeps (storm : Bool) (s : State) : KeepsSettings s (finishReset storm s) := by
  have hstorm : KeepsSettings s (stormLevel storm s) := by constructor <;> rfl
  have hsample : KeepsSettings s (sampleStorm storm s) := by
    unfold sampleStorm
    split
    · exact hstorm.trans (activate_keeps _)
    · exact hstorm
  exact (hsample.trans (autostart_keeps _)).trans (examine_keeps _)

/-- A warm reset cuts a save off, and leaves the flag and the tables (R192, R194). -/
theorem warm_settingsKept (strap : Byte) (s : State) : SettingsKept s (warm strap s) := by
  have hcut : s.store.warm.state ≠ .saving := by
    unfold Store.warm
    split
    · simp
    · assumption
  unfold warm
  refine SettingsKept.trans ?_ (finishReset_keeps _ _).settingsKept
  exact ⟨fun _ => storeLaw_of_not_saving hcut, fun h => ⟨h, rfl, rfl⟩⟩

/-- A power-on reset examines the store and leaves it VALID or INVALID (R193). -/
theorem powerOn_storeLaw (strap : Byte) (storm fails : Bool) (s : State) : (powerOn strap storm fails s).storeLaw := by
  unfold powerOn
  refine (finishReset_keeps storm _).settingsKept.law ?_
  have hreport : ∀ u : State, SettingsKept u (reportStore u) := fun u => by
    unfold reportStore
    split
    · exact (recordFault_keeps _ _ _ u).settingsKept
    · exact .refl u
  refine (hreport _).law (storeLaw_of_not_saving ?_)
  change (if (s.store.loads fails).isSome then StoreState.valid else .invalid) ≠ .saving
  split <;> simp

/-! ### Table writes (R70, R79, R186) -/

theorem writeShadow_settingsKept (first count : Nat) (bs : List Byte) (s : State) :
    SettingsKept s (writeShadow first count bs s).state := by
  unfold writeShadow
  repeat' split
  · exact .refl s
  · exact .refl s
  · exact .of_same rfl rfl rfl

theorem writeBudget_settingsKept (count : Nat) (bs : List Byte) (s : State) :
    SettingsKept s (writeBudget count bs s).state := by
  unfold writeBudget
  simp only
  split
  · exact .refl s
  · next hsaving =>
    split
    · exact .refl s
    · rw [done_state]
      refine SettingsKept.trans ?_ (budgetShed_only _).settingsKept
      exact .of_write hsaving rfl rfl

theorem writeWind_settingsKept (first count : Nat) (bs : List Byte) (s : State) :
    SettingsKept s (writeWind first count bs s).state := by
  unfold writeWind
  simp only
  split
  · exact .refl s
  · next hopen =>
    split
    · exact .refl s
    · next hsaving =>
      split
      · exact .refl s
      · exact .of_open hopen (by rw [done_state, (evalLevel_keeps _).store]; exact hsaving)

theorem writeTiming_settingsKept (count : Nat) (bs : List Byte) (s : State) :
    SettingsKept s (writeTiming count bs s).state := by
  unfold writeTiming
  simp only
  split
  · exact .refl s
  · next hsaving =>
    split
    · exact .refl s
    · rw [done_state]
      exact .of_write hsaving rfl rfl

theorem settlePollWrite_keeps (s0 : State) (written : SlotId → Bool) (s : State) :
    KeepsSettings s (settlePollWrite s0 written s) := by
  have hreset : KeepsSettings s (resetWritten written s) := by constructor <;> rfl
  have hlevel : ∀ lost : Bool, KeepsSettings s
      (if lost then anemometersLeft s0.anemometers.length (resetWritten written s) else resetWritten written s) := by
    intro lost
    split
    · exact hreset.trans (anemometersLeft_keeps _ _)
    · exact hreset
  exact ((hlevel _).trans (evalCondition_keeps _)).trans (evalWants_only _ _).keepsSettings

theorem writePoll_settingsKept (first count : Nat) (bs : List Byte) (s : State) :
    SettingsKept s (writePoll first count bs s).state := by
  unfold writePoll
  simp only
  split
  · exact .refl s
  · next hsaving =>
    split
    · exact .refl s
    · split
      · exact .refl s
      · rw [done_state]
        refine SettingsKept.trans ?_ (settlePollWrite_keeps s _ _).settingsKept
        exact .of_write hsaving rfl rfl

theorem writeZones_settingsKept (first count : Nat) (bs : List Byte) (s : State) :
    SettingsKept s (writeZones first count bs s).state := by
  unfold writeZones
  simp only
  split
  · exact .refl s
  · next hsaving =>
    split
    · exact .refl s
    · split
      · exact .refl s
      · rw [done_state]
        refine SettingsKept.trans ?_
          (OnlyStations.foldl (fun u p => settleZoneWrite_only s.settings.zones p u) _ _).settingsKept
        exact .of_write hsaving rfl rfl

theorem runTableWrite_settingsKept (params : List Byte) (s : State) : SettingsKept s (runTableWrite params s).state := by
  unfold runTableWrite writeTable
  split
  · split
    · exact .refl s
    · split
      · exact writeShadow_settingsKept _ _ _ s
      · exact writeBudget_settingsKept _ _ s
      · exact writeWind_settingsKept _ _ _ s
      · exact writeTiming_settingsKept _ _ s
      · exact writePoll_settingsKept _ _ _ s
      · exact writeZones_settingsKept _ _ _ s
  · exact .refl s

/-! ### Envelopes, lockdown and the save (R71 to R79, R191) -/

theorem writeActive_store (n : StationId) (e : Envelope) (s : State) : (writeActive n e s).store = s.store := by
  rw [writeActive_eq, (settleStation_only n s none _).store, (settleInstalled_only n _ _).store]
  rfl

theorem applyStation_store (s : State) (n : StationId) : (applyStation s n).store = s.store := by
  unfold applyStation
  split
  · exact writeActive_store n _ s
  · rfl

/-- A fold of changes that each leave the store. -/
theorem foldl_store {f : State → StationId → State} (hf : ∀ s n, (f s n).store = s.store) (l : List StationId) (s : State) :
    (l.foldl f s).store = s.store := by
  induction l generalizing s with
  | nil => rfl
  | cons n l ih => exact (ih _).trans (hf s n)

theorem runEnvelopeApply_settingsKept (params : List Byte) (s : State) :
    SettingsKept s (runEnvelopeApply params s).state := by
  unfold runEnvelopeApply
  split
  · split
    · exact .refl s
    · split
      · exact .refl s
      · next hopen =>
        split
        · exact .refl s
        · next hsaving => exact .of_open hopen (by rw [done_state, foldl_store applyStation_store]; exact hsaving)
  · exact .refl s

theorem runEnvelopeClearAll_settingsKept (s : State) : SettingsKept s (runEnvelopeClearAll s).state := by
  unfold runEnvelopeClearAll
  split
  · exact .refl s
  · next hopen =>
    split
    · exact .refl s
    · next hsaving =>
      split
      · exact .refl s
      · refine .of_open hopen ?_
        rw [done_state, clearEnvelopes, foldl_store fun s n => writeActive_store n _ s]
        exact hsaving

theorem runLockdownSet_settingsKept (s : State) : SettingsKept s (runLockdownSet s).state := by
  unfold runLockdownSet
  split
  · exact .refl s
  · next hsaving => exact ⟨fun _ => storeLaw_of_not_saving hsaving, fun _ => ⟨rfl, rfl, rfl⟩⟩

/-- A save takes its snapshot of the working tables, and is refused under lockdown (R71, R191). -/
theorem runSettingsSave_settingsKept (s : State) : SettingsKept s (runSettingsSave s).state := by
  unfold runSettingsSave
  split
  · exact .refl s
  · next hopen =>
    split
    · exact .refl s
    · exact ⟨fun _ => ⟨fun h => absurd h hopen, fun _ => rfl⟩, fun h => absurd h hopen⟩

/-! ### Requests -/

/-- A request whose execution keeps the settings. -/
theorem manage_settingsKept (tag code : Byte) {run : State → Answer} (hrun : ∀ u, SettingsKept u (run u).state) (s : State) :
    SettingsKept s (manage tag code run s) := by
  unfold manage
  split
  · exact (recordFault_keeps _ _ _ s).examine
  · unfold respond
    generalize hu : { s with responder := some (tag, code) } = u
    have hheld : SettingsKept s u := hu ▸ .of_same rfl rfl rfl
    have hstow := ((settleStow_keeps s (run u).state).trans (offerHeatMarkers_ports s _).only.keepsSettings).settingsKept
    have hreturned : ∀ x : State, SettingsKept x { x with responder := none } := fun x => .of_same rfl rfl rfl
    exact (((hheld.trans (hrun u)).trans hstow).trans (hreturned _)).trans
      ((offerUp_keeps _ _).trans (examine_keeps _)).settingsKept

theorem bare_settingsKept {run : State → Answer} (params : List Byte) {s : State} (h : SettingsKept s (run s).state) :
    SettingsKept s (bare params run s).state := by
  unfold bare
  split
  · exact h
  · exact .refl s

theorem withClaim_settingsKept {run : StationId → Scope → State → Answer} {s : State} (params : List Byte)
    (h : ∀ n scope, SettingsKept s (run n scope s).state) : SettingsKept s (withClaim params run s).state := by
  unfold withClaim
  repeat' split
  · exact .refl s
  · exact h _ _
  · exact .refl s
  · exact .refl s

theorem runRemoteLock_only (n : StationId) (scope : Scope) (s : State) : OnlyStations s (runRemoteLock n scope s).state := by
  unfold runRemoteLock
  simp only
  split
  · exact .refl s
  · rw [changeRoom, done_state]
    exact changeHolders_only n s _ _ s

theorem runRemoteUnlock_only (n : StationId) (scope : Scope) (s : State) :
    OnlyStations s (runRemoteUnlock n scope s).state := by
  unfold runRemoteUnlock
  simp only
  split
  · exact .refl s
  · rw [changeRoom, done_state]
    exact changeHolders_only n s _ _ s

theorem runStationResume_only (params : List Byte) (s : State) : OnlyStations s (runStationResume params s).state := by
  unfold runStationResume
  repeat' split
  · exact .refl s
  · exact .refl s
  · exact (s.updStation_only _ _).trans (settleStation_only _ s none _)
  · exact .refl s

theorem runClipLogClear_only (params : List Byte) (s : State) : OnlyStations s (runClipLogClear params s).state := by
  unfold runClipLogClear
  repeat' split
  · exact s.mapStations_only _
  · exact s.mapStations_only _
  · exact .refl s
  · exact .refl s

theorem runScanStart_keeps (params : List Byte) (s : State) : KeepsSettings s (runScanStart params s).state := by
  unfold runScanStart
  split
  · split
    · exact .refl s
    · split
      · exact .refl s
      · exact (s.updScanner_keeps _).trans (beginPass_keeps _)
  · exact .refl s

theorem runSlotSubstitute_keeps (params : List Byte) (s : State) : KeepsSettings s (runSlotSubstitute params s).state := by
  have hrun : ∀ (i : SlotId) (v : Int) (life : Nat), KeepsSettings s (runSubstitute i v life s).state := fun i v life => by
    unfold runSubstitute
    simp only
    generalize (if life = 0 then s.settings.timing.substituteLife else life) = span
    repeat' split
    · exact .refl s
    · exact .refl s
    · exact .refl s
    · exact substitute_keeps i v span s
  unfold runSlotSubstitute
  repeat' split
  · exact .refl s
  · exact .refl s
  · exact hrun _ _ _

theorem runSlotRestore_keeps (params : List Byte) (s : State) : KeepsSettings s (runSlotRestore params s).state := by
  unfold runSlotRestore
  repeat' split
  · exact .refl s
  · exact .refl s
  · exact .refl s
  · exact retire_keeps _ _ _ s
  · exact retire_keeps _ _ _ s
  · exact .refl s

theorem runFaultClear_only (params : List Byte) (s : State) : OnlyStations s (runFaultClear params s).state := by
  have hfaults : ∀ t : FaultTable, OnlyStations s { s with faults := t } := fun t => by constructor <;> rfl
  unfold runFaultClear clearEntry clearOverflow
  repeat' split
  all_goals first | exact .refl s | exact hfaults _

theorem runAlertAck_only (params : List Byte) (s : State) : OnlyStations s (runAlertAck params s).state := by
  unfold runAlertAck
  repeat' split
  · constructor <;> rfl
  · exact .refl s
  · exact .refl s

theorem clearZone_only (n : StationId) (z : ZoneNum) (s : State) : OnlyStations s (clearZone n z s) := by
  have hwant := (s.updZone_only n z fun zn => { zn with state := .off, faultReason := none }).trans (evalWant_only n z _)
  unfold clearZone
  simp only
  split
  · exact hwant.trans (State.updZone_only _ n z _)
  · exact hwant

theorem runZoneFaultClear_only (params : List Byte) (s : State) : OnlyStations s (runZoneFaultClear params s).state := by
  unfold runZoneFaultClear
  repeat' split
  · exact .refl s
  · exact .refl s
  · exact clearZone_only _ _ s
  · exact .refl s

theorem runMeltModeSet_keeps (params : List Byte) (s : State) : KeepsSettings s (runMeltModeSet params s).state := by
  unfold runMeltModeSet
  repeat' split
  · exact .refl s
  · exact KeepsSettings.trans (by constructor <;> rfl) (evalCondition_keeps _)
  · exact .refl s

theorem runTableRead_state (params : List Byte) (s : State) : (runTableRead params s).state = s := by
  unfold runTableRead readTable
  repeat' split
  all_goals rfl

theorem runStationRead_state (params : List Byte) (s : State) : (runStationRead params s).state = s := by
  unfold runStationRead
  repeat' split
  all_goals rfl

/-! ### Every command -/

/-- Every command but a power-on reset keeps the settings. -/
theorem exec_settingsKept {c : Instr} (hc : ∀ strap storm fails, c ≠ .powerOnReset strap storm fails) {s t : State}
    (h : exec c s = .next t) : SettingsKept s t := by
  cases c with
  | powerOnReset strap storm fails => exact absurd rfl (hc strap storm fails)
  | stormInputChange asserted =>
    obtain rfl := Host.Outcome.next.inj h
    exact KeepsSettings.closeEvent (by constructor <;> rfl) s
  | pointingBatch es => obtain rfl := Host.Outcome.next.inj h; exact (takeBatch_keeps es s).examine
  | cabinetDataFromUpstream f => obtain rfl := Host.Outcome.next.inj h; exact (routeCabinet_only f s).examine
  | telemetry n f => obtain rfl := Host.Outcome.next.inj h; exact (takeTelemetry_keeps n f s).closeEvent s
  | lock n b sc =>
    obtain rfl := Host.Outcome.next.inj h; exact ((goodFrame_only n s).trans (takeLock_only n s b sc _)).closeEvent s
  | unlock n b sc =>
    obtain rfl := Host.Outcome.next.inj h; exact ((goodFrame_only n s).trans (takeUnlock_only n s b sc _)).closeEvent s
  | lockReport n es => obtain rfl := Host.Outcome.next.inj h; exact (handleReport_only n es s).closeEvent s
  | cabinetDataFromStation n f =>
    obtain rfl := Host.Outcome.next.inj h; exact ((goodFrame_only n s).keepsSettings.trans (offerUp_keeps _ _)).examine
  | reading address raw => obtain rfl := Host.Outcome.next.inj h; exact (takeSensorFrame_keeps address _ s).closeEvent s
  | stationFrameEnd n =>
    obtain rfl := Host.Outcome.next.inj h
    exact ((State.updStation_only s n _).trans (depart_ports n _).only).settingsKept
  | upstreamFrameEnd =>
    obtain rfl := Host.Outcome.next.inj h
    exact (KeepsSettings.trans (by constructor <;> rfl) (departUp_keeps _)).settingsKept
  | livenessDeadlineExpiry n =>
    change execLivenessDeadlineExpiry n s = _ at h
    unfold execLivenessDeadlineExpiry at h
    split at h <;> obtain rfl := Host.Outcome.next.inj h
    · exact .refl s
    · exact .of_due ((loseLink_only n _ s).closeEvent s)
  | freshnessExpiry n =>
    obtain rfl := Host.Outcome.next.inj h
    exact .of_due (((s.updStation_only n goStale).trans (offerStop_ports n _).only).trans (setClip_only n _ _)).examine
  | clearingExpiry n => obtain rfl := Host.Outcome.next.inj h; exact .of_due ((endClearing_only n s).closeEvent s)
  | warnExpiry n =>
    obtain rfl := Host.Outcome.next.inj h
    exact .of_due ((offer_ports n _ s).only.trans (enterMoving_only n _)).examine
  | stowRefreshExpiry => obtain rfl := Host.Outcome.next.inj h; exact .of_due (refreshStow_keeps s).examine
  | stowTimeoutExpiry n =>
    obtain rfl := Host.Outcome.next.inj h
    exact .of_due ((s.updStation_only n _).trans (recordFault_ports _ _ _ _).only).examine
  | holdDownExpiry => obtain rfl := Host.Outcome.next.inj h; exact .of_due ((stepDown_keeps s).closeEvent s)
  | blindTimerExpiry => obtain rfl := Host.Outcome.next.inj h; exact .of_due ((goBlind_keeps s).closeEvent s)
  | transactionDeadlineExpiry =>
    change execTransactionDeadlineExpiry s = _ at h
    unfold execTransactionDeadlineExpiry at h
    split at h <;> obtain rfl := Host.Outcome.next.inj h
    · exact .refl s
    · exact .of_due ((expireTransaction_keeps _ s).closeEvent s)
  | passGapExpiry => obtain rfl := Host.Outcome.next.inj h; exact .of_due ((beginPass_keeps s).closeEvent s)
  | substituteLifeExpiry i =>
    change execSubstituteLifeExpiry i s = _ at h
    unfold execSubstituteLifeExpiry at h
    split at h <;> obtain rfl := Host.Outcome.next.inj h
    · exact .refl s
    · exact .of_due ((loseSlot_keeps i 2 s).closeEvent s)
  | precipHoldExpiry => obtain rfl := Host.Outcome.next.inj h; exact .of_due ((endPrecipHold_keeps s).closeEvent s)
  | minOnExpiry n z =>
    obtain rfl := Host.Outcome.next.inj h
    exact .of_due (((s.updZone_only n z _).trans (evalWant_only n z _)).closeEvent s)
  | minOffExpiry n z =>
    obtain rfl := Host.Outcome.next.inj h
    exact .of_due (((s.updZone_only n z _).trans (evalWant_only n z _)).closeEvent s)
  | mismatchDeadlineExpiry n z =>
    obtain rfl := Host.Outcome.next.inj h; exact .of_due ((failContactor_only n z s).closeEvent s)
  | saveCompletion => obtain rfl := Host.Outcome.next.inj h; exact completeSave_settingsKept s
  | statusRead tag params =>
    obtain rfl := Host.Outcome.next.inj h
    exact manage_settingsKept tag _ (fun u => bare_settingsKept params (.refl u)) s
  | stationRead tag params =>
    obtain rfl := Host.Outcome.next.inj h
    exact manage_settingsKept tag _ (fun u => .of_eq (runStationRead_state params u)) s
  | identify tag params =>
    obtain rfl := Host.Outcome.next.inj h
    exact manage_settingsKept tag _ (fun u => bare_settingsKept params (.refl u)) s
  | tableRead tag params =>
    obtain rfl := Host.Outcome.next.inj h
    exact manage_settingsKept tag _ (fun u => .of_eq (runTableRead_state params u)) s
  | tableWrite tag params =>
    obtain rfl := Host.Outcome.next.inj h; exact manage_settingsKept tag _ (runTableWrite_settingsKept params) s
  | envelopeApply tag params =>
    obtain rfl := Host.Outcome.next.inj h; exact manage_settingsKept tag _ (runEnvelopeApply_settingsKept params) s
  | envelopeClearAll tag params =>
    obtain rfl := Host.Outcome.next.inj h
    exact manage_settingsKept tag _ (fun u => bare_settingsKept params (runEnvelopeClearAll_settingsKept u)) s
  | lockdownSet tag params =>
    obtain rfl := Host.Outcome.next.inj h
    exact manage_settingsKept tag _ (fun u => bare_settingsKept params (runLockdownSet_settingsKept u)) s
  | settingsSave tag params =>
    obtain rfl := Host.Outcome.next.inj h
    exact manage_settingsKept tag _ (fun u => bare_settingsKept params (runSettingsSave_settingsKept u)) s
  | stowRequest tag params =>
    obtain rfl := Host.Outcome.next.inj h
    exact manage_settingsKept tag _ (fun u => bare_settingsKept params (.of_same rfl rfl rfl)) s
  | stowRelease tag params =>
    obtain rfl := Host.Outcome.next.inj h
    exact manage_settingsKept tag _ (fun u => bare_settingsKept params (.of_same rfl rfl rfl)) s
  | remoteLock tag params =>
    obtain rfl := Host.Outcome.next.inj h
    exact manage_settingsKept tag _ (fun u =>
      withClaim_settingsKept params fun n sc => (runRemoteLock_only n sc u).settingsKept) s
  | remoteUnlock tag params =>
    obtain rfl := Host.Outcome.next.inj h
    exact manage_settingsKept tag _ (fun u =>
      withClaim_settingsKept params fun n sc => (runRemoteUnlock_only n sc u).settingsKept) s
  | stationResume tag params =>
    obtain rfl := Host.Outcome.next.inj h
    exact manage_settingsKept tag _ (fun u => (runStationResume_only params u).settingsKept) s
  | scanStart tag params =>
    obtain rfl := Host.Outcome.next.inj h
    exact manage_settingsKept tag _ (fun u => (runScanStart_keeps params u).settingsKept) s
  | scanStop tag params =>
    obtain rfl := Host.Outcome.next.inj h
    exact manage_settingsKept tag _ (fun u => bare_settingsKept params (u.updScanner_keeps _).settingsKept) s
  | slotSubstitute tag params =>
    obtain rfl := Host.Outcome.next.inj h
    exact manage_settingsKept tag _ (fun u => (runSlotSubstitute_keeps params u).settingsKept) s
  | slotRestore tag params =>
    obtain rfl := Host.Outcome.next.inj h
    exact manage_settingsKept tag _ (fun u => (runSlotRestore_keeps params u).settingsKept) s
  | faultRead tag params =>
    obtain rfl := Host.Outcome.next.inj h
    exact manage_settingsKept tag _ (fun u => bare_settingsKept params (.of_same rfl rfl rfl)) s
  | faultClear tag params =>
    obtain rfl := Host.Outcome.next.inj h
    exact manage_settingsKept tag _ (fun u => (runFaultClear_only params u).settingsKept) s
  | alertAck tag params =>
    obtain rfl := Host.Outcome.next.inj h
    exact manage_settingsKept tag _ (fun u => (runAlertAck_only params u).settingsKept) s
  | clipLogClear tag params =>
    obtain rfl := Host.Outcome.next.inj h
    exact manage_settingsKept tag _ (fun u => (runClipLogClear_only params u).settingsKept) s
  | zoneFaultClear tag params =>
    obtain rfl := Host.Outcome.next.inj h
    exact manage_settingsKept tag _ (fun u => (runZoneFaultClear_only params u).settingsKept) s
  | meltModeSet tag params =>
    obtain rfl := Host.Outcome.next.inj h
    exact manage_settingsKept tag _ (fun u => (runMeltModeSet_keeps params u).settingsKept) s
  | warmReset tag params strap =>
    obtain rfl := Host.Outcome.next.inj h
    split
    · exact manage_settingsKept tag _ (fun u => .refl u) s
    · exact warm_settingsKept strap s
  | receivedFrameFailingChecks link bytes byteError =>
    obtain rfl := Host.Outcome.next.inj h; exact (recordFault_keeps _ _ _ s).examine
  | goodFrameOfUnhandledKind link f => obtain rfl := Host.Outcome.next.inj h; exact (dropUnhandled_only link f s).examine
  | unknownRequestCode tag code params =>
    obtain rfl := Host.Outcome.next.inj h; exact manage_settingsKept tag code (fun u => .refl u) s
  | millisecondCountAdvance => obtain rfl := Host.Outcome.next.inj h; exact .of_same rfl rfl rfl

/-- Every command keeps the law of the store. -/
theorem exec_storeLaw (c : Instr) {s t : State} (h : exec c s = .next t) (hs : s.storeLaw) : t.storeLaw := by
  by_cases hc : ∃ strap storm fails, c = .powerOnReset strap storm fails
  · obtain ⟨strap, storm, fails, rfl⟩ := hc
    obtain rfl := Host.Outcome.next.inj h
    exact powerOn_storeLaw strap storm fails s
  · exact (exec_settingsKept (fun strap storm fails he => hc ⟨strap, storm, fails, he⟩) h).law hs

/-- Settles O15: a write finds the store idle, and one that lockdown bars finds no lockdown; a save takes the tables as they
stand; and a power-on reset examines the store. -/
theorem settingsLawsKept : Obligations.SettingsLawsKept := by
  refine ⟨fun s t h hs => ?_, fun c s t hlock hc h => (exec_settingsKept hc h).locked hlock⟩
  unfold step at h
  split at h
  · exact Host.Outcome.next.inj h ▸ hs
  · exact exec_storeLaw _ h hs

end Sys2Proof.Machine
end

section
/-! SUPPORT. Entry to WARNING and the return to the stow after a STATION_RESUME (O57): what a freed latch leaves of the station
and offers to it (R83, R139, R140, R141, R147). -/

namespace Sys2Proof.Machine

/-! ### Entry to WARNING (R139, R141) -/

section
variable {n : StationId} {es : List StationEntry} {locks : Bool} {u v : State} {b b' : Station}

/-- A stage with one more offer behind it. -/
theorem Stage.then_offer (h : Stage n es locks u v b) {e : StationEntry} (he : checked n e v = e) :
    Stage n (es ++ [e]) locks u (offer n e v) b where
  only := h.only.trans (offer_ports n e v).only
  body := h.body.trans ((offer_ports n e v).same n)
  offers := h.offers.trans (h.only.nodeAddress ▸ offers_offer v he)
  news := by
    have hnews := h.news.trans (offer_news n e v)
    rwa [Bool.or_false] at hnews

/-- A stage with a change of the record behind it that leaves the port alone. -/
theorem Stage.then_update (h : Stage n es locks u v b) (f : Station → Station) (hbody : SameBody b' (f (v.station n)))
    (hport : Offers u.nodeAddress [] (v.station n) (f (v.station n))) : Stage n es locks u (v.updStation n f) b' where
  only := h.only.trans (v.updStation_only n f)
  body := by rwa [updStation_own]
  offers := by
    rw [updStation_own]
    exact (h.offers.trans hport).congr (List.append_nil es)
  news := by
    have hnews := h.news.trans (News.updStation v n f)
    rwa [Bool.or_false] at hnews

end

/-- A record that has entered WARNING at `now`: with stow warn time 0 it is MOVING at once. -/
def Station.warned (now : Time) (timing : Timing) (st : Station) : Station :=
  if timing.stowWarn = 0 then st.entersMoving now timing.stowTimeout
  else { st with progress := .warning, warnTimer := some ⟨now, timing.stowWarn⟩ }

/-- The entries that an entry to WARNING offers. -/
def warnEntries (timing : Timing) (stop : Setpoint) : List StationEntry :=
  .setpoint stop :: if timing.stowWarn = 0 then [] else [.horn true]

theorem enterWarning_stage (n : StationId) (u : State) :
    Stage n (warnEntries u.settings.timing (u.stopSetpoint n)) false u (enterWarning n u)
      ((u.station n).warned u.now u.settings.timing) := by
  have hstop : (u.updStation n fun st => { st with progress := .warning }).stopSetpoint n = u.stopSetpoint n :=
    stopSetpoint_congr rfl (by rw [updStation_own]) (by rw [updStation_own])
  have hoffer := Stage.offer_after n u (fun st => { st with progress := .warning }) (.setpoint (u.stopSetpoint n))
    ⟨rfl, rfl, rfl⟩ fun s => checked_of_still n s (stopSetpoint_moving u n)
  unfold enterWarning warnEntries Station.warned offerStop
  rw [hstop]
  generalize offer n (.setpoint (u.stopSetpoint n)) (u.updStation n fun st => { st with progress := .warning }) = v at *
  split
  · refine hoffer.then_update _ ?_ (.of_same rfl rfl rfl)
    rw [State.timer, hoffer.only.now, hoffer.only.settings]
    exact { hoffer.body with progress := rfl, warnTimer := rfl, stowStart := rfl, stowTimeout := rfl }
  · exact (hoffer.then_offer rfl).then_update _ ((hoffer.then_offer rfl).body.with_warnTimer _) (.of_same rfl rfl rfl)

theorem Station.warned_zones (now : Time) (timing : Timing) (st : Station) : (st.warned now timing).zones = st.zones := by
  unfold Station.warned
  split <;> rfl

theorem Station.warned_free (now : Time) (timing : Timing) (st : Station) : (st.warned now timing).free = st.free := by
  unfold Station.warned
  split <;> rfl

theorem Station.warned_heatBlock (now : Time) (timing : Timing) (st : Station) :
    heatBlock (st.warned now timing) = heatBlock st := by
  unfold Station.warned
  split <;> rfl

theorem resumeStow_news (n : StationId) (blocked : Bool) (u : State) : News false u (resumeStow n blocked u) := by
  unfold resumeStow
  split
  · exact (enterWarning_stage n u).news
  · exact .refl u

theorem settleStation_latched (n : StationId) (s0 : State) (reply : Option LockReply) (y : State) :
    (settleStation n s0 reply y).attention.latched = y.attention.latched := by
  obtain ⟨-, -, -, hnews⟩ := settleClearing_stage n (s0.turnedAt y n) (eligible (s0.station n)) reply y
  rw [settleStation_eq]
  exact ((hnews.trans (resumeStow_news n _ _)).trans (settleHeatBlock_news n _ _)).latched

/-! ### A latch released (R83) -/

/-- A record with its latch released. -/
def Station.unlatched (st : Station) : Station := { st with faultLatch := .none }

/-- Station `n` with its latch released. -/
def unlatch (n : StationId) (s : State) : State := s.updStation n Station.unlatched

/-- Nothing but the latch stops the station. -/
theorem authority_eq_stopped {s : State} {n : StationId} (hlatch : (s.station n).faultLatch ≠ .none) :
    s.authority n = .stopped ↔ (s.station n).unlatched.free = true := by
  rw [Station.free_eq, Bool.and_eq_true, Bool.and_eq_true, Option.isNone_iff_eq_none]
  refine ⟨fun h => ?_, fun h => authorityOf_stopped h.1.1 h.1.2 hlatch⟩
  unfold State.authority authorityOf at h
  obtain ⟨hinst, h⟩ := ite_resolve h (by simp)
  obtain ⟨hheld, h⟩ := ite_resolve h (by simp)
  obtain ⟨hlocked, h⟩ := ite_resolve h (by simp)
  obtain ⟨hclearing, -⟩ := ite_resolve h (by simp)
  rw [Option.not_isSome_iff_eq_none] at hclearing
  refine ⟨⟨eligible_iff.mpr ?_, hclearing⟩, rfl⟩
  simp only [Bool.not_eq_false, Bool.or_eq_true, Bool.not_eq_eq_eq_not, Bool.not_true, not_or, bne_iff_ne,
    ne_eq, not_not] at hinst hheld hlocked
  exact ⟨hinst, hheld.1, hheld.2, hlocked⟩

/-- The station returns to its stow once its latch is released. -/
def State.returns (s : State) (n : StationId) : Prop :=
  s.authority n = .stopped ∧ s.stowActive = true
    ∧ ((s.station n).progress = .pending ∨ (s.station n).progress = .warning)


/-- What is settled of a station that was latched and is not any more, where no clearing is cancelled: its stow. -/
theorem settleStation_unlatch {n : StationId} {s : State} (hlatch : (s.station n).faultLatch ≠ .none)
    (hclear : (s.station n).clearing = none ∨ driveCount (s.station n) = 0) :
    settleStation n s none (unlatch n s)
      = settleHeatBlock n (heatBlock (s.station n)) (resumeStow n true (unlatch n s)) := by
  have hblocked : (s.station n).free = false := by
    rw [Station.free_eq, beq_false_of_ne hlatch, Bool.and_false]
  have hown : (unlatch n s).station n = (s.station n).unlatched := updStation_own n _ s
  have hturned : s.turnedAt (unlatch n s) n = false := by
    rw [State.turnedAt, s.authority_permitting, Station.mayMove, hblocked]
    rfl
  have hcancels : ((unlatch n s).station n).cancels = false := by
    rw [hown]
    rcases hclear with h | h
    · change ((s.station n).clearing.isSome && _) = false
      rw [h]
      rfl
    · change (_ && driveCount (s.station n) != 0) = false
      rw [h]
      simp
  have hcancel : cancelClearing n (unlatch n s) = unlatch n s := if_neg (by rw [← Station.cancels, hcancels]; simp)
  have hstart : startClearing n (eligible (s.station n)) (unlatch n s) = unlatch n s :=
    if_neg (by rw [hown, show eligible (s.station n).unlatched = eligible (s.station n) from rfl]; simp)
  rw [settleStation_eq, hturned, s.authority_blocked, hblocked]
  change settleHeatBlock n _ (resumeStow n true (startClearing n _ (cancelClearing n (unlatch n s)))) = _
  rw [hcancel, hstart]

theorem State.unlatch_stopSetpoint (n : StationId) (s : State) : (unlatch n s).stopSetpoint n = s.stopSetpoint n :=
  stopSetpoint_congr rfl (by rw [unlatch, updStation_own]; rfl) (by rw [unlatch, updStation_own]; rfl)

/-- The station returns to its stow: it enters WARNING, and its heat block stands. -/
theorem settleStation_unlatch_returns {n : StationId} {s : State} (h : s.returns n) :
    Stage n (warnEntries s.settings.timing (s.stopSetpoint n)) false s (settleStation n s none (unlatch n s))
      ((s.station n).unlatched.warned s.now s.settings.timing) := by
  obtain ⟨hstopped, hstow, hprogress⟩ := h
  have hlatch := faultLatch_of_stopped hstopped
  have hfree := (authority_eq_stopped hlatch).mp hstopped
  have hown : (unlatch n s).station n = (s.station n).unlatched := updStation_own n _ s
  have hwarn := enterWarning_stage n (unlatch n s)
  rw [hown, State.unlatch_stopSetpoint] at hwarn
  have hresume : resumeStow n true (unlatch n s) = enterWarning n (unlatch n s) := by
    refine if_pos ?_
    rw [State.authority_blocked, hown, hfree, show (unlatch n s).stowActive = true from hstow]
    simpa [Station.unlatched] using hprogress
  have hheat : heatBlock (s.station n) = heatBlock ((enterWarning n (unlatch n s)).station n) := by
    rw [hwarn.body.heatBlock, Station.warned_heatBlock]
    rfl
  have hclear : (s.station n).clearing = none := Station.clearing_of_free (st := (s.station n).unlatched) hfree
  rw [settleStation_unlatch hlatch (.inl hclear), hresume, hheat, settleHeatBlock_self]
  refine ⟨(s.updStation_only n _).trans hwarn.only, hwarn.body, ?_, News.trans (News.updStation s n _) hwarn.news⟩
  have hport : Offers s.nodeAddress [] (s.station n) ((unlatch n s).station n) := by
    rw [hown]
    exact .of_same rfl rfl rfl
  exact hport.trans hwarn.offers

/-- Otherwise the station stays as the released latch leaves it. -/
theorem settleStation_unlatch_stays {n : StationId} {s : State} (hlatch : (s.station n).faultLatch ≠ .none)
    (hclear : (s.station n).clearing = none ∨ driveCount (s.station n) = 0) (h : ¬s.returns n) :
    Stage n [] false s (settleStation n s none (unlatch n s)) (s.station n).unlatched := by
  have hown : (unlatch n s).station n = (s.station n).unlatched := updStation_own n _ s
  have hresume : resumeStow n true (unlatch n s) = unlatch n s := by
    refine if_neg fun hc => h ?_
    rw [State.authority_blocked, hown, show (unlatch n s).stowActive = s.stowActive from rfl] at hc
    simp only [Bool.true_and, Bool.not_not, Bool.and_eq_true, Bool.or_eq_true, beq_iff_eq] at hc
    exact ⟨(authority_eq_stopped hlatch).mpr hc.1.2, hc.1.1, hc.2⟩
  rw [settleStation_unlatch hlatch hclear, hresume,
    show heatBlock (s.station n) = heatBlock ((unlatch n s).station n) by rw [hown]; rfl, settleHeatBlock_self]
  exact (Stage.refl n s).then_update _ (.refl _) (.of_same rfl rfl rfl)

/-! ### The end of the event -/

section
variable {n : StationId} {es : List StationEntry} {locks : Bool} {s x t : State} {b : Station}

/-- An event that moves no zone of the station offers it no marker. -/
theorem markOf_of_zones (hbody : SameBody b (x.station n)) (hz : b.zones = (s.station n).zones) : markOf n s x = [] := by
  refine if_pos (onMask_congr fun z => ?_).symm
  rw [State.zone, hbody.zone_state, hz]
  rfl

/-- What is left at the end of an event that a stage has made. -/
theorem Stage.closed (h : Stage n es locks s x b) (hz : b.zones = (s.station n).zones) (k : Ends n s x t) :
    SameBody b (t.station n) ∧ Offers s.nodeAddress es (s.station n) (t.station n)
      ∧ t.authority n = authorityOf s.stowActive b := by
  have hmark := h.only.nodeAddress ▸ k.offers
  rw [markOf_of_zones h.body hz] at hmark
  have hbody := h.body.trans k.body
  refine ⟨hbody, (h.offers.trans hmark).congr (List.append_nil es), ?_⟩
  rw [State.authority, k.stowActive, h.only.stowActive, hbody.authorityOf]

end


/-! ### STATION_RESUME (R83) -/

/-- Where nothing bars it, a STATION_RESUME releases the latch and settles the station. -/
theorem manage_stationResume {tag b : Byte} {n : StationId} {s : State} (hroom : s.upstreamShort = false) (hb : b.toNat = n.val)
    (hbar : s.resumeBar n = none) :
    manage tag 0x0E (runStationResume [b]) s = respond tag 0x0E s (done []
      (settleStation n { s with responder := some (tag, 0x0E) } none (unlatch n { s with responder := some (tag, 0x0E) }))) := by
  rw [manage_room tag 0x0E _ s hroom]
  simp only [runStationResume, stationOf_eq_some hb]
  rw [show State.resumeBar { s with responder := some (tag, 0x0E) } n = none from hbar]
  rfl

/-- A barred STATION_RESUME is refused with the reason of its bar. -/
theorem stationResume_refused {tag b : Byte} {n : StationId} {s : State} {k : Nat} (hroom : s.upstreamShort = false)
    (hb : b.toNat = n.val) (hbar : s.resumeBar n = some k) :
    s.sameButPort (manage tag 0x0E (runStationResume [b]) s)
      ∧ s.answered (manage tag 0x0E (runStationResume [b]) s) (.mgmtResp tag 0x0E .wrongState (encU8 k)) := by
  refine manage_same hroom .wrongState (encU8 k) ?_
  simp only [runStationResume, stationOf_eq_some hb]
  rw [show State.resumeBar { s with responder := some (tag, 0x0E) } n = some k from hbar]

/-- A latched station that stands within its soft limits, without a drive fault, may resume. -/
theorem resumeBar_eq_none {n : StationId} {s : State} (hlatch : (s.station n).faultLatch ≠ .none)
    (htel : ∀ p ∈ (s.station n).lastTelemetry, withinSoft (s.envelope n) p.az p.el = true ∧ p.driveFault = false) :
    s.resumeBar n = none := by
  unfold State.resumeBar
  simp only [if_neg hlatch]
  cases hp : (s.station n).lastTelemetry with
  | none => rfl
  | some p =>
    obtain ⟨hsoft, hdrive⟩ := htel p hp
    simp [hsoft, hdrive]

section
variable {tag code : Byte} {n : StationId} {s : State}

/-- A latch released by a request, and its response. -/
def resumed (tag code : Byte) (n : StationId) (s : State) : State :=
  respond tag code s (done []
    (settleStation n { s with responder := some (tag, code) } none (unlatch n { s with responder := some (tag, code) })))

theorem resumed_only : OnlyStations { s with responder := some (tag, code) }
    (settleStation n { s with responder := some (tag, code) } none (unlatch n { s with responder := some (tag, code) })) :=
  (State.updStation_only _ n Station.unlatched).trans (settleStation_only n _ _ _)

theorem resumed_others (m : StationId) (h : m ≠ n) :
    (settleStation n { s with responder := some (tag, code) } none
      (unlatch n { s with responder := some (tag, code) })).station m = s.station m := by
  rw [settleStation_station_ne n m _ _ _ h, unlatch, State.updStation_station, if_neg h]
  rfl

theorem resumed_ends : Ends n { s with responder := some (tag, code) }
    (settleStation n { s with responder := some (tag, code) } none (unlatch n { s with responder := some (tag, code) }))
    (resumed tag code n s) :=
  have h := respond_ends (tag := tag) (code := code) (a := done [] _) resumed_only.wind resumed_others
  ⟨h.stations, h.faults, h.attention, h.wind⟩

theorem resumed_sameOutside : State.sameOutside n { s with responder := none } (resumed tag code n s) :=
  respond_sameOutside (a := done [] _) resumed_only resumed_others

theorem resumed_answered (hroom : s.upstreamShort = false) :
    s.answered (resumed tag code n s) (.mgmtResp tag code .done []) := by
  have honly := resumed_only (tag := tag) (code := code) (n := n) (s := s)
  exact respond_answered (a := done [] _) hroom honly.upQueue honly.upTx
    (settleStation_latched n { s with responder := some (tag, code) } none _) (stowActive_of_wind honly.wind)

/-- A station that returns to its stow has entered WARNING. -/
theorem resumed_returns (h : s.returns n) :
    SameBody ((s.station n).unlatched.warned s.now s.settings.timing) ((resumed tag code n s).station n)
      ∧ Offers s.nodeAddress (warnEntries s.settings.timing (s.stopSetpoint n)) (s.station n)
        ((resumed tag code n s).station n)
      ∧ (resumed tag code n s).authority n
        = authorityOf true ((s.station n).unlatched.warned s.now s.settings.timing) := by
  have hstage := settleStation_unlatch_returns (s := { s with responder := some (tag, code) }) h
  refine h.2.1 ▸ hstage.closed ?_ resumed_ends
  exact Station.warned_zones _ _ _

/-- Any other keeps its record but for the latch. -/
theorem resumed_stays (hlatch : (s.station n).faultLatch ≠ .none)
    (hclear : (s.station n).clearing = none ∨ driveCount (s.station n) = 0) (h : ¬s.returns n) :
    SameBody (s.station n).unlatched ((resumed tag code n s).station n)
      ∧ (resumed tag code n s).authority n = authorityOf s.stowActive (s.station n).unlatched := by
  have hstage := settleStation_unlatch_stays (s := { s with responder := some (tag, code) }) hlatch hclear h
  obtain ⟨hbody, -, hauthority⟩ := hstage.closed rfl resumed_ends
  exact ⟨hbody, hauthority⟩

theorem resumed_stowTakesUp (hlatch : (s.station n).faultLatch ≠ .none)
    (hclear : (s.station n).clearing = none ∨ driveCount (s.station n) = 0) :
    s.stowTakesUp (resumed tag code n s) n { s.station n with faultLatch := .none } (s.authority n = .stopped) := by
  have hstays := resumed_stays (tag := tag) (code := code) hlatch hclear
  have hauthority : ∀ {p : StowProgress}, s.authority n = .stopped → s.stowActive = true → (s.station n).progress = p →
      p ≠ .pending → p ≠ .warning → (resumed tag code n s).authority n = authorityOf true (s.station n).unlatched := by
    rintro p - hstow rfl hpending hwarning
    rw [← hstow]
    exact (hstays fun h => h.2.2.elim hpending hwarning).2
  refine ⟨fun h hwarn => ?_, fun h hwarn => ?_, fun h => ?_, fun h hmoving => ?_, fun h hstowed => ?_⟩
  · obtain ⟨hbody, hoffers, hauthority⟩ := resumed_returns (tag := tag) (code := code) ⟨h.1.1, h.1.2, h.2⟩
    have hfree := (authority_eq_stopped hlatch).mp h.1.1
    rw [authorityOf_free (by rwa [Station.warned_free]), Station.warned, if_neg hwarn] at hauthority
    rw [Station.warned, if_neg hwarn] at hbody
    rw [warnEntries, if_neg hwarn] at hoffers
    exact ⟨hbody.sameButPort, hauthority,
      fun hlaw hsending => hoffers.waits (pre := []) hsending.1 hsending.2 (hlaw n).1 rfl (by simp),
      fun hlaw hsending => hoffers.waits (pre := [_]) hsending.1 hsending.2 (hlaw n).1 rfl (by simp)⟩
  · obtain ⟨hbody, hoffers, hauthority⟩ := resumed_returns (tag := tag) (code := code) ⟨h.1.1, h.1.2, h.2⟩
    have hfree := (authority_eq_stopped hlatch).mp h.1.1
    rw [authorityOf_free (by rwa [Station.warned_free]), Station.warned, if_pos hwarn] at hauthority
    rw [Station.warned, if_pos hwarn] at hbody
    rw [warnEntries, if_pos hwarn] at hoffers
    exact ⟨hbody.sameButPort, hauthority, offered_of_offers hoffers rfl⟩
  · exact (hstays fun hr => h ⟨⟨hr.1, hr.2.1⟩, hr.2.2⟩).1.sameButPort
  · rw [hauthority h.1 h.2 hmoving (by simp) (by simp), authorityOf_free ((authority_eq_stopped hlatch).mp h.1),
      show (s.station n).unlatched.progress = .moving from hmoving]
  · rw [hauthority h.1 h.2 hstowed (by simp) (by simp), authorityOf_free ((authority_eq_stopped hlatch).mp h.1),
      show (s.station n).unlatched.progress = .stowed from hstowed]

/-- Without stow, demand or staleness a resumed station is IDLE. -/
theorem resumed_idle (hstopped : s.authority n = .stopped) (hstow : s.stowActive = false)
    (hdemand : (s.station n).demand.cls = .none) (hfresh : (s.station n).stale = false) :
    (resumed tag code n s).authority n = .idle := by
  have hlatch := faultLatch_of_stopped hstopped
  have hfree := (authority_eq_stopped hlatch).mp hstopped
  have hstays := resumed_stays (tag := tag) (code := code) hlatch
    (.inl (Station.clearing_of_free (st := (s.station n).unlatched) hfree)) fun hr => absurd (hr.2.1.symm.trans hstow) (by simp)
  rw [hstays.2, hstow]
  rw [Station.free_eq, Bool.and_eq_true, Bool.and_eq_true, eligible_iff] at hfree
  obtain ⟨⟨⟨h1, h2, h3, h4⟩, h5⟩, h6⟩ := hfree
  simp only [authorityOf, h1, h2, h3, h4, Option.isNone_iff_eq_none.mp h5, beq_iff_eq.mp h6]
  simp [Station.unlatched, hdemand, hfresh]

end

end Sys2Proof.Machine
end

section
/-! SUPPORT. ZONE_FAULT_CLEAR (O57): the zone that a fault leaves, and what bars it (R156, R163, R167). -/

namespace Sys2Proof.Machine

/-! ### The surface slot (R156) -/

/-- The slot that the poll list makes a zone's surface slot is the lowest that names the zone. -/
theorem State.isSurfaceSlot.surfaceSlot {s : State} {n : StationId} {z : ZoneNum} {i : SlotId} (h : s.isSurfaceSlot n z i) :
    s.surfaceSlot n z = some i := by
  obtain ⟨hnames, hlowest⟩ := h
  have hsorted : slotIds.Pairwise (· < ·) := by decide
  have hmem : ∃ pre post, slotIds = pre ++ i :: post := List.append_of_mem (mem_slotIds i)
  obtain ⟨pre, post, hsplit⟩ := hmem
  have hpre : ∀ j ∈ pre, j < i := fun j hj =>
    (List.pairwise_append.mp (hsplit ▸ hsorted)).2.2 j hj i (by simp)
  rw [State.surfaceSlot_eq, List.find?_eq_some_iff_append]
  refine ⟨?_, pre, post, hsplit, fun j hj => ?_⟩
  · simpa [and_assoc, isYes] using hnames
  · have := hlowest j (hpre j hj)
    rw [Bool.not_eq_true', ← Bool.not_eq_true]
    simpa [and_assoc, isYes] using this

/-- The surface value of a zone whose surface slot is in service and has a value. -/
theorem State.isSurfaceSlot.surfaceValue {s : State} {n : StationId} {z : ZoneNum} {i : SlotId} (h : s.isSurfaceSlot n z i)
    (hservice : (s.slot i).state = .active ∨ (s.slot i).state = .substituted) :
    s.surfaceValue n z = (s.slot i).latestValue.map (·.1) := by
  have hin : (s.slot i).inService = true := by
    simpa [Slot.inService] using hservice
  rw [State.surfaceValue, h.surfaceSlot]
  exact if_pos hin

/-! ### Intervals (R155) -/

/-- The time off that R155 asks for, in the words of the statements. -/
theorem State.minOffSatisfied_iff {s : State} {n : StationId} {z : ZoneNum} :
    s.minOffSatisfied n z = true ↔ ∀ start ∈ (s.zone n z).offStart, (s.zoneRecord n z).minOff ≤ (s.now - start).toNat := by
  unfold State.minOffSatisfied sinceAtLeast
  cases (s.zone n z).offStart <;> simp

/-! ### The zone (R163, R167) -/

/-- A zone out of its fault: OFF or WAIT, and INHIBITED at once under a heat block. -/
def State.clearedZone (s : State) (n : StationId) (z : ZoneNum) : Zone :=
  if heatBlock (s.station n) then
    { s.zone n z with
      state := .inhibited, faultReason := none, offStart := some s.now, onStart := none, minOnReached := false }
  else
    { s.zone n z with state := if s.wants n z && s.minOffSatisfied n z then .wait else .off, faultReason := none }

theorem clearZone_zone_ne {n m : StationId} {z y : ZoneNum} (s : State) (h : ¬(m = n ∧ y = z)) :
    (clearZone n z s).zone m y = s.zone m y := by
  unfold clearZone evalWant
  simp only
  split
  · rw [State.updZone_zone, if_neg h, State.updZone_zone, if_neg h, State.updZone_zone, if_neg h]
  · rw [State.updZone_zone, if_neg h, State.updZone_zone, if_neg h]

theorem clearZone_zone {n : StationId} {z : ZoneNum} {s : State} (h : (s.zone n z).state = .fault) :
    (clearZone n z s).zone n z = s.clearedZone n z := by
  have honly := s.updZone_only n z fun zn => { zn with state := .off, faultReason := none }
  have hzone : (s.updZone n z fun zn => { zn with state := .off, faultReason := none }).zone n z
      = { s.zone n z with state := .off, faultReason := none } := by rw [State.updZone_zone, if_pos ⟨rfl, rfl⟩]
  have hwant : (evalWant n z (s.updZone n z fun zn => { zn with state := .off, faultReason := none })).zone n z
      = { s.zone n z with state := if s.wants n z && s.minOffSatisfied n z then .wait else .off, faultReason := none } := by
    rw [evalWant, State.updZone_zone, if_pos ⟨rfl, rfl⟩, State.wants_congr honly (by rw [hzone, h]; simp),
      State.minOffSatisfied_congr honly (by rw [hzone]), hzone, Zone.afterWant]
    simp only
    split <;> rfl
  unfold clearZone State.clearedZone
  simp only
  split
  · rw [State.updZone_zone, if_pos ⟨rfl, rfl⟩, hwant, Zone.inhibit_of_not_exempt]
    simp only [ZoneState.exempt]
    split <;> simp
  · exact hwant

theorem clearZone_others {n m : StationId} {z : ZoneNum} (s : State) (h : m ≠ n) :
    (clearZone n z s).station m = s.station m := by
  unfold clearZone evalWant
  simp only
  split
  · rw [State.updZone_station, if_neg h, State.updZone_station, if_neg h, State.updZone_station, if_neg h]
  · rw [State.updZone_station, if_neg h, State.updZone_station, if_neg h]

theorem evalWant_zones (n : StationId) (z : ZoneNum) (s : State) : OnlyZones s (evalWant n z s) := .updZone s n z _

theorem clearZone_zones (n : StationId) (z : ZoneNum) (s : State) : OnlyZones s (clearZone n z s) := by
  have hwant := (OnlyZones.updZone s n z fun zn => { zn with state := .off, faultReason := none }).trans (evalWant_zones n z _)
  unfold clearZone
  simp only
  split
  · exact hwant.trans (.updZone _ n z _)
  · exact hwant

/-! ### ZONE_FAULT_CLEAR (R167) -/

theorem onMask_congr_of_on {s t : State} {n : StationId} (h : ∀ z, (t.zone n z).state = .on ↔ (s.zone n z).state = .on) :
    t.onMask n = s.onMask n := by
  have hon : ∀ z, t.zoneOn (n, z) = s.zoneOn (n, z) := fun z => by
    rw [State.zoneOn, State.zoneOn, Bool.eq_iff_iff, beq_iff_eq, beq_iff_eq]
    exact h z
  unfold State.onMask
  simp only [hon]

theorem clearZone_onMask {n : StationId} {z : ZoneNum} {s : State} (h : (s.zone n z).state = .fault) (m : StationId) :
    (clearZone n z s).onMask m = s.onMask m := by
  refine onMask_congr_of_on fun y => ?_
  by_cases hy : m = n ∧ y = z
  · obtain ⟨rfl, rfl⟩ := hy
    rw [clearZone_zone h, h, State.clearedZone]
    split
    · simp
    · simp only
      split <;> simp
  · rw [clearZone_zone_ne s hy]

theorem clearZone_faults (n : StationId) (z : ZoneNum) (s : State) : (clearZone n z s).faults = s.faults := by
  unfold clearZone
  simp only
  split <;> rfl

theorem clearZone_attention (n : StationId) (z : ZoneNum) (s : State) : (clearZone n z s).attention = s.attention := by
  unfold clearZone
  simp only
  split <;> rfl

theorem zoneOf_eq_some {b : Byte} {n : StationId} {z : ZoneNum} (h : b.toNat = 4 * n.val + z.val) : zoneOf b = some (n, z) := by
  have hn : (⟨b.toNat / 4, by omega⟩ : StationId) = n := Fin.ext (by simp only; omega)
  have hz : (⟨b.toNat % 4, by omega⟩ : ZoneNum) = z := Fin.ext (by simp only; omega)
  rw [zoneOf, dif_pos (by omega), hn, hz]

section
variable {tag b : Byte} {n : StationId} {z : ZoneNum} {s : State}

/-- A barred ZONE_FAULT_CLEAR is refused with the reason of its bar. -/
theorem zoneFaultClear_refused {k : Nat} (hroom : s.upstreamShort = false) (hb : b.toNat = 4 * n.val + z.val)
    (hbar : s.zoneClearBar n z = some k) :
    s.sameButPort (manage tag 0x17 (runZoneFaultClear [b]) s)
      ∧ s.answered (manage tag 0x17 (runZoneFaultClear [b]) s) (.mgmtResp tag 0x17 .wrongState (encU8 k)) := by
  refine manage_same hroom .wrongState (encU8 k) ?_
  simp only [runZoneFaultClear, zoneOf_eq_some hb]
  rw [show State.zoneClearBar { s with responder := some (tag, 0x17) } n z = some k from hbar]

/-- At or above overtemp a faulted zone is barred as OVERTEMP. -/
theorem zoneClearBar_overtemp {i : SlotId} {p : Int × Time} (hfault : (s.zone n z).state = .fault) (hi : s.isSurfaceSlot n z i)
    (hp : p ∈ (s.slot i).latestValue) (hservice : (s.slot i).state = .active ∨ (s.slot i).state = .substituted)
    (hover : (s.zoneRecord n z).overtemp ≤ p.1) : s.zoneClearBar n z = some 1 := by
  have hvalue : s.surfaceValue n z = some p.1 := by
    rw [hi.surfaceValue hservice, Option.mem_def.mp hp]
    rfl
  rw [State.zoneClearBar, if_neg (not_not.mpr hfault), hvalue]
  exact if_pos (decide_eq_true hover)

theorem surfaceValue_any_eq_false (hcool : ∀ v, s.surfaceValue n z = some v → v < (s.zoneRecord n z).overtemp) :
    ((s.surfaceValue n z).any fun v => decide ((s.zoneRecord n z).overtemp ≤ v)) = false := by
  cases hv : s.surfaceValue n z with
  | none => rfl
  | some v => simpa using hcool v hv

/-- Below overtemp a faulted zone whose contactor is reported closed is barred as CONTACTOR. -/
theorem zoneClearBar_contactor {p : Telemetry} (hfault : (s.zone n z).state = .fault)
    (hcool : ∀ v, s.surfaceValue n z = some v → v < (s.zoneRecord n z).overtemp)
    (hp : (s.station n).lastTelemetry = some p) (hclosed : p.contactors.getLsbD z.val = true) :
    s.zoneClearBar n z = some 2 := by
  rw [State.zoneClearBar, if_neg (not_not.mpr hfault), surfaceValue_any_eq_false hcool, hp]
  exact (if_neg Bool.false_ne_true).trans (if_pos hclosed)

/-- A faulted zone below overtemp whose contactor is not reported closed may be cleared. -/
theorem zoneClearBar_eq_none (hfault : (s.zone n z).state = .fault)
    (hcool : ∀ v, s.surfaceValue n z = some v → v < (s.zoneRecord n z).overtemp)
    (hopen : ∀ p, (s.station n).lastTelemetry = some p → p.contactors.getLsbD z.val = false) : s.zoneClearBar n z = none := by
  have hclosed : ((s.station n).lastTelemetry.any fun t => t.contactors.getLsbD z.val) = false := by
    cases hp : (s.station n).lastTelemetry with
    | none => rfl
    | some p => exact hopen p hp
  rw [State.zoneClearBar, if_neg (not_not.mpr hfault), surfaceValue_any_eq_false hcool, hclosed]
  rfl

/-- A zone cleared by a request, and its response. -/
def cleared (tag : Byte) (n : StationId) (z : ZoneNum) (s : State) : State :=
  respond tag 0x17 s (done [] (clearZone n z { s with responder := some (tag, 0x17) }))

theorem manage_zoneFaultClear (hroom : s.upstreamShort = false) (hb : b.toNat = 4 * n.val + z.val)
    (hbar : s.zoneClearBar n z = none) : manage tag 0x17 (runZoneFaultClear [b]) s = cleared tag n z s := by
  rw [manage_room tag 0x17 _ s hroom]
  simp only [runZoneFaultClear, zoneOf_eq_some hb]
  rw [show State.zoneClearBar { s with responder := some (tag, 0x17) } n z = none from hbar]
  rfl

theorem cleared_eq (hfault : (s.zone n z).state = .fault) :
    cleared tag n z s = { clearZone n z { s with responder := some (tag, 0x17) } with
      responder := none, upQueue := (cleared tag n z s).upQueue, upTx := (cleared tag n z s).upTx
      attention := (cleared tag n z s).attention } := by
  have honly := clearZone_only n z { s with responder := some (tag, 0x17) }
  exact respond_quiet_frame tag 0x17 s (done [] _) (stowActive_of_wind honly.wind)
    (clearZone_onMask (s := { s with responder := some (tag, 0x17) }) hfault)

theorem cleared_stations (hfault : (s.zone n z).state = .fault) :
    (cleared tag n z s).stations = (clearZone n z { s with responder := some (tag, 0x17) }).stations := by
  rw [cleared_eq hfault]

theorem cleared_zone (hfault : (s.zone n z).state = .fault) : (cleared tag n z s).zone n z = s.clearedZone n z := by
  rw [State.zone, State.station_congr (cleared_stations hfault)]
  exact clearZone_zone (s := { s with responder := some (tag, 0x17) }) hfault

theorem cleared_zone_ne (hfault : (s.zone n z).state = .fault) {y : ZoneNum} (hy : y ≠ z) :
    (cleared tag n z s).zone n y = s.zone n y := by
  rw [State.zone, State.station_congr (cleared_stations hfault)]
  exact clearZone_zone_ne { s with responder := some (tag, 0x17) } fun h => hy h.2

theorem cleared_record (hfault : (s.zone n z).state = .fault) :
    (cleared tag n z s).station n = { s.station n with zones := ((cleared tag n z s).station n).zones } := by
  rw [State.station_congr (cleared_stations hfault)]
  exact (clearZone_zones n z { s with responder := some (tag, 0x17) }).record n

theorem cleared_faults (hfault : (s.zone n z).state = .fault) : (cleared tag n z s).faults = s.faults := by
  rw [cleared_eq hfault]
  exact clearZone_faults n z _

theorem cleared_sameOutside : State.sameOutside n { s with responder := none } (cleared tag n z s) :=
  respond_sameOutside (a := done [] _) (clearZone_only n z _) fun _ hm => clearZone_others _ hm

theorem cleared_answered (hroom : s.upstreamShort = false) :
    s.answered (cleared tag n z s) (.mgmtResp tag 0x17 .done []) := by
  have honly := clearZone_only n z { s with responder := some (tag, 0x17) }
  exact respond_answered (a := done [] _) hroom honly.upQueue honly.upTx
    (congrArg Attention.latched (clearZone_attention n z _)) (stowActive_of_wind honly.wind)

end

theorem State.clearedZone_faultReason (n : StationId) (z : ZoneNum) (s : State) : (s.clearedZone n z).faultReason = none := by
  unfold State.clearedZone
  split <;> rfl

theorem State.clearedZone_blocked {n : StationId} {z : ZoneNum} {s : State} (h : heatBlock (s.station n) = true) :
    s.clearedZone n z = { s.zone n z with
      state := .inhibited, faultReason := none, offStart := some s.now, onStart := none, minOnReached := false } := if_pos h

theorem State.clearedZone_free {n : StationId} {z : ZoneNum} {s : State} (h : heatBlock (s.station n) = false) :
    s.clearedZone n z = { s.zone n z with
      state := if s.wants n z && s.minOffSatisfied n z then .wait else .off, faultReason := none } := if_neg (by simp [h])

end Sys2Proof.Machine
end

section
/-! SUPPORT. MELT_MODE_SET (O57): the melt condition under a new mode, and the wants that a change of it evaluates (R157 to R159). -/

namespace Sys2Proof.Machine

/-! ### The wants of all zones (R159, R160, R162) -/

/-- Each zone of a list is left by the evaluation of its own want. -/
theorem evalWants_zone_of_nodup {ps : List (StationId × ZoneNum)} (hnodup : ps.Nodup) (s : State) (n : StationId) (z : ZoneNum) :
    (evalWants ps s).zone n z = if (n, z) ∈ ps then s.afterWant n z else s.zone n z := by
  induction ps generalizing s with
  | nil => rfl
  | cons p ps ih =>
    obtain ⟨hp, hps⟩ := List.nodup_cons.mp hnodup
    change (evalWants ps (evalWant p.1 p.2 s)).zone n z = _
    have hown : (evalWant p.1 p.2 s).zone n z = if (n, z) = p then s.afterWant n z else s.zone n z := by
      rw [evalWant, State.updZone_zone]
      by_cases hz : n = p.1 ∧ z = p.2
      · obtain ⟨rfl, rfl⟩ := hz
        rw [if_pos ⟨rfl, rfl⟩, if_pos rfl]
        rfl
      · rw [if_neg hz, if_neg fun h => hz ⟨congrArg Prod.fst h, congrArg Prod.snd h⟩]
    rw [ih hps]
    by_cases hz : (n, z) = p
    · rw [if_neg (hz ▸ hp), hown, if_pos hz, if_pos (hz ▸ List.mem_cons_self)]
    · rw [if_neg hz] at hown
      simp only [List.mem_cons, hz, false_or]
      rw [hown, State.afterWant_congr (evalWant_only p.1 p.2 s) hown]

theorem evalWants_zones (ps : List (StationId × ZoneNum)) (s : State) : OnlyZones s (evalWants ps s) :=
  OnlyZones.foldl (fun s (p : StationId × ZoneNum) => evalWant_zones p.1 p.2 s) ps s

theorem State.minOnReached_iff {s : State} {n : StationId} {z : ZoneNum} : s.minOnReached n z = true ↔
    (s.zone n z).minOnReached = true ∨ ∃ start ∈ (s.zone n z).onStart, (s.zoneRecord n z).minOn ≤ (s.now - start).toNat := by
  unfold State.minOnReached sinceAtLeast
  cases (s.zone n z).onStart <;> simp

/-- The evaluation of a want, in the words of R159, R160 and R162. -/
theorem State.follows_of_afterWant {s t : State} {n : StationId} {z : ZoneNum} (h : (s.afterWant n z).alike (t.zone n z)) :
    s.follows t n z (s.wants n z = true) := by
  unfold State.afterWant Zone.afterWant at h
  simp only [State.follows, State.becomes_iff, ← State.minOffSatisfied_iff, ← State.minOnReached_iff]
  refine ⟨fun hs => ?_, fun hs => ?_, fun hs => ?_, fun hs => ?_, fun hs => ?_⟩
  · simp only [hs] at h
    refine ⟨fun hw => ?_, fun hw => ?_⟩
    · rwa [if_pos (Bool.and_eq_true_iff.mpr hw)] at h
    · rwa [if_neg (mt Bool.and_eq_true_iff.mp hw)] at h
  · simp only [hs] at h
    refine ⟨fun hw => ?_, fun hw => ?_, fun hw => ?_⟩
    · rwa [if_pos hw.1, if_pos hw.2] at h
    · rwa [if_pos hw.1, if_neg hw.2] at h
    · rwa [if_neg hw] at h
  · simp only [hs] at h
    refine ⟨fun hw => ?_, fun hw => ?_⟩
    · rwa [if_pos hw] at h
    · rwa [if_neg hw] at h
  · simp only [hs] at h
    have hleave : (!s.wants n z && s.minOnReached n z) = true ↔ ¬(s.wants n z = true ∨ ¬s.minOnReached n z = true) := by
      simp
    refine ⟨fun hw => ?_, fun hw => ?_⟩
    · rwa [if_neg fun hl => hleave.mp hl hw] at h
    · rwa [if_pos (hleave.mpr hw)] at h
  · rcases hs with hs | hs | hs <;> simpa only [hs] using h

/-! ### The melt condition (R158) -/

/-- The state with its melt condition as the mode and the sensors give it. -/
def State.conditioned (s : State) : State := { s with melt := { s.melt with condition := s.conditionNow } }

theorem evalCondition_of_eq {s : State} (h : s.conditionNow = s.melt.condition) : evalCondition s = s := if_pos h

theorem evalCondition_of_ne {s : State} (h : s.conditionNow ≠ s.melt.condition) :
    evalCondition s = evalWants allZones (raise .meltChange s.conditioned) := if_neg h

theorem State.conditioned_of_eq {s : State} (h : s.conditionNow = s.melt.condition) : s.conditioned = s := by
  unfold State.conditioned
  rw [h]

theorem evalCondition_zones (s : State) : OnlyZones s.conditioned (evalCondition s) := by
  by_cases h : s.conditionNow = s.melt.condition
  · rw [evalCondition_of_eq h, State.conditioned_of_eq h]
    exact .refl s
  · rw [evalCondition_of_ne h]
    exact OnlyZones.trans ⟨(raise_ports .meltChange _).only, fun _ => rfl⟩ (evalWants_zones _ _)

theorem evalCondition_tells (s : State) : Tells false s (evalCondition s) := by
  by_cases h : s.conditionNow = s.melt.condition
  · rw [evalCondition_of_eq h]
    exact .refl s
  · rw [evalCondition_of_ne h]
    have hsame : Tells false s s.conditioned := .of_same rfl
    exact (hsame.trans (.raise .meltChange s.conditioned)).trans (evalWants_news _ _).toTells

/-- A change of the condition is raised. -/
theorem evalCondition_raises {s : State} (h : s.conditionNow ≠ s.melt.condition) :
    (evalCondition s).attention.raised.has .meltChange = true := by
  rw [evalCondition_of_ne h]
  refine (evalWants_news _ _).kept _ ?_
  rw [raise_raised, CauseSet.has_insert, beq_self_eq_true, Bool.or_true]

/-- A change of the condition evaluates the want of every zone. -/
theorem evalCondition_zone {s : State} (h : s.conditionNow ≠ s.melt.condition) (n : StationId) (z : ZoneNum) :
    (evalCondition s).zone n z = s.conditioned.afterWant n z := by
  rw [evalCondition_of_ne h, evalWants_zone_of_nodup nodup_allZones, if_pos (mem_allZones _)]
  rfl

/-- The condition as it is computed, in the words of R158. -/
theorem State.conditionHolds_of {t : State} (h : t.melt.condition = t.conditionNow) : t.conditionHolds := by
  have hserves : ∀ j, t.serves .airTemp j = true ↔
      (t.slotRecord j).kind = 1 ∧ ((t.slot j).state = .active ∨ (t.slot j).state = .substituted) := fun j => by
    unfold State.serves Slot.inService
    rw [(slotKindOf_beq _).2.1]
    simp
  have hcold : (slotIds.any fun j => t.serves .airTemp j && (t.slot j).side == .cold) = true ↔
      ∃ j, (t.slotRecord j).kind = 1 ∧ ((t.slot j).state = .active ∨ (t.slot j).state = .substituted)
        ∧ (t.slot j).side = .cold := by
    rw [List.any_eq_true]
    simp only [Bool.and_eq_true, hserves, beq_iff_eq, and_assoc, mem_slotIds, true_and]
  unfold State.conditionHolds
  rw [h, ← hcold, State.conditionNow]
  cases t.melt.mode <;> simp

/-! ### The end of the event -/

theorem State.sameButStations.of_only_offerUp {s x : State} (e : UpEntry) (h : OnlyStations s x) :
    s.sameButStations (examine (offerUp e x)) :=
  have hown : OnlyStations { s with stations := x.stations } x := .trans (by constructor <;> rfl) h
  (State.sameOutside.of_only_offerUp (n := 0) e hown fun _ _ => rfl).1

theorem offerHeatMarkers_news (s0 s : State) : News false s (offerHeatMarkers s0 s) := by
  have hfold : ∀ (l : List StationId) (u : State), News false u (l.foldl (fun s n => markAt n s0 s) u) := by
    intro l
    induction l with
    | nil => exact .refl
    | cons n l ih => exact fun u => (markAt_news n s0 u).trans (ih _)
  exact hfold stationIds s

/-- The end of a request whose execution leaves `x` without a turn of the stow. -/
theorem respond_of_wind {tag code : Byte} {s x : State} {contents : List Byte} (hwind : x.wind = s.wind) :
    respond tag code s (done contents x)
      = examine (offerUp (.mgmtResp tag code .done contents) { offerHeatMarkers s x with responder := none }) := by
  rw [respond, done_state, settleStow_same s x (stowActive_of_wind hwind)]
  rfl


/-! ### MELT_MODE_SET (R157) -/

theorem meltModeOf_eq_some {b : Byte} {mode : MeltMode} (h : b.toNat = meltModeCode mode) : meltModeOf b = some mode := by
  rw [meltModeOf, h]
  cases mode <;> rfl

theorem encU8_toNat (b : Byte) : encU8 b.toNat = [b] := by
  rw [encU8, BitVec.ofNat_toNat, BitVec.setWidth_eq]

/-- The request in hand, with its mode in place. -/
def underMode (tag : Byte) (mode : MeltMode) (s : State) : State :=
  { s with responder := some (tag, 0x18), melt := { s.melt with mode := mode } }

/-- The melt mode set by a request, and its response. -/
def meltSet (tag b : Byte) (mode : MeltMode) (s : State) : State :=
  respond tag 0x18 s
    (done [b, if (underMode tag mode s).conditionNow then 1 else 0] (evalCondition (underMode tag mode s)))

section
variable {tag b : Byte} {mode : MeltMode} {s : State}

theorem manage_meltModeSet (hroom : s.upstreamShort = false) (hb : b.toNat = meltModeCode mode) :
    manage tag 0x18 (runMeltModeSet [b]) s = meltSet tag b mode s := by
  have hmelt : (evalCondition (underMode tag mode s)).melt = (underMode tag mode s).conditioned.melt :=
    (evalCondition_zones _).only.melt
  rw [manage_room tag 0x18 _ s hroom]
  simp only [runMeltModeSet, meltModeOf_eq_some hb]
  change respond tag 0x18 s (done (encU8 (meltModeCode (evalCondition (underMode tag mode s)).melt.mode)
    ++ encBool (evalCondition (underMode tag mode s)).melt.condition) _) = _
  rw [hmelt]
  change respond tag 0x18 s (done (encU8 (meltModeCode mode) ++ encBool (underMode tag mode s).conditionNow) _) = _
  rw [← hb, encU8_toNat]
  unfold meltSet encBool
  cases (underMode tag mode s).conditionNow <;> rfl

theorem meltSet_wind : (evalCondition (underMode tag mode s)).wind = s.wind := (evalCondition_zones _).only.wind

theorem meltSet_eq : meltSet tag b mode s = examine (offerUp
    (.mgmtResp tag 0x18 .done [b, if (underMode tag mode s).conditionNow then 1 else 0])
    { offerHeatMarkers s (evalCondition (underMode tag mode s)) with responder := none }) := respond_of_wind meltSet_wind

theorem meltSet_sameButStations :
    ({ (underMode tag mode s).conditioned with responder := none } : State).sameButStations (meltSet tag b mode s) := by
  rw [meltSet_eq]
  refine .of_only_offerUp _ ?_
  have honly := (evalCondition_zones (underMode tag mode s)).only.trans (offerHeatMarkers_ports s _).only
  obtain ⟨h1, h2, h3, h4, -, h6, h7, h8, h9, h10, h11, h12, h13, h14, h15, h16, h17, h18, h19⟩ := honly
  exact ⟨h1, h2, h3, h4, rfl, h6, h7, h8, h9, h10, h11, h12, h13, h14, h15, h16, h17, h18, h19⟩

theorem meltSet_melt : (meltSet tag b mode s).melt = (underMode tag mode s).conditioned.melt := by
  rw [meltSet_sameButStations]

theorem meltSet_condition : (meltSet tag b mode s).melt.condition = (underMode tag mode s).conditionNow := by
  rw [meltSet_melt]
  rfl

theorem meltSet_conditionHolds : (meltSet tag b mode s).conditionHolds := by
  refine State.conditionHolds_of ?_
  rw [meltSet_sameButStations]
  rfl

theorem meltSet_station (n : StationId) :
    (meltSet tag b mode s).station n = (offerHeatMarkers s (evalCondition (underMode tag mode s))).station n :=
  respond_station meltSet_wind n

theorem meltSet_body (n : StationId) :
    SameBody ((evalCondition (underMode tag mode s)).station n) ((meltSet tag b mode s).station n) := by
  rw [meltSet_station]
  exact (offerHeatMarkers_ports s _).same n

theorem meltSet_record (n : StationId) :
    (evalCondition (underMode tag mode s)).station n
      = { s.station n with zones := ((evalCondition (underMode tag mode s)).station n).zones } :=
  (evalCondition_zones (underMode tag mode s)).record n

theorem meltSet_sameButPort (n : StationId) :
    { s.station n with zones := ((meltSet tag b mode s).station n).zones }.sameButPort ((meltSet tag b mode s).station n) := by
  refine (SameBody.with_own_zones ?_ (meltSet_body n)).sameButPort
  rw [← meltSet_record]
  exact .refl _

theorem meltSet_answered (hroom : s.upstreamShort = false) :
    s.answered (meltSet tag b mode s)
      (.mgmtResp tag 0x18 .done [b, if (underMode tag mode s).conditionNow then 1 else 0]) := by
  have honly := (evalCondition_zones (underMode tag mode s)).only
  exact respond_answered (a := done _ _) hroom honly.upQueue honly.upTx (evalCondition_tells _).latched
    (stowActive_of_wind honly.wind)

/-- A change of the condition is an attention cause. -/
theorem meltSet_raises (h : (underMode tag mode s).conditionNow ≠ s.melt.condition) :
    s.raises (meltSet tag b mode s) .meltChange := by
  have hnews := (offerHeatMarkers_news s (evalCondition (underMode tag mode s))).toTells
  refine raises_of_pending (x := offerHeatMarkers s (evalCondition (underMode tag mode s)))
    (hnews.latched.trans (evalCondition_tells (underMode tag mode s)).latched)
    (hnews.kept _ (evalCondition_raises h)) ?_
  rw [meltSet_eq]
  exact examine_attention_congr (offerUp_attention _ _)

theorem meltSet_marked (n : StationId) : s.marked (meltSet tag b mode s) n := by
  intro hturned
  have hmarks := offerHeatMarkers_offers s (evalCondition (underMode tag mode s)) n
  have hport : Offers s.nodeAddress [] (s.station n) ((evalCondition (underMode tag mode s)).station n) := by
    rw [meltSet_record]
    exact .of_same rfl rfl rfl
  have hmask : markOf n s (evalCondition (underMode tag mode s)) = markOf n s (meltSet tag b mode s) := by
    unfold markOf
    rw [onMask_congr fun z => (meltSet_body (b := b) n).zone_state z]
  rw [(evalCondition_zones _).only.nodeAddress, hmask, ← meltSet_station] at hmarks
  refine offered_heat_of_marks (es := []) (by simp) ?_ hturned
  rw [List.append_nil]
  exact hport.trans hmarks

theorem meltSet_follows (h : (underMode tag mode s).conditionNow ≠ s.melt.condition) (n : StationId) (z : ZoneNum) :
    s.follows (meltSet tag b mode s) n z ({ s with melt := (meltSet tag b mode s).melt }.wants n z = true) := by
  have hzone := (meltSet_body (tag := tag) (b := b) (mode := mode) (s := s) n).zone z
  rw [show ((evalCondition (underMode tag mode s)).station n).zones.get z = (evalCondition (underMode tag mode s)).zone n z
    from rfl, evalCondition_zone h] at hzone
  rw [meltSet_melt]
  exact State.follows_of_afterWant hzone

/-- Without a change of the condition no station changes. -/
theorem meltSet_stations (h : (underMode tag mode s).conditionNow = s.melt.condition) :
    (meltSet tag b mode s).stations = s.stations := by
  unfold meltSet
  rw [evalCondition_of_eq h, respond_quiet_frame tag 0x18 s (done _ (underMode tag mode s)) rfl fun _ => rfl]
  rfl

theorem meltSet_meltFollows : s.meltFollows (meltSet tag b mode s) := by
  refine ⟨meltSet_conditionHolds, fun hne => ?_, fun heq => meltSet_stations (meltSet_condition.symm.trans heq)⟩
  rw [meltSet_condition] at hne
  exact ⟨meltSet_raises hne, fun n => ⟨meltSet_marked n, meltSet_follows hne n⟩⟩

end

/-! ### The obligation -/

/-- Settles O57: a released latch is a change of one record and a settling that can only return it to its stow; a cleared zone
is a change of one zone that turns nothing on or off; and a melt mode is a condition evaluated, with every want where it
changes. -/
theorem resumeAndMeltRequests : Obligations.ResumeAndMeltRequests := by
  refine fun tag b n z s hroom => ⟨fun hb => ?_, fun hb => ?_, fun mode hb => ?_⟩
  case refine_1 =>
    refine ⟨_, rfl, fun hnone => ?_, fun hlatch p hp => ⟨fun hsoft => ?_, fun hsoft hdrive => ?_⟩, fun hlatch htel => ?_⟩
    · exact stationResume_refused hroom hb (if_pos hnone)
    · refine stationResume_refused (k := 1) hroom hb ?_
      simp [State.resumeBar, hlatch, hp, hsoft]
    · refine stationResume_refused (k := 2) hroom hb ?_
      simp [State.resumeBar, hlatch, hp, hsoft, hdrive]
    · rw [manage_stationResume hroom hb (resumeBar_eq_none hlatch htel)]
      exact ⟨resumed_sameOutside, resumed_stowTakesUp hlatch, resumed_answered hroom, resumed_idle⟩
  case refine_2 =>
    refine ⟨_, rfl, fun hsound => ?_, fun hfault i hi p hp hservice hover => ?_, fun hfault hcool p hp hclosed => ?_,
      fun hfault hcool hopen => ?_⟩
    · exact zoneFaultClear_refused hroom hb (if_pos hsound)
    · exact zoneFaultClear_refused hroom hb (zoneClearBar_overtemp hfault hi hp hservice hover)
    · exact zoneFaultClear_refused hroom hb (zoneClearBar_contactor hfault hcool hp hclosed)
    · rw [manage_zoneFaultClear hroom hb (zoneClearBar_eq_none hfault hcool hopen)]
      have hzone := cleared_zone (tag := tag) hfault
      refine ⟨cleared_answered hroom, ?_, cleared_sameOutside, cleared_record hfault, cleared_faults hfault,
        fun y hy => cleared_zone_ne hfault hy, fun hblock => ?_, fun hblock => ?_, fun hblock => ?_, fun hblock => ?_⟩
      · rw [hzone, State.clearedZone_faultReason]
      · rw [hzone, State.clearedZone_blocked hblock]
      · rw [hzone, State.clearedZone_free hblock]
      · rw [hzone, State.clearedZone_free hblock]
        exact (ite_eq_or_eq _ _ _).symm
      · rw [hzone, State.clearedZone_free hblock, ← State.minOffSatisfied_iff, ← Bool.and_eq_true]
        cases s.wants n z && s.minOffSatisfied n z <;> simp
  case refine_3 =>
    refine ⟨_, congrArg Host.Outcome.next (manage_meltModeSet hroom hb), ?_⟩
    beta_reduce
    rw [meltSet_condition]
    refine ⟨meltSet_sameButStations, meltSet_sameButPort, ?_, meltSet_answered hroom, meltSet_raises, meltSet_meltFollows⟩
    cases mode <;> rfl

end Sys2Proof.Machine
end

section
/-! SUPPORT. The laws of people record by record (R8, R85, R97, R98, R101, R163), and three relations between a record and what
follows it: one that lets every law stand, one that an event's own change of the locks keeps to, and what a whole event keeps. -/

namespace Sys2Proof.Machine

/-! ### The laws of one record -/

/-- The law of one station's lock report and clearing (R8, R97, R98). -/
def Station.lockLaw (st : Station) : Prop :=
  (st.link.isUp = false → st.lockReportSeen = false) ∧ st.clearingLaw

/-- What of that law an event keeps before its settling: all but that no holder claims DRIVE. -/
def Station.reportLaw (st : Station) : Prop :=
  (st.link.isUp = false → st.lockReportSeen = false)
    ∧ (st.clearing.isSome = true → st.link.isUp = true ∧ st.lockReportSeen = true)

/-- The law of one station's heat block (R101, R163). -/
def Station.heatLaw (st : Station) : Prop :=
  heatBlock st = true → ∀ z, (st.zones.get z).state.coldUnderBlock = true

theorem State.clearingLaw_iff {s : State} : s.clearingLaw ↔ ∀ n, (s.station n).lockLaw := Iff.rfl

theorem State.heatSafe_iff {s : State} : s.heatSafe ↔ ∀ n, (s.station n).heatLaw := forall_congr' fun _ => forall_comm

theorem Station.lockLaw.reportLaw {st : Station} (h : st.lockLaw) : st.reportLaw :=
  ⟨h.1, fun hc => ⟨(h.2 hc).1, (h.2 hc).2.1⟩⟩

/-! ### Relations between two records -/

/-- Each zone in a state that a heat block allows is left in one. -/
def Station.zonesStayCold (a b : Station) : Prop :=
  ∀ z, (a.zones.get z).state.coldUnderBlock = true → (b.zones.get z).state.coldUnderBlock = true

/-- The locks are the same, and no zone has left the states that a heat block allows. -/
structure LocksStand (a b : Station) : Prop where
  isUp : b.link.isUp = a.link.isUp
  seen : b.lockReportSeen = a.lockReportSeen
  holders : b.holders = a.holders
  clearing : b.clearing = a.clearing
  zones : a.zonesStayCold b

/-- What an event's own change of the locks of a record keeps, before its settling. -/
structure LocksChange (a b : Station) : Prop where
  holders : holderListLaw a.holders → holderListLaw b.holders
  report : a.reportLaw → b.reportLaw
  zones : a.zonesStayCold b

/-- Each law of people that holds of the one record holds of the other. -/
structure LockLaws (a b : Station) : Prop where
  holders : holderListLaw a.holders → holderListLaw b.holders
  clearing : a.lockLaw → b.lockLaw
  heat : a.heatLaw → b.heatLaw

section
variable {a b c : Station}

theorem LocksStand.refl (a : Station) : LocksStand a a := ⟨rfl, rfl, rfl, rfl, fun _ => id⟩

theorem LocksStand.trans (h : LocksStand a b) (k : LocksStand b c) : LocksStand a c :=
  ⟨k.isUp.trans h.isUp, k.seen.trans h.seen, k.holders.trans h.holders, k.clearing.trans h.clearing,
    fun z => k.zones z ∘ h.zones z⟩

theorem LocksStand.driveCount (h : LocksStand a b) : driveCount b = driveCount a := by
  rw [Machine.driveCount, h.holders, Machine.driveCount]

theorem LocksStand.heatBlock (h : LocksStand a b) : heatBlock b = heatBlock a := by
  rw [Machine.heatBlock, Machine.heatBlock, heatCount, heatCount, h.isUp, h.seen, h.holders]

theorem LocksStand.lockLaw (h : LocksStand a b) (hl : a.lockLaw) : b.lockLaw := by
  unfold Station.lockLaw Station.clearingLaw
  rw [h.isUp, h.seen, h.clearing, h.driveCount]
  exact hl

theorem LocksStand.change (h : LocksStand a b) : LocksChange a b where
  holders hl := h.holders ▸ hl
  report hl := by
    unfold Station.reportLaw
    rw [h.isUp, h.seen, h.clearing]
    exact hl
  zones := h.zones

theorem LocksStand.laws (h : LocksStand a b) : LockLaws a b where
  holders := h.change.holders
  clearing := h.lockLaw
  heat hl hb z := h.zones z (hl (h.heatBlock ▸ hb) z)

theorem SameBody.locksStand (h : SameBody a b) : LocksStand a b :=
  ⟨by rw [h.link], h.lockReportSeen, h.holders, h.clearing, fun z hz => by rw [h.zone_state z]; exact hz⟩

theorem LocksChange.trans (h : LocksChange a b) (k : LocksChange b c) : LocksChange a c :=
  ⟨k.holders ∘ h.holders, k.report ∘ h.report, fun z => k.zones z ∘ h.zones z⟩

theorem LockLaws.trans (h : LockLaws a b) (k : LockLaws b c) : LockLaws a c :=
  ⟨k.holders ∘ h.holders, k.clearing ∘ h.clearing, k.heat ∘ h.heat⟩

end

/-! ### The same for every station -/

/-- The laws of people stand at every station: no lock has changed, and no zone has left the states a heat block allows. -/
def PeopleStand (s t : State) : Prop := ∀ n, LocksStand (s.station n) (t.station n)

/-- At every station each law of people that holds before holds after. -/
def PeopleKept (s t : State) : Prop := ∀ n, LockLaws (s.station n) (t.station n)

theorem PeopleKept.holderLaw {s t : State} (h : PeopleKept s t) (hs : s.holderLaw) : t.holderLaw := fun n => (h n).holders (hs n)

theorem PeopleKept.clearingLaw {s t : State} (h : PeopleKept s t) (hs : s.clearingLaw) : t.clearingLaw :=
  State.clearingLaw_iff.mpr fun n => (h n).clearing (State.clearingLaw_iff.mp hs n)

theorem PeopleKept.heatSafe {s t : State} (h : PeopleKept s t) (hs : s.heatSafe) : t.heatSafe :=
  State.heatSafe_iff.mpr fun n => (h n).heat (State.heatSafe_iff.mp hs n)

section
variable {s t u : State}

theorem PeopleStand.refl (s : State) : PeopleStand s s := fun _ => .refl _

theorem PeopleStand.trans (h : PeopleStand s t) (k : PeopleStand t u) : PeopleStand s u := fun n => (h n).trans (k n)

theorem PeopleStand.of_stations (h : t.stations = s.stations) : PeopleStand s t := fun n => by
  rw [State.station_congr h n]
  exact .refl _

/-- A change behind that leaves the stations. -/
theorem PeopleStand.congr (h : PeopleStand s t) (hst : u.stations = t.stations) : PeopleStand s u := h.trans (.of_stations hst)

theorem PeopleStand.kept (h : PeopleStand s t) : PeopleKept s t := fun n => (h n).laws

theorem OnlyPorts.peopleStand (h : OnlyPorts s t) : PeopleStand s t := fun n => (h.same n).locksStand

theorem PeopleStand.foldl {α : Type} {f : State → α → State} (h : ∀ s a, PeopleStand s (f s a)) (l : List α) (s : State) :
    PeopleStand s (l.foldl f s) := by
  induction l generalizing s with
  | nil => exact .refl s
  | cons a l ih => exact (h s a).trans (ih _)

theorem PeopleKept.refl (s : State) : PeopleKept s s := (PeopleStand.refl s).kept

theorem PeopleKept.trans (h : PeopleKept s t) (k : PeopleKept t u) : PeopleKept s u := fun n => (h n).trans (k n)

theorem PeopleKept.of_stations (h : t.stations = s.stations) : PeopleKept s t := (PeopleStand.of_stations h).kept

/-- A change in front that leaves the stations. -/
theorem PeopleKept.after (h : PeopleKept t u) (hst : t.stations = s.stations) : PeopleKept s u := (PeopleKept.of_stations hst).trans h

theorem PeopleKept.of_eq (h : t = s) : PeopleKept s t := h ▸ .refl s

theorem PeopleKept.foldl {α : Type} {f : State → α → State} (h : ∀ s a, PeopleKept s (f s a)) (l : List α) (s : State) :
    PeopleKept s (l.foldl f s) := by
  induction l generalizing s with
  | nil => exact .refl s
  | cons a l ih => exact (h s a).trans (ih _)

theorem PeopleKept.of_due {due : Bool} (h : PeopleKept s t) : PeopleKept s (if due then t else s) := by
  split
  · exact h
  · exact .refl s

/-- An update of one record that lets its own laws stand. -/
theorem PeopleStand.updStation (s : State) (n : StationId) (f : Station → Station)
    (h : LocksStand (s.station n) (f (s.station n)) := by exact ⟨rfl, rfl, rfl, rfl, fun _ => id⟩) :
    PeopleStand s (s.updStation n f) := fun m => by
  rw [State.updStation_station]
  split
  · next hm => subst hm; exact h
  · exact .refl _

theorem PeopleStand.mapStations (s : State) (f : StationId → Station → Station)
    (h : ∀ n, LocksStand (s.station n) (f n (s.station n))) : PeopleStand s (s.mapStations f) := fun n => by
  rw [State.mapStations_station]
  exact h n

/-- A change of one zone keeps the laws where, under a heat block, it takes no zone out of the states that the block allows. -/
theorem PeopleKept.updZone (s : State) (n : StationId) (z : ZoneNum) (f : Zone → Zone)
    (h : heatBlock (s.station n) = true → (s.zone n z).state.coldUnderBlock = true →
      (f (s.zone n z)).state.coldUnderBlock = true) : PeopleKept s (s.updZone n z f) := fun m => by
  rw [State.updZone_station]
  split
  · next hm =>
    subst hm
    refine ⟨id, id, fun hl hb y => ?_⟩
    rw [Tab.get_set]
    split
    · exact h hb (hl hb z)
    · exact hl hb y
  · exact (LocksStand.refl _).laws

/-- A change that takes no zone out of those states lets the laws stand. -/
theorem PeopleStand.updZone (s : State) (n : StationId) (z : ZoneNum) (f : Zone → Zone)
    (h : (s.zone n z).state.coldUnderBlock = true → (f (s.zone n z)).state.coldUnderBlock = true) :
    PeopleStand s (s.updZone n z f) := fun m => by
  rw [State.updZone_station]
  split
  · next hm =>
    subst hm
    refine ⟨rfl, rfl, rfl, rfl, fun y hy => ?_⟩
    rw [Tab.get_set]
    split
    · next hyz => exact h (hyz ▸ hy)
    · exact hy
  · exact .refl _

end

end Sys2Proof.Machine
end

section
/-! SUPPORT. The operations of the Sensor Scanner and the wind level reach the station records by two ways alone: a zone's want is
evaluated, and a zone is checked for overtemperature (R156, R159, R164). So each relation between the stations before and after
that these two keep is kept by all of them. -/

namespace Sys2Proof.Machine

/-- A relation between the stations of two states that the evaluation of a want and the check for overtemperature keep. -/
structure ZoneRule (R : State → State → Prop) : Prop where
  trans : ∀ {s t u : State}, R s t → R t u → R s u
  same : ∀ {s t : State}, t.stations = s.stations → R s t
  want : ∀ (n : StationId) (z : ZoneNum) (s : State), R s (evalWant n z s)
  overtemp : ∀ (v : Int) (n : StationId) (z : ZoneNum) (s : State), R s (overtempCheck v n z s)

section
variable {R : State → State → Prop}

theorem ZoneRule.refl (h : ZoneRule R) (s : State) : R s s := h.same rfl

/-- A change that leaves the stations, then one within the rule. -/
theorem ZoneRule.after (h : ZoneRule R) {s t u : State} (k : R t u) (hst : t.stations = s.stations) : R s u := h.trans (h.same hst) k

theorem ZoneRule.foldl (h : ZoneRule R) {α : Type} {f : State → α → State} (hf : ∀ s a, R s (f s a)) (l : List α) (s : State) :
    R s (l.foldl f s) := by
  induction l generalizing s with
  | nil => exact h.refl s
  | cons a l ih => exact h.trans (hf s a) (ih _)

theorem ZoneRule.evalWants (h : ZoneRule R) (zs : List (StationId × ZoneNum)) (s : State) : R s (evalWants zs s) :=
  h.foldl (fun s (p : StationId × ZoneNum) => h.want p.1 p.2 s) zs s

theorem ZoneRule.applySurface (h : ZoneRule R) (i : SlotId) (v : Int) (s : State) : R s (applySurface i v s) :=
  h.foldl (fun s (p : StationId × ZoneNum) => h.trans (h.overtemp v p.1 p.2 s) (h.want p.1 p.2 _)) _ s

theorem ZoneRule.evalLevel (h : ZoneRule R) (s : State) : R s (evalLevel s) := h.same (by rw [evalLevel_eq])

theorem ZoneRule.evalCondition (h : ZoneRule R) (s : State) : R s (evalCondition s) := by
  unfold Machine.evalCondition
  split
  · exact h.refl s
  · exact h.after (h.evalWants allZones _) rfl

theorem ZoneRule.anemometerEntered (h : ZoneRule R) (before : Nat) (s : State) : R s (anemometerEntered before s) := by
  unfold Machine.anemometerEntered
  split <;> exact h.same rfl

theorem ZoneRule.anemometersLeft (h : ZoneRule R) (before : Nat) (s : State) : R s (anemometersLeft before s) := by
  unfold Machine.anemometersLeft
  split
  · split <;> exact h.same rfl
  · exact h.evalLevel s

theorem ZoneRule.fault (h : ZoneRule R) (src : FaultSource) (r : FaultReason) (d : BitVec 32) (s : State) :
    R s (recordFault src r d s) := h.same (recordFault_stations src r d s)

theorem ZoneRule.stepDown (h : ZoneRule R) (s : State) : R s (stepDown s) := by
  refine h.after (h.evalLevel _) ?_
  unfold setLevel
  split <;> rfl

theorem ZoneRule.goBlind (h : ZoneRule R) (s : State) : R s (goBlind s) :=
  h.after (h.fault _ _ _ _) rfl

/-! ### Slots -/

theorem ZoneRule.accept (h : ZoneRule R) (i : SlotId) (st : SlotState) (v : Int) (s : State) : R s (accept i st v s) := by
  unfold Machine.accept
  simp only
  have hslot : R s (s.updSlot i fun t => t.accepted (s.slotRecord i) st v s.now) := h.same rfl
  split
  · refine h.trans ?_ (h.evalLevel _)
    split
    · exact hslot
    · exact h.trans hslot (h.anemometerEntered _ _)
  · refine h.trans ?_ (h.evalCondition _)
    split
    · exact h.trans hslot (h.same rfl)
    · exact hslot
  · exact h.trans hslot (h.applySurface _ _ _)
  · refine h.trans ?_ (h.evalCondition _)
    split
    · exact h.trans hslot (h.same rfl)
    · exact hslot
  · exact hslot

theorem ZoneRule.retire (h : ZoneRule R) (i : SlotId) (st : SlotState) (miss : Nat) (s : State) : R s (retire i st miss s) := by
  unfold Machine.retire
  simp only
  have hslot : R s (s.updSlot i fun t => t.retired st miss) := h.same rfl
  split
  · split
    · exact h.trans hslot (h.anemometersLeft _ _)
    · exact h.trans hslot (h.evalWants _ _)
    · exact h.trans hslot (h.evalCondition _)
    · exact h.trans hslot (h.evalCondition _)
    · exact hslot
  · exact hslot

theorem ZoneRule.loseSlot (h : ZoneRule R) (i : SlotId) (cause : Nat) (s : State) : R s (loseSlot i cause s) :=
  h.trans (h.retire _ _ _ s) (h.fault _ _ _ _)

theorem ZoneRule.takeMiss (h : ZoneRule R) (cause : Nat) (i : SlotId) (s : State) : R s (takeMiss cause i s) := by
  have hmiss : R s
      (if (s.slot i).miss < 2 then s.updSlot i fun t => { t with miss := t.miss + 1 } else Machine.loseSlot i cause s) := by
    split
    · exact h.same rfl
    · exact h.loseSlot i cause s
  unfold Machine.takeMiss
  split
  · exact hmiss
  · exact hmiss
  · exact h.refl s
  · exact h.refl s

theorem ZoneRule.takeReading (h : ZoneRule R) (raw : Int) (i : SlotId) (s : State) : R s (takeReading raw i s) := by
  unfold Machine.takeReading
  simp only
  have hraw : R s (s.updSlot i fun t => { t with latestRaw := some raw }) := h.same rfl
  split
  · exact hraw
  · split
    · exact h.trans hraw (h.accept _ _ _ _)
    · exact h.trans hraw (h.takeMiss _ _ _)

theorem ZoneRule.deliverSubstitute (h : ZoneRule R) (i : SlotId) (s : State) : R s (deliverSubstitute i s) := by
  unfold Machine.deliverSubstitute
  split
  · exact h.refl s
  · exact h.accept _ _ _ s

/-! ### Passes -/

theorem ZoneRule.passEnd (h : ZoneRule R) (s : State) : R s (passEnd s) := by
  unfold Machine.passEnd
  split <;> exact h.same rfl

theorem ZoneRule.walkSequential (h : ZoneRule R) (fuel i : Nat) (s : State) : R s (walkSequential fuel i s) := by
  induction fuel generalizing i s with
  | zero => exact h.passEnd s
  | succ fuel ih =>
    unfold Machine.walkSequential
    split
    · split
      · split
        · exact h.trans (h.deliverSubstitute _ s) (ih _ _)
        · exact h.same rfl
      · exact h.passEnd s
    · exact h.passEnd s

theorem ZoneRule.walkPaired (h : ZoneRule R) (fuel p : Nat) (s : State) : R s (walkPaired fuel p s) := by
  induction fuel generalizing p s with
  | zero => exact h.passEnd s
  | succ fuel ih =>
    unfold Machine.walkPaired
    simp only
    split
    · split
      · split
        · split
          · exact h.trans (h.trans (h.deliverSubstitute _ s) (h.deliverSubstitute _ _)) (ih _ _)
          · exact h.trans (h.deliverSubstitute _ s) (h.same rfl)
        · split
          · exact h.trans (h.deliverSubstitute _ s) (h.same rfl)
          · exact h.same rfl
      · exact h.passEnd s
    · exact h.passEnd s

theorem ZoneRule.continuePass (h : ZoneRule R) (s : State) : R s (continuePass s) := by
  unfold Machine.continuePass
  split
  · exact h.walkSequential _ _ s
  · exact h.walkPaired _ _ s

theorem ZoneRule.beginPass (h : ZoneRule R) (s : State) : R s (beginPass s) := h.after (h.continuePass _) rfl

theorem ZoneRule.completeTransaction (h : ZoneRule R) (s : State) : R s (completeTransaction s) := by
  unfold Machine.completeTransaction
  simp only
  split
  · exact h.after (h.continuePass _) rfl
  · exact h.same rfl

theorem ZoneRule.takeSensorFrame (h : ZoneRule R) (address : Byte) (raw : Int) (s : State) :
    R s (takeSensorFrame address raw s) := by
  unfold Machine.takeSensorFrame
  split
  · exact h.fault _ _ _ s
  · simp only
    split
    · exact h.fault _ _ _ s
    · split
      · refine h.trans ?_ (h.completeTransaction _)
        exact h.after (h.foldl (fun s i => h.takeReading raw i s) _ _) rfl
      · exact h.after (h.foldl (fun s i => h.takeReading raw i s) _ _) rfl

theorem ZoneRule.expireTransaction (h : ZoneRule R) (t : Transaction) (s : State) : R s (expireTransaction t s) :=
  h.trans (h.foldl (fun s i => h.takeMiss 0 i s) _ s) (h.completeTransaction _)

theorem ZoneRule.autostart (h : ZoneRule R) (s : State) : R s (autostart s) := by
  unfold Machine.autostart
  split
  · exact h.after (h.beginPass _) rfl
  · exact h.refl s

theorem ZoneRule.substitute (h : ZoneRule R) (i : SlotId) (v : Int) (life : Nat) (s : State) : R s (substitute i v life s) :=
  h.after (h.accept _ _ _ _) rfl

theorem ZoneRule.settlePollWrite (h : ZoneRule R) (s0 : State) (written : SlotId → Bool) (s : State) :
    R s (settlePollWrite s0 written s) := by
  unfold Machine.settlePollWrite
  simp only
  refine h.trans (h.trans ?_ (h.evalCondition _)) (h.evalWants _ _)
  have hreset : R s (resetWritten written s) := h.same rfl
  split
  · exact h.trans hreset (h.anemometersLeft _ _)
  · exact hreset

end

end Sys2Proof.Machine
end

section
/-! SUPPORT. The operations that let every law of people stand: what the Melt Controller, the Wind and Stow Controller and the Slew
Allocator do to a station leaves its locks, and takes no zone out of the states that a heat block allows. -/

namespace Sys2Proof.Machine

/-! ### Zones (R155 to R166) -/

/-- A zone in a state that a heat block allows has no want to follow (R159). -/
theorem Zone.afterWant_cold {z : Zone} (h : z.state.coldUnderBlock = true) (want minOff minOn : Bool) (now : Time) :
    z.afterWant want minOff minOn now = z := by
  unfold Zone.afterWant
  split
  case h_1 hs | h_2 hs | h_3 hs | h_4 hs => exact absurd (hs ▸ h) (by decide)
  all_goals rfl

theorem Zone.inhibit_cold (z : Zone) (now : Time) : (z.inhibit now).state.coldUnderBlock = true := by
  unfold Zone.inhibit
  split
  case h_1 hs | h_2 hs | h_3 hs => rw [hs]; rfl
  all_goals rfl

theorem evalWant_stand (n : StationId) (z : ZoneNum) (s : State) : PeopleStand s (evalWant n z s) :=
  .updZone s n z _ fun h => by rw [Zone.afterWant_cold h]; exact h

theorem recordFault_stand (src : FaultSource) (r : FaultReason) (d : BitVec 32) (s : State) :
    PeopleStand s (recordFault src r d s) := .of_stations (recordFault_stations src r d s)

theorem failContactor_stand (n : StationId) (z : ZoneNum) (s : State) : PeopleStand s (failContactor n z s) :=
  (PeopleStand.updZone s n z _ fun _ => rfl).trans (recordFault_stand _ _ _ _)

theorem overtempCheck_stand (v : Int) (n : StationId) (z : ZoneNum) (s : State) : PeopleStand s (overtempCheck v n z s) := by
  unfold overtempCheck
  split
  · exact (PeopleStand.updZone s n z _ fun _ => rfl).trans (recordFault_stand _ _ _ _)
  · exact .refl s

/-- The Sensor Scanner and the wind level let the laws stand. -/
theorem zoneRule_stand : ZoneRule PeopleStand where
  trans := .trans
  same := .of_stations
  want := evalWant_stand
  overtemp := overtempCheck_stand

theorem contactorWatch_stand (n : StationId) (m : BitVec 4) (s : State) : PeopleStand s (contactorWatch n m s) := by
  refine .updStation s n _ ⟨rfl, rfl, rfl, rfl, fun z hz => ?_⟩
  rw [Tab.get_ofFn, (Zone.alike_iff.mp (Zone.watch_alike _ _ _)).1]
  exact hz

/-- Of the zones shed and admitted none was in a state that a heat block allows (R56, R161). -/
theorem HeatTurned.zonesStayCold {shed adm : List (StationId × ZoneNum)} {s t : State} (h : HeatTurned shed adm s t)
    (n : StationId) : (s.station n).zonesStayCold (t.station n) := fun z hz => by
  change (t.zone n z).state.coldUnderBlock = true
  have hstate : (s.zone n z).state.coldUnderBlock = true := hz
  have hs : (n, z) ∉ shed := fun hs => absurd (h.on _ hs ▸ hstate) (by decide)
  have ha : (n, z) ∉ adm := fun ha => absurd (h.waiting _ ha ▸ hstate) (by decide)
  rw [h.state, if_neg hs, if_neg ha]
  exact hstate

theorem budgetShed_stand (s : State) : PeopleStand s (budgetShed s) := fun n => by
  rw [budgetShed_eq]
  generalize hshed : untilMet s.zonePower _ (shedOrder s s.drawing) = shed
  have hturned : HeatTurned shed [] s (shedAll shed s) := .of_shedAll fun p hp =>
    (State.mem_drawing.mp (mem_shedOrder.mp (untilMet_subset (hshed ▸ hp)))).1
  refine ⟨?_, ?_, ?_, ?_, hturned.zonesStayCold n⟩ <;> rw [(shedAll_zones shed s).record n]

/-! ### Stow (R138 to R148) -/

theorem Station.warned_stand (st : Station) (now : Time) (t : Timing) : LocksStand st (st.warned now t) := by
  unfold Station.warned
  split <;> exact ⟨rfl, rfl, rfl, rfl, fun _ => id⟩

theorem enterMoving_stand (n : StationId) (s : State) : PeopleStand s (enterMoving n s) := .updStation s n _

theorem enterWarning_stand (n : StationId) (s : State) : PeopleStand s (enterWarning n s) := fun m => by
  by_cases hm : m = n
  · subst hm
    exact (Station.warned_stand _ _ _).trans (enterWarning_stage m s).body.locksStand
  · rw [enterWarning_station_ne n m s hm]
    exact .refl _

theorem startWarning_stand (s : State) (n : StationId) : PeopleStand s (startWarning s n) := by
  unfold startWarning
  split
  · exact enterWarning_stand n s
  · exact .refl s

theorem resumeStow_stand (n : StationId) (was : Bool) (s : State) : PeopleStand s (resumeStow n was s) := by
  unfold resumeStow
  split
  · exact enterWarning_stand n s
  · exact .refl s

theorem stowTest_stand (n : StationId) (t : Telemetry) (s : State) : PeopleStand s (stowTest n t s) := by
  unfold stowTest
  simp only
  split
  · split
    · split
      · exact .updStation s n _
      · exact (offer_ports n _ s).peopleStand
    · exact .refl s
  · split
    · exact .refl s
    · exact enterMoving_stand n s
  · exact .refl s

theorem activate_stand (s : State) : PeopleStand s (activate s) := by
  have hstations : PeopleStand s (s.mapStations fun n st => activateStation (s.stopSetpoint n) st) :=
    .mapStations s _ fun _ => ⟨rfl, rfl, rfl, rfl, fun _ => id⟩
  have hstarted := hstations.trans (.foldl startWarning_stand stationIds _)
  intro n
  unfold activate
  rw [withRefresh_station]
  exact hstarted n

theorem releaseStow_stand (s : State) : PeopleStand s (releaseStow s) := by
  have hoffers := (OnlyPorts.foldl releaseOffers_ports stationIds s).peopleStand
  have hrecords : ∀ u : State, PeopleStand u (u.mapStations fun _ st => releaseStation st) := fun u =>
    .mapStations u _ fun _ => ⟨rfl, rfl, rfl, rfl, fun _ => id⟩
  exact (hoffers.trans (hrecords _)).congr rfl

theorem settleStow_stand (s0 s : State) : PeopleStand s (settleStow s0 s) := by
  unfold settleStow
  split
  · exact activate_stand s
  · split
    · exact releaseStow_stand s
    · exact .refl s

/-! ### Demand and allocation (R25 to R31, R51 to R62, R142) -/

theorem setClip_stand (n : StationId) (c : ClipSet) (s : State) : PeopleStand s (setClip n c s) := .updStation s n _

theorem handleEntry_stand (s : State) (b : BatchEntry) : PeopleStand s (handleEntry s b) := by
  unfold handleEntry
  simp only
  split
  · exact (PeopleStand.updStation s _ _).trans (setClip_stand _ _ _)
  · split
    · exact setClip_stand _ _ s
    · exact .refl s

theorem overrideEntry_stand (s : State) (b : BatchEntry) : PeopleStand s (overrideEntry s b) := by
  unfold overrideEntry
  split
  · exact setClip_stand _ _ s
  · exact .refl s

theorem refreshDemand_stand (s : State) (n : StationId) : PeopleStand s (refreshDemand s n) := by
  unfold refreshDemand
  simp only
  split
  · exact (PeopleStand.updStation s n _).trans (setClip_stand _ _ _)
  · exact .refl s

theorem State.grantedRecord_stand (s : State) (k : AllocKind) (n : StationId) (st : Station) :
    LocksStand st (s.grantedRecord k n st) := by
  unfold State.grantedRecord Station.granted
  split <;> exact ⟨rfl, rfl, rfl, rfl, fun _ => id⟩

theorem allocate_stand (k : AllocKind) (s : State) : PeopleStand s (allocate k s) := fun n => by
  obtain ⟨hup, hseen, hholders, hclearing, -⟩ := s.grantedRecord_stand k n (s.station n)
  have halloc := allocate_allocates k s
  refine ⟨?_, ?_, ?_, ?_, halloc.heat.zonesStayCold n⟩ <;> rw [halloc.record n] <;> assumption

theorem runBatch_stand (es : List BatchEntry) (s : State) : PeopleStand s (runBatch es s) :=
  (((PeopleStand.foldl handleEntry_stand es s).trans (.foldl refreshDemand_stand stationIds _)).trans
    (allocate_stand .batch _)).trans (OnlyPorts.foldl offerGrant_ports _ _).peopleStand

theorem takeBatch_stand (es : List BatchEntry) (s : State) : PeopleStand s (takeBatch es s) := by
  unfold takeBatch
  split
  · exact recordFault_stand _ _ _ s
  · split
    · exact .foldl overrideEntry_stand es s
    · exact runBatch_stand es s

theorem writeStowDemand_stand (s : State) : PeopleStand s (writeStowDemand s) :=
  .mapStations s _ fun n => by
    split
    · exact ⟨rfl, rfl, rfl, rfl, fun _ => id⟩
    · exact .refl _

theorem offerStow_stand (clamped : StationId → Bool) (s : State) (n : StationId) : PeopleStand s (offerStow clamped s n) := by
  unfold offerStow
  simp only
  refine PeopleStand.trans ?_ (offerGrant_ports _ n).peopleStand
  split
  · exact setClip_stand n _ s
  · exact .refl s

theorem runStowRefresh_stand (s : State) : PeopleStand s (runStowRefresh s) :=
  ((writeStowDemand_stand s).trans (allocate_stand .stow _)).trans (.foldl (offerStow_stand _) _ _)

/-! ### Ports and the end of an event (R33, R168, R179) -/

theorem examine_stand (s : State) : PeopleStand s (examine s) := .of_stations (examine_stations s)

theorem offerUp_stand (e : UpEntry) (s : State) : PeopleStand s (offerUp e s) := .of_stations (by rw [offerUp_eq])

theorem closeEvent_stand (s0 s : State) : PeopleStand s (closeEvent s0 s) :=
  ((settleStow_stand s0 s).trans (offerHeatMarkers_ports s0 _).peopleStand).trans (examine_stand _)

theorem respond_stand (tag code : Byte) (s0 : State) (a : Answer) : PeopleStand a.state (respond tag code s0 a) := by
  unfold respond
  have hend := (settleStow_stand s0 a.state).trans (offerHeatMarkers_ports s0 _).peopleStand
  have hreturned : PeopleStand a.state { offerHeatMarkers s0 (settleStow s0 a.state) with responder := none } := hend.congr rfl
  exact (hreturned.trans (offerUp_stand _ _)).trans (examine_stand _)

theorem PeopleKept.closeEvent {s x : State} (h : PeopleKept s x) (s0 : State) : PeopleKept s (closeEvent s0 x) :=
  h.trans (closeEvent_stand s0 x).kept

theorem PeopleKept.examine {s x : State} (h : PeopleKept s x) : PeopleKept s (examine x) := h.trans (examine_stand x).kept

/-- A request whose execution keeps the laws of people. -/
theorem manage_people (tag code : Byte) {run : State → Answer} (hrun : ∀ u, PeopleKept u (run u).state) (s : State) :
    PeopleKept s (manage tag code run s) := by
  unfold manage
  split
  · exact (recordFault_stand _ _ _ s).kept.examine
  · have hheld : PeopleKept s { s with responder := some (tag, code) } := .of_stations rfl
    exact (hheld.trans (hrun _)).trans (respond_stand tag code s _).kept

theorem routeCabinet_stand (f : CabinetFrame) (s : State) : PeopleStand s (routeCabinet f s) := by
  unfold routeCabinet
  split
  · exact (OnlyPorts.foldl (fun s n => offer_ports n (.cabinetData f) s) stationIds s).peopleStand
  · split
    · exact (offer_ports _ _ s).peopleStand
    · split
      · exact recordFault_stand _ _ _ s
      · exact .refl s

theorem departUp_stand (s : State) : PeopleStand s (departUp s) := .of_stations (by unfold departUp; split <;> rfl)

theorem stationFrameEnd_stand (n : StationId) (s : State) :
    PeopleStand s (depart n (s.updStation n fun st => { st with tx := none })) :=
  (PeopleStand.updStation s n _).trans (depart_ports n _).peopleStand

end Sys2Proof.Machine
end

section
/-! SUPPORT. An event's own change of the locks of one station, and its settling (R86, R97, R98, R101, R163): the clearing that a
DRIVE claim cancels, the one that starts where no holder claims DRIVE, and the zones that a beginning heat block inhibits. -/

namespace Sys2Proof.Machine

/-! ### The settling of a station -/

/-- The record a settling leaves but for its zones and its port keeps the laws of holders and of clearing. -/
theorem LocksChange.settled {a y : Station} (h : LocksChange a y) (turned able : Bool) (timer : Timer) :
    (holderListLaw a.holders → holderListLaw (y.settled turned able timer).holders)
      ∧ (a.lockLaw → (y.settled turned able timer).lockLaw)
      ∧ a.zonesStayCold (y.settled turned able timer) := by
  have hlink : (y.settled turned able timer).link = y.link := Station.suspended_link turned y
  have hseen : (y.settled turned able timer).lockReportSeen = y.lockReportSeen := Station.suspended_lockReportSeen turned y
  have hholders : (y.settled turned able timer).holders = y.holders := Station.suspended_holders turned y
  have hdrive : driveCount (y.settled turned able timer) = driveCount y := by rw [driveCount, hholders, driveCount]
  refine ⟨fun hl => hholders ▸ h.holders hl, fun hl => ?_, fun z hz => ?_⟩
  · obtain ⟨hunseen, hpresent⟩ := h.report hl.reportLaw
    unfold Station.lockLaw Station.clearingLaw
    rw [hlink, hseen, hdrive]
    refine ⟨hunseen, fun hc => ?_⟩
    change (if y.cancels then none else if y.starts able then some timer else y.clearing).isSome = true at hc
    split_ifs at hc with hcancels hstarts
    · exact absurd hc (by simp)
    · rw [Station.starts, Bool.and_eq_true, eligible] at hstarts
      simp only [Bool.and_eq_true, beq_iff_eq] at hstarts
      obtain ⟨-, ⟨⟨-, hup⟩, hreported⟩, hnone⟩ := hstarts
      exact ⟨hup, hreported, hnone⟩
    · obtain ⟨hup, hreported⟩ := hpresent hc
      exact ⟨hup, hreported, by simpa [Station.cancels, hc] using hcancels⟩
  · rw [show (y.settled turned able timer).zones = y.zones from Station.suspended_zones turned y]
    exact h.zones z hz

/-- A heat block that begins inhibits every zone; one that holds on finds them cold (R163). -/
theorem settleHeatBlock_heatLaw {n : StationId} {a : Station} {x : State} (hzones : a.zonesStayCold (x.station n))
    (hl : a.heatLaw) : ((settleHeatBlock n (heatBlock a) x).station n).heatLaw := by
  intro hblock z
  rw [settleHeatBlock_record] at hblock
  change heatBlock (x.station n) = true at hblock
  change ((settleHeatBlock n (heatBlock a) x).zone n z).state.coldUnderBlock = true
  rw [settleHeatBlock_zone]
  unfold Station.heatLaw at hl
  generalize heatBlock a = before at hl ⊢
  obtain ⟨hbegins, -, hstands⟩ := x.blockZone_cases n before z
  cases before with
  | false =>
    rw [hbegins rfl hblock]
    exact Zone.inhibit_cold _ _
  | true =>
    rw [hstands hblock.symm]
    exact hzones z (hl rfl z)

/-- An event's own change of the locks of station `n`. -/
structure LocksEdited (n : StationId) (s y : State) : Prop where
  others : ∀ m, m ≠ n → y.station m = s.station m
  own : LocksChange (s.station n) (y.station n)

/-- What follows from a change of the locks brings every law of people back into force. -/
theorem LocksEdited.kept {n : StationId} {s y : State} (h : LocksEdited n s y) (reply : Option LockReply) :
    PeopleKept s (settleStation n s reply y) := fun m => by
  by_cases hm : m = n
  · subst hm
    obtain ⟨-, hbody, -⟩ := settleClearing_stage m (s.turnedAt y m) (eligible (s.station m)) reply y
    rw [settleStation_eq]
    generalize startClearing m (eligible (s.station m)) (cancelClearing m (settleMotion m (s.turnedAt y m) reply y)) = x at *
    obtain ⟨hholders, hlocks, hzones⟩ :=
      h.own.settled (s.turnedAt y m) (eligible (s.station m)) ⟨y.now, y.settings.timing.clearDelay⟩
    have hstand := hbody.locksStand.trans (resumeStow_stand m (s.authority m).blocked x m)
    generalize resumeStow m (s.authority m).blocked x = w at *
    have hrecord := settleHeatBlock_record m (heatBlock (s.station m)) w
    refine ⟨fun hl => ?_, fun hl => ?_, settleHeatBlock_heatLaw fun z => hstand.zones z ∘ hzones z⟩
    · rw [hrecord]
      exact hstand.change.holders (hholders hl)
    · rw [hrecord]
      exact hstand.lockLaw (hlocks hl)
  · rw [settleStation_station_ne n m s reply y hm, h.others m hm]
    exact (LocksStand.refl _).laws

section
variable {n : StationId} {s y x : State}

theorem LocksEdited.refl (n : StationId) (s : State) : LocksEdited n s s := ⟨fun _ _ => rfl, (LocksStand.refl _).change⟩

theorem LocksEdited.trans (h : LocksEdited n s y) (k : LocksEdited n y x) : LocksEdited n s x :=
  ⟨fun m hm => (k.others m hm).trans (h.others m hm), h.own.trans k.own⟩

theorem LocksEdited.congr (h : LocksEdited n s y) (hst : x.stations = y.stations) : LocksEdited n s x :=
  ⟨fun m hm => (State.station_congr hst m).trans (h.others m hm), State.station_congr hst n ▸ h.own⟩

theorem LocksEdited.fault (h : LocksEdited n s y) (src : FaultSource) (r : FaultReason) (d : BitVec 32) :
    LocksEdited n s (recordFault src r d y) := h.congr (recordFault_stations src r d y)

/-- An update of the record. -/
theorem LocksEdited.updStation (n : StationId) (s : State) (f : Station → Station)
    (h : LocksChange (s.station n) (f (s.station n))) : LocksEdited n s (s.updStation n f) := by
  refine ⟨fun m hm => ?_, ?_⟩
  · rw [State.updStation_station, if_neg hm]
  · rw [updStation_own]
    exact h

/-- An update that leaves the locks and the zones. -/
theorem LocksEdited.body (n : StationId) (s : State) (f : Station → Station)
    (h : LocksStand (s.station n) (f (s.station n)) := by exact ⟨rfl, rfl, rfl, rfl, fun _ => id⟩) :
    LocksEdited n s (s.updStation n f) := .updStation n s f h.change

theorem LocksEdited.offer (n : StationId) (e : StationEntry) (s : State) : LocksEdited n s (offer n e s) :=
  ⟨fun m hm => offer_station_ne n m e s hm, ((offer_ports n e s).same n).locksStand.change⟩

end

/-! ### Links (R4 to R6) -/

/-- A link that comes UP is no longer bound by its law, and no clearing was present on one that was DOWN (R8, R98). -/
theorem LocksChange.comesUp (st : Station) (deadline : Timer) : LocksChange st { st with link := .up deadline } where
  holders := id
  report hl := ⟨fun h => absurd h (by simp [Link.isUp]), fun hc => ⟨rfl, (hl.2 hc).2⟩⟩
  zones _ := id

theorem LocksEdited.goodFrame (n : StationId) (s : State) : LocksEdited n s (goodFrame n s) := by
  have hup : LocksEdited n s (s.updStation n fun st => { st with link := .up (s.timer s.settings.timing.linkTimeout) }) :=
    .updStation n s _ (.comesUp _ _)
  unfold Machine.goodFrame
  simp only
  split
  · exact hup
  · exact (hup.trans (.offer n _ _)).trans (.offer n _ _)

/-- A good frame that nothing is settled for begins no heat block: that of a DOWN link held already (R101). -/
theorem goodFrame_people (n : StationId) (s : State) : PeopleKept s (goodFrame n s) := by
  have hup : PeopleKept s (s.updStation n fun st => { st with link := .up (s.timer s.settings.timing.linkTimeout) }) := by
    intro m
    rw [State.updStation_station]
    split
    · next hm =>
      subst hm
      refine ⟨id, fun ⟨_, hclear⟩ => ⟨fun h => absurd h (by simp [Link.isUp]), fun hc => ⟨rfl, (hclear hc).2⟩⟩, fun hl hb => hl ?_⟩
      simp only [heatBlock, Link.isUp, Bool.not_true, Bool.false_or] at hb ⊢
      rw [Bool.or_assoc, show (!(s.station m).lockReportSeen || heatCount (s.station m) != 0) = true from hb, Bool.or_true]
    · exact (LocksStand.refl _).laws
  unfold goodFrame
  simp only
  split
  · exact hup
  · exact (hup.trans (offer_ports n _ _).peopleStand.kept).trans (offer_ports n _ _).peopleStand.kept

/-- A link lost leaves no report seen and no clearing (R6, R8, R98). -/
theorem LocksEdited.dropLink (n : StationId) (s : State) : LocksEdited n s (dropLink n s) := by
  refine .updStation n s _ ⟨id, fun _ => ⟨fun _ => rfl, fun hc => absurd hc (by simp)⟩, fun z hz => ?_⟩
  rw [Tab.get_ofFn]
  exact hz

theorem loseLink_people (n : StationId) (t : Time) (s : State) : PeopleKept s (loseLink n t s) := by
  have hdropped : LocksEdited n s (recordFault (.station n) .linkLost t (dropLink n s)) := (LocksEdited.dropLink n s).fault _ _ _
  unfold loseLink
  simp only
  refine LocksEdited.kept ?_ none
  split
  · exact hdropped.congr rfl
  · exact hdropped

/-! ### The holder list (R85 to R93) -/

theorem holderListLaw.perm {hs ks : List Holder} (h : holderListLaw hs) (hperm : ks.Perm hs) : holderListLaw ks := by
  obtain ⟨hlen, hbadges, hscopes⟩ := h
  exact ⟨hperm.length_eq ▸ hlen, (hperm.map _).nodup_iff.mpr hbadges, fun x hx => hscopes x (hperm.mem_iff.mp hx)⟩

theorem holderListLaw.sublist {hs ks : List Holder} (h : holderListLaw hs) (hsub : ks.Sublist hs) : holderListLaw ks := by
  obtain ⟨hlen, hbadges, hscopes⟩ := h
  exact ⟨hsub.length_le.trans hlen, hbadges.sublist (hsub.map _), fun x hx => hscopes x (hsub.subset hx)⟩

theorem holderListLaw.cons {hs : List Holder} {x : Holder} (h : holderListLaw hs) (hlen : hs.length ≤ 5)
    (hbadge : ∀ y ∈ hs, y.badge ≠ x.badge) (hscope : emptyScope x.scope = false) : holderListLaw (x :: hs) := by
  obtain ⟨-, hbadges, hscopes⟩ := h
  refine ⟨Nat.succ_le_succ hlen, ?_, List.forall_mem_cons.mpr ⟨hscope, hscopes⟩⟩
  rw [List.map_cons, List.nodup_cons]
  refine ⟨fun hmem => ?_, hbadges⟩
  obtain ⟨y, hy, hyx⟩ := List.mem_map.mp hmem
  exact hbadge y hy hyx

theorem emptyScope_union {a : Scope} (h : emptyScope a = false) (b : Scope) : emptyScope (unionScope a b) = false := by
  revert h
  simp only [emptyScope, unionScope]
  cases a.drive <;> cases a.heat <;> simp

/-- A change of the scopes of one badge leaves the badges. -/
theorem map_badge_rescope (hs : List Holder) (badge : Badge) (f : Scope → Scope) :
    (hs.map fun h => if h.badge = badge then { h with scope := f h.scope } else h).map (·.badge) = hs.map (·.badge) := by
  rw [List.map_map]
  refine List.map_congr_left fun x _ => ?_
  rw [Function.comp]
  split <;> rfl

/-- A claim keeps the law: a badge that holds a record is united with it, and another is placed while there is room (R88). -/
theorem holderListLaw.claim {hs : List Holder} (h : holderListLaw hs) {badge : Badge} {scope : Scope}
    (hscope : emptyScope scope = false) : holderListLaw (claim hs badge scope).1 := by
  obtain ⟨hlen, hbadges, hscopes⟩ := h
  unfold Machine.claim
  split
  · refine ⟨by simpa using hlen, ?_, fun x hx => ?_⟩
    · rw [map_badge_rescope hs badge (unionScope · scope)]
      exact hbadges
    · obtain ⟨y, hy, rfl⟩ := List.mem_map.mp hx
      split
      · exact emptyScope_union (hscopes y hy) scope
      · exact hscopes y hy
  · next hnot =>
    split
    · next hroom =>
      have hnew : holderListLaw (⟨badge, scope⟩ :: hs) := by
        refine holderListLaw.cons ⟨hlen, hbadges, hscopes⟩ (Nat.lt_succ_iff.mp hroom) (fun y hy hb => hnot ?_) hscope
        exact holds_iff.mpr ⟨y, hy, hb⟩
      exact hnew.perm (List.perm_append_singleton _ _)
    · exact ⟨hlen, hbadges, hscopes⟩

/-- A release keeps the law: what is left of each record is not empty (R89). -/
theorem holderListLaw.unclaim {hs : List Holder} (h : holderListLaw hs) (badge : Badge) (scope : Scope) :
    holderListLaw (unclaim hs badge scope).1 := by
  unfold Machine.unclaim
  split
  · obtain ⟨hlen, hbadges, -⟩ := h
    have hsub := List.filter_sublist (p := fun x : Holder => !emptyScope x.scope)
      (l := hs.map fun x => if x.badge = badge then { x with scope := minusScope x.scope scope } else x)
    refine ⟨hsub.length_le.trans (by simpa using hlen), (List.Nodup.sublist (hsub.map _) ?_), fun x hx => ?_⟩
    · rw [map_badge_rescope hs badge (minusScope · scope)]
      exact hbadges
    · simpa using (List.mem_filter.mp hx).2
  · exact h

theorem nodup_eraseDups (l : List Badge) : l.eraseDups.Nodup := by
  induction l using List.reverseRecOn with
  | nil => exact List.nodup_nil
  | append_singleton l b ih =>
    rw [eraseDups_concat]
    split
    · exact ih
    · next hb =>
      rw [← List.concat_eq_append, List.nodup_concat]
      exact ⟨fun hmem => hb (List.mem_eraseDups.mp hmem), ih⟩

theorem length_eraseDups_le (l : List Badge) : l.eraseDups.length ≤ l.length :=
  ((nodup_eraseDups l).subperm fun _ => List.mem_eraseDups.mp).length_le

/-- The crew set of a well-formed report keeps the law, and holds no badge 0 (R91, R92). -/
theorem crewOf_law {es : List ReportEntry} (h : malformedReport es = false) :
    holderListLaw (crewOf es) ∧ ∀ x ∈ crewOf es, x.badge ≠ 0 := by
  rw [← Bool.not_eq_true, malformedReport_iff, not_or, not_lt] at h
  obtain ⟨hlen, hentries⟩ := h
  rw [crewOf_eq]
  generalize hcrew : es.filter (fun e => e.badge != 0) = crew
  have hsub : crew.Sublist es := hcrew ▸ List.filter_sublist
  have hbadges : ∀ b ∈ (crew.map (·.badge)).eraseDups, ∃ e ∈ crew, e.badge = b := fun b hb =>
    List.mem_map.mp (List.mem_eraseDups.mp hb)
  refine ⟨⟨?_, ?_, fun x hx => ?_⟩, fun x hx => ?_⟩
  · rw [List.length_map]
    refine (length_eraseDups_le _).trans ?_
    rw [List.length_map]
    exact hsub.length_le.trans hlen
  · rw [List.map_map, show (fun x : Holder => x.badge) ∘ claimsOf crew = id from rfl, List.map_id]
    exact nodup_eraseDups _
  · obtain ⟨b, hb, rfl⟩ := List.mem_map.mp hx
    obtain ⟨e, he, rfl⟩ := hbadges b hb
    have hscope : emptyScope e.scope = false := by
      rw [← Bool.not_eq_true]
      exact fun hempty => hentries ⟨e, hsub.subset he, .inr hempty⟩
    have hdrive : e.scope.drive = true → (crew.any fun x => x.badge == e.badge && x.scope.drive) = true := fun hd =>
      List.any_eq_true.mpr ⟨e, he, by simp [hd]⟩
    have hheat : e.scope.heat = true → (crew.any fun x => x.badge == e.badge && x.scope.heat) = true := fun hh =>
      List.any_eq_true.mpr ⟨e, he, by simp [hh]⟩
    simp only [emptyScope, Bool.and_eq_false_iff, Bool.not_eq_false'] at hscope ⊢
    exact hscope.imp hdrive hheat
  · obtain ⟨b, hb, rfl⟩ := List.mem_map.mp hx
    obtain ⟨e, he, rfl⟩ := hbadges b hb
    rw [← hcrew, List.mem_filter] at he
    exact bne_iff_ne.mp he.2

/-- The record of the control room in its place among five of the crew at most (R92 step 4). -/
theorem holderListLaw.placeAt {crew : List Holder} (h : holderListLaw crew) (hlen : crew.length ≤ 5) (i : Nat) {room : Holder}
    (hbadge : ∀ x ∈ crew, x.badge ≠ room.badge) (hscope : emptyScope room.scope = false) :
    holderListLaw (placeAt i room crew) := by
  refine (h.cons hlen hbadge hscope).perm ?_
  have hmiddle := List.perm_middle (a := room) (l₁ := crew.take i) (l₂ := crew.drop i)
  rwa [List.take_append_drop] at hmiddle

/-- The list that a well-formed report leaves keeps the law (R92, R93). -/
theorem holderListLaw.rebuild {hs : List Holder} (h : holderListLaw hs) {es : List ReportEntry}
    (hes : malformedReport es = false) : holderListLaw (rebuild hs es).1 := by
  obtain ⟨hcrew, hbadges⟩ := crewOf_law hes
  obtain ⟨-, -, hscopes⟩ := h
  unfold Machine.rebuild
  simp only [crewSet_eq]
  split
  · exact hcrew
  · next room hroom =>
    have hzero : room.badge = 0 := by simpa using List.find?_some hroom
    have hscope := hscopes room (List.mem_of_find?_eq_some hroom)
    split
    · next hfew =>
      exact hcrew.placeAt (List.drop_eq_nil_iff.mp hfew) _ (fun x hx => hzero ▸ hbadges x hx) hscope
    · refine (hcrew.sublist (List.take_sublist 5 _)).placeAt (List.length_take_le 5 _) _ (fun x hx => ?_)
        (emptyScope_union hscope _)
      exact hzero ▸ hbadges x (List.mem_of_mem_take hx)

end Sys2Proof.Machine
end

section
/-! SUPPORT. The events that change the locks, the envelopes, the zones written and cleared, and the two resets keep the laws of
people (R88 to R99, R73, R154, R163, R167, R193, R194). -/

namespace Sys2Proof.Machine

/-! ### Locks (R88 to R96) -/

/-- A list put in place of another that keeps the law. -/
theorem LocksChange.relisted (st : Station) {hs : List Holder} (h : holderListLaw st.holders → holderListLaw hs) :
    LocksChange st { st with holders := hs } := ⟨h, id, fun _ => id⟩

theorem changeHolders_people {n : StationId} {s y : State} (h : LocksEdited n s y) {hs : List Holder}
    (hlist : holderListLaw (y.station n).holders → holderListLaw hs) (reply : Option LockReply) :
    PeopleKept s (changeHolders n s hs reply y) := by
  have hy : LocksEdited n s (y.updStation n fun st => { st with holders := hs }) :=
    h.trans (.updStation n y _ (.relisted _ hlist))
  unfold changeHolders
  simp only
  refine LocksEdited.kept ?_ reply
  split
  · exact hy
  · exact hy.congr rfl

theorem badClaim_scope {badge : Badge} {scope : Scope} (h : ¬badClaim badge scope = true) : emptyScope scope = false := by
  simp only [badClaim, Bool.or_eq_true, not_or, Bool.not_eq_true] at h
  exact h.2

theorem holderListLaw.lockOutcome {hs : List Holder} (h : holderListLaw hs) (badge : Badge) (scope : Scope) :
    holderListLaw (lockOutcome hs badge scope).1 := by
  unfold Machine.lockOutcome
  split
  · exact h
  · next hgood => exact h.claim (badClaim_scope hgood)

theorem holderListLaw.unlockOutcome {hs : List Holder} (h : holderListLaw hs) (badge : Badge) (scope : Scope) :
    holderListLaw (unlockOutcome hs badge scope).1 := by
  unfold Machine.unlockOutcome
  split
  · exact h
  · exact h.unclaim badge scope

/-- A frame that changes the list of a station, with the report that it may record first. -/
theorem frameList_people {n : StationId} {s y : State} (h : LocksEdited n s y) {hs : List Holder}
    (hlist : holderListLaw (y.station n).holders → holderListLaw hs) (reply : Option LockReply) {p : Prop} [Decidable p]
    (r : FaultReason) (d : BitVec 32) :
    PeopleKept s (changeHolders n s hs reply (if p then recordFault (.station n) r d y else y)) := by
  split
  · exact changeHolders_people (h.fault _ _ _) (fun hl => hlist (recordFault_station _ _ _ y n ▸ hl)) reply
  · exact changeHolders_people h hlist reply

theorem takeLock_people {n : StationId} {s y : State} (h : LocksEdited n s y) (badge : Badge) (scope : Scope) :
    PeopleKept s (takeLock n s badge scope y) := by
  unfold takeLock
  exact frameList_people h (fun hl => hl.lockOutcome badge scope) _ _ _

theorem takeUnlock_people {n : StationId} {s y : State} (h : LocksEdited n s y) (badge : Badge) (scope : Scope) :
    PeopleKept s (takeUnlock n s badge scope y) := by
  unfold takeUnlock
  exact frameList_people h (fun hl => hl.unlockOutcome badge scope) _ _ _

theorem takeReport_people {n : StationId} {s y : State} (h : LocksEdited n s y) {es : List ReportEntry}
    (hes : malformedReport es = false) (hup : (y.station n).link.isUp = true) : PeopleKept s (takeReport n s es y) := by
  rw [takeReport_eq]
  refine LocksEdited.kept (h.trans ⟨fun m hm => ?_, ?_⟩) _ <;> rw [afterReport_station]
  · exact if_neg hm
  · rw [if_pos rfl]
    refine ⟨fun hl => hl.rebuild hes, fun _ => ⟨fun hdown => ?_, fun _ => ⟨hup, rfl⟩⟩, fun _ => id⟩
    exact absurd (hup.symm.trans hdown) (by simp)

theorem goodFrame_isUp (n : StationId) (s : State) : ((goodFrame n s).station n).link.isUp = true := by
  unfold goodFrame
  simp only
  split
  · rw [updStation_own]
    rfl
  · rw [((offer_ports n _ _).same n).link, ((offer_ports n _ _).same n).link, updStation_own]
    rfl

theorem handleReport_people (n : StationId) (es : List ReportEntry) (s : State) : PeopleKept s (handleReport n es s) := by
  unfold handleReport
  split
  · exact (goodFrame_people n s).trans (recordFault_stand _ _ _ _).kept
  · next hes => exact takeReport_people (.goodFrame n s) (Bool.not_eq_true _ ▸ hes) (goodFrame_isUp n s)

theorem withClaim_people {run : StationId → Scope → State → Answer} {s : State} (params : List Byte)
    (h : ∀ n scope, emptyScope scope = false → PeopleKept s (run n scope s).state) :
    PeopleKept s (withClaim params run s).state := by
  unfold withClaim
  split
  · split
    · split
      · exact .refl s
      · next hscope => exact h _ _ (Bool.not_eq_true _ ▸ hscope)
    · exact .refl s
  · exact .refl s

theorem runRemoteLock_people (n : StationId) {scope : Scope} (hscope : emptyScope scope = false) (s : State) :
    PeopleKept s (runRemoteLock n scope s).state := by
  unfold runRemoteLock
  simp only
  split
  · exact .refl s
  · rw [changeRoom, done_state]
    exact changeHolders_people (.refl n s) (fun hl => hl.claim hscope) _

theorem runRemoteUnlock_people (n : StationId) (scope : Scope) (s : State) : PeopleKept s (runRemoteUnlock n scope s).state := by
  unfold runRemoteUnlock
  simp only
  split
  · exact .refl s
  · rw [changeRoom, done_state]
    exact changeHolders_people (.refl n s) (fun hl => hl.unclaim 0 scope) _

/-! ### Telemetry, latches and clearing (R80 to R83, R99) -/

theorem LocksEdited.latch (n : StationId) (l : FaultLatch) (r : FaultReason) (d : BitVec 32) (s : State) :
    LocksEdited n s (latch n l r d s) := (LocksEdited.body n s _).fault _ _ _

theorem LocksEdited.checkTelemetry (n : StationId) (t : Telemetry) (s : State) : LocksEdited n s (checkTelemetry n t s) := by
  unfold Machine.checkTelemetry
  simp only
  split
  · split
    · exact .latch n _ _ _ s
    · split
      · exact .latch n _ _ _ s
      · split
        · exact .latch n _ _ _ s
        · exact .refl n s
  · exact .refl n s

theorem takeTelemetry_people (n : StationId) (f : TelemetryFrame) (s : State) : PeopleKept s (takeTelemetry n f s) := by
  have hedited : LocksEdited n s (checkTelemetry n (telemetryOf f s.now) (storeTelemetry n (telemetryOf f s.now) (goodFrame n s))) :=
    ((LocksEdited.goodFrame n s).trans (.body n _ _)).trans (.checkTelemetry n _ _)
  have htested := (hedited.kept none).trans (stowTest_stand n (telemetryOf f s.now) _).kept
  exact (htested.trans (contactorWatch_stand n (telemetryOf f s.now).contactors _).kept).trans (offerUp_stand _ _).kept

theorem runStationResume_people (params : List Byte) (s : State) : PeopleKept s (runStationResume params s).state := by
  unfold runStationResume
  repeat' split
  · exact .refl s
  · exact .refl s
  · exact (LocksEdited.body _ s _).kept none
  · exact .refl s

/-- A clearing that ends leaves a record that a settling brings within the laws, with the frames held back as without (R99). -/
theorem endClearing_people (n : StationId) (s : State) : PeopleKept s (endClearing n s) := by
  have hend : ∀ u : State, LocksStand (s.station n) (u.station n) → (∀ m, m ≠ n → u.station m = s.station m) →
      LocksEdited n s (raise .lockChange (offer n (.horn false) (u.updStation n fun st => { st with clearing := none }))) := by
    intro u hu hothers
    have hcleared : LocksEdited n u (u.updStation n fun st => { st with clearing := none }) :=
      .updStation n u _ ⟨id, fun hl => ⟨hl.1, fun hc => absurd hc (by simp)⟩, fun _ => id⟩
    have hstart : LocksEdited n s u := ⟨hothers, hu.change⟩
    exact ((hstart.trans hcleared).trans (.offer n _ _)).congr rfl
  unfold endClearing withheld
  split
  · exact (hend s (.refl _) fun _ _ => rfl).kept none
  · refine ((LocksEdited.kept (hend _ ?_ fun m hm => ?_) none).trans (PeopleStand.updStation _ n _).kept).trans
      (depart_ports n _).peopleStand.kept
    · rw [updStation_own]
      exact ⟨rfl, rfl, rfl, rfl, fun _ => id⟩
    · rw [State.updStation_station, if_neg hm]

/-! ### Envelopes (R73, R77) -/

theorem LocksEdited.newEntry (n : StationId) (e : Envelope) (s : State) :
    LocksEdited n s (settleInstalled n (s.station n).installed (s.putActive n e)) := by
  have hput : LocksEdited n s (s.putActive n e) := by
    refine ⟨fun m hm => by rw [State.putActive_station, if_neg hm], ?_⟩
    rw [State.putActive_station, if_pos rfl]
    exact LocksStand.change ⟨rfl, rfl, rfl, rfl, fun _ => id⟩
  refine hput.trans ?_
  unfold settleInstalled uninstallStow
  simp only
  split
  · split
    · exact (LocksEdited.body n _ _).trans (.offer n _ _)
    · exact .body n _ _
  · split
    · exact .body n _ _
    · exact .refl n _

theorem writeActive_people (n : StationId) (e : Envelope) (s : State) : PeopleKept s (writeActive n e s) := by
  rw [writeActive_eq]
  exact (LocksEdited.newEntry n e s).kept none

theorem applyStation_people (s : State) (n : StationId) : PeopleKept s (applyStation s n) := by
  unfold applyStation
  split
  · exact writeActive_people n _ s
  · exact .refl s

theorem runEnvelopeApply_people (params : List Byte) (s : State) : PeopleKept s (runEnvelopeApply params s).state := by
  unfold runEnvelopeApply
  repeat' split
  · exact .refl s
  · exact .refl s
  · exact .refl s
  · exact .foldl applyStation_people _ s
  · exact .refl s

theorem runEnvelopeClearAll_people (s : State) : PeopleKept s (runEnvelopeClearAll s).state := by
  unfold runEnvelopeClearAll
  repeat' split
  · exact .refl s
  · exact .refl s
  · exact .refl s
  · rw [done_state, clearEnvelopes]
    generalize hu : ({ s with shadow := Tab.fill 8 defaultEnvelope } : State) = u
    have hshadow : PeopleKept s u := .of_stations (hu ▸ rfl)
    exact hshadow.trans (.foldl (fun u n => writeActive_people n defaultEnvelope u) stationIds u)

/-! ### Zones written and cleared (R154, R163, R167) -/

/-- A zone that a write enables is INHIBITED under a heat block, and one that it disables is DISABLED (R154). -/
theorem Zone.rewritten_cold {z : Zone} (h : z.state.coldUnderBlock = true) (was enabled : Bool) (now : Time) :
    (z.rewritten was enabled true now).state.coldUnderBlock = true := by
  unfold Zone.rewritten
  cases enabled
  · rfl
  · cases was
    · rfl
    · exact h

theorem settleZoneWrite_people (old : Tab 32 ZoneRecord) (p : StationId × ZoneNum) (s : State) :
    PeopleKept s (settleZoneWrite old p s) := by
  have hwritten : PeopleKept s (s.updZone p.1 p.2 fun z =>
      z.rewritten (isYes (old.get (zoneIndex p.1 p.2)).enabled) (isYes (s.zoneRecord p.1 p.2).enabled)
        (heatBlock (s.station p.1)) s.now) :=
    .updZone s p.1 p.2 _ fun hblock hcold => by
      rw [hblock]
      exact Zone.rewritten_cold hcold _ _ _
  unfold settleZoneWrite
  simp only
  split
  · exact (hwritten.trans (PeopleStand.updZone _ p.1 p.2 _ id).kept).trans (evalWant_stand p.1 p.2 _).kept
  · exact hwritten

/-- A faulted zone cleared under a heat block is INHIBITED at once (R163, R167). -/
theorem clearZone_people (n : StationId) (z : ZoneNum) (s : State) : PeopleKept s (clearZone n z s) := fun m => by
  have hrecord := (clearZone_reach n z s).record m
  refine ⟨fun hl => by rw [hrecord]; exact hl, fun hl => by rw [hrecord]; exact hl, fun hl hblock y => ?_⟩
  rw [hrecord] at hblock
  change heatBlock (s.station m) = true at hblock
  change ((clearZone n z s).zone m y).state.coldUnderBlock = true
  by_cases hown : m = n ∧ y = z
  · obtain ⟨rfl, rfl⟩ := hown
    unfold clearZone
    simp only [if_pos hblock]
    rw [State.updZone_zone, if_pos ⟨rfl, rfl⟩]
    exact Zone.inhibit_cold _ _
  · rw [clearZone_zone_ne s hown]
    exact hl hblock y

theorem runZoneFaultClear_people (params : List Byte) (s : State) : PeopleKept s (runZoneFaultClear params s).state := by
  unfold runZoneFaultClear
  repeat' split
  · exact .refl s
  · exact .refl s
  · exact clearZone_people _ _ s
  · exact .refl s

/-! ### The two resets (R193, R194) -/

/-- After the values of either reset no report is seen, no badge holds a record, and every zone is INHIBITED or DISABLED. -/
theorem resetStation_laws (installed : Bool) (enabled : ZoneNum → Bool) (a : Station) :
    LockLaws a (resetStation installed (Tab.ofFn fun z => resetZone (enabled z))) where
  holders _ := ⟨Nat.zero_le 6, List.nodup_nil, fun _ h => absurd h (List.not_mem_nil)⟩
  clearing _ := ⟨fun _ => rfl, fun h => absurd h (by simp [resetStation])⟩
  heat _ _ z := by
    change ((Tab.ofFn fun z => resetZone (enabled z)).get z).state.coldUnderBlock = true
    rw [Tab.get_ofFn]
    cases enabled z <;> rfl

theorem resetBlocks_people (installed : StationId → Bool) (s u : State) : PeopleKept s (resetBlocks installed u) := fun n => by
  rw [resetBlocks_station]
  exact resetStation_laws _ _ _

theorem finishReset_stand (storm : Bool) (s : State) : PeopleStand s (finishReset storm s) := by
  have hlevel : PeopleStand s (stormLevel storm s) := .of_stations rfl
  have hsample : PeopleStand s (sampleStorm storm s) := by
    unfold sampleStorm
    split
    · exact hlevel.trans (activate_stand _)
    · exact hlevel
  exact (hsample.trans (zoneRule_stand.autostart _)).trans (examine_stand _)

theorem reportStore_stand (s : State) : PeopleStand s (reportStore s) := by
  unfold reportStore
  split
  · exact recordFault_stand _ _ _ s
  · exact .refl s

theorem powerOn_people (strap : Byte) (storm fails : Bool) (s : State) : PeopleKept s (powerOn strap storm fails s) :=
  ((resetBlocks_people _ s _).trans (reportStore_stand _).kept).trans (finishReset_stand storm _).kept

theorem warm_people (strap : Byte) (s : State) : PeopleKept s (warm strap s) :=
  (resetBlocks_people _ s _).trans (finishReset_stand s.stormInput _).kept

end Sys2Proof.Machine
end

section
/-! SUPPORT. Every command keeps the laws of people: the lock laws and the heat block (O6, O7). -/

namespace Sys2Proof.Machine

/-! ### Table writes (R186) -/

theorem runTableWrite_people (params : List Byte) (s : State) : PeopleKept s (runTableWrite params s).state := by
  have hsettings : ∀ x : Settings, PeopleStand s { s with settings := x } := fun x => .of_stations rfl
  unfold runTableWrite writeTable
  split
  · split
    · exact .refl s
    · split
      · unfold writeShadow
        repeat' split
        · exact .refl s
        · exact .refl s
        · exact .of_stations rfl
      · unfold writeBudget
        simp only
        repeat' split
        · exact .refl s
        · exact .refl s
        · exact ((hsettings _).trans (budgetShed_stand _)).kept
      · unfold writeWind
        simp only
        repeat' split
        · exact .refl s
        · exact .refl s
        · exact .refl s
        · exact ((hsettings _).trans (zoneRule_stand.evalLevel _)).kept
      · unfold writeTiming
        simp only
        repeat' split
        · exact .refl s
        · exact .refl s
        · exact (hsettings _).kept
      · unfold writePoll
        simp only
        repeat' split
        · exact .refl s
        · exact .refl s
        · exact .refl s
        · exact ((hsettings _).trans (zoneRule_stand.settlePollWrite s _ _)).kept
      · unfold writeZones
        simp only
        repeat' split
        · exact .refl s
        · exact .refl s
        · exact .refl s
        · exact (hsettings _).kept.trans (.foldl (fun u p => settleZoneWrite_people s.settings.zones p u) _ _)
  · exact .refl s

/-! ### Other requests -/

theorem bare_people {run : State → Answer} {s : State} (params : List Byte) (h : PeopleKept s (run s).state) :
    PeopleKept s (bare params run s).state := by
  unfold bare
  split
  · exact h
  · exact .refl s

theorem runLockdownSet_people (s : State) : PeopleKept s (runLockdownSet s).state := by
  unfold runLockdownSet
  split
  · exact .refl s
  · exact .of_stations rfl

theorem runSettingsSave_people (s : State) : PeopleKept s (runSettingsSave s).state := by
  unfold runSettingsSave
  repeat' split
  · exact .refl s
  · exact .refl s
  · exact .of_stations rfl

theorem runScanStart_people (params : List Byte) (s : State) : PeopleKept s (runScanStart params s).state := by
  unfold runScanStart
  split
  · split
    · exact .refl s
    · split
      · exact .refl s
      · rw [done_state]
        exact (zoneRule_stand.beginPass _).kept.after rfl
  · exact .refl s

theorem runSlotSubstitute_people (params : List Byte) (s : State) : PeopleKept s (runSlotSubstitute params s).state := by
  have hrun : ∀ (i : SlotId) (v : Int) (life : Nat), PeopleKept s (runSubstitute i v life s).state := fun i v life => by
    unfold runSubstitute
    simp only
    generalize (if life = 0 then s.settings.timing.substituteLife else life) = span
    repeat' split
    · exact .refl s
    · exact .refl s
    · exact .refl s
    · exact (zoneRule_stand.substitute i v span s).kept
  unfold runSlotSubstitute
  repeat' split
  · exact .refl s
  · exact .refl s
  · exact hrun _ _ _

theorem runSlotRestore_people (params : List Byte) (s : State) : PeopleKept s (runSlotRestore params s).state := by
  unfold runSlotRestore
  repeat' split
  · exact .refl s
  · exact .refl s
  · exact .refl s
  · exact (zoneRule_stand.retire _ _ _ s).kept
  · exact (zoneRule_stand.retire _ _ _ s).kept
  · exact .refl s

theorem runFaultClear_people (params : List Byte) (s : State) : PeopleKept s (runFaultClear params s).state := by
  unfold runFaultClear clearEntry clearOverflow
  repeat' split
  all_goals exact .of_stations rfl

theorem runAlertAck_people (params : List Byte) (s : State) : PeopleKept s (runAlertAck params s).state := by
  unfold runAlertAck
  repeat' split
  all_goals exact .of_stations rfl

theorem runClipLogClear_people (params : List Byte) (s : State) : PeopleKept s (runClipLogClear params s).state := by
  have hlogs : ∀ p : StationId → Bool, PeopleKept s (clearLogs p s) := fun p =>
    PeopleStand.kept (.mapStations s _ fun n => by
      split
      · exact ⟨rfl, rfl, rfl, rfl, fun _ => id⟩
      · exact .refl _)
  unfold runClipLogClear
  repeat' split
  · exact hlogs _
  · exact hlogs _
  · exact .refl s
  · exact .refl s

theorem runMeltModeSet_people (params : List Byte) (s : State) : PeopleKept s (runMeltModeSet params s).state := by
  unfold runMeltModeSet
  repeat' split
  · exact .refl s
  · simp only
    rw [done_state]
    exact (zoneRule_stand.evalCondition _).kept.after rfl
  · exact .refl s

/-! ### Every command -/

theorem completeSave_people (s : State) : PeopleKept s (if s.store.state = .saving then examine (completeSave s) else s) := by
  split
  · exact PeopleKept.examine (.of_stations rfl)
  · exact .refl s

theorem dropUnhandled_people (link : RxLink) (f : Frame) (s : State) : PeopleKept s (dropUnhandled link f s) := by
  unfold dropUnhandled
  split
  · split
    · exact (recordFault_stand _ _ _ s).kept
    · exact .refl s
  · exact (goodFrame_people _ s).trans (recordFault_stand _ _ _ _).kept
  · exact (recordFault_stand _ _ _ s).kept

theorem exec_people (c : Instr) {s t : State} (h : exec c s = .next t) : PeopleKept s t := by
  cases c with
  | powerOnReset strap storm fails => obtain rfl := Host.Outcome.next.inj h; exact powerOn_people strap storm fails s
  | stormInputChange asserted =>
    obtain rfl := Host.Outcome.next.inj h
    have hlevel : PeopleKept s (stormLevel asserted s) := .of_stations rfl
    exact hlevel.closeEvent s
  | pointingBatch es => obtain rfl := Host.Outcome.next.inj h; exact (takeBatch_stand es s).kept.examine
  | cabinetDataFromUpstream f => obtain rfl := Host.Outcome.next.inj h; exact (routeCabinet_stand f s).kept.examine
  | telemetry n f => obtain rfl := Host.Outcome.next.inj h; exact (takeTelemetry_people n f s).closeEvent s
  | lock n b sc => obtain rfl := Host.Outcome.next.inj h; exact (takeLock_people (.goodFrame n s) b sc).closeEvent s
  | unlock n b sc => obtain rfl := Host.Outcome.next.inj h; exact (takeUnlock_people (.goodFrame n s) b sc).closeEvent s
  | lockReport n es => obtain rfl := Host.Outcome.next.inj h; exact (handleReport_people n es s).closeEvent s
  | cabinetDataFromStation n f =>
    obtain rfl := Host.Outcome.next.inj h
    exact ((goodFrame_people n s).trans (offerUp_stand _ _).kept).examine
  | reading address raw =>
    obtain rfl := Host.Outcome.next.inj h
    exact (zoneRule_stand.takeSensorFrame address _ s).kept.closeEvent s
  | stationFrameEnd n => obtain rfl := Host.Outcome.next.inj h; exact (stationFrameEnd_stand n s).kept
  | upstreamFrameEnd =>
    obtain rfl := Host.Outcome.next.inj h
    exact (departUp_stand _).kept.after rfl
  | livenessDeadlineExpiry n =>
    change execLivenessDeadlineExpiry n s = _ at h
    unfold execLivenessDeadlineExpiry at h
    split at h <;> obtain rfl := Host.Outcome.next.inj h
    · exact .refl s
    · exact .of_due ((loseLink_people n _ s).closeEvent s)
  | freshnessExpiry n =>
    obtain rfl := Host.Outcome.next.inj h
    have hstale : PeopleStand s (s.updStation n goStale) := .updStation s n _
    exact .of_due ((hstale.trans (offerStop_ports n _).peopleStand).trans (setClip_stand n _ _)).kept.examine
  | clearingExpiry n => obtain rfl := Host.Outcome.next.inj h; exact .of_due ((endClearing_people n s).closeEvent s)
  | warnExpiry n =>
    obtain rfl := Host.Outcome.next.inj h
    exact .of_due ((offer_ports n _ s).peopleStand.trans (enterMoving_stand n _)).kept.examine
  | stowRefreshExpiry =>
    obtain rfl := Host.Outcome.next.inj h
    exact .of_due ((runStowRefresh_stand _).kept.examine.after rfl)
  | stowTimeoutExpiry n =>
    obtain rfl := Host.Outcome.next.inj h
    exact .of_due ((PeopleStand.updStation s n _).trans (recordFault_stand _ _ _ _)).kept.examine
  | holdDownExpiry => obtain rfl := Host.Outcome.next.inj h; exact .of_due ((zoneRule_stand.stepDown s).kept.closeEvent s)
  | blindTimerExpiry => obtain rfl := Host.Outcome.next.inj h; exact .of_due ((zoneRule_stand.goBlind s).kept.closeEvent s)
  | transactionDeadlineExpiry =>
    change execTransactionDeadlineExpiry s = _ at h
    unfold execTransactionDeadlineExpiry at h
    split at h <;> obtain rfl := Host.Outcome.next.inj h
    · exact .refl s
    · exact .of_due ((zoneRule_stand.expireTransaction _ s).kept.closeEvent s)
  | passGapExpiry => obtain rfl := Host.Outcome.next.inj h; exact .of_due ((zoneRule_stand.beginPass s).kept.closeEvent s)
  | substituteLifeExpiry i =>
    change execSubstituteLifeExpiry i s = _ at h
    unfold execSubstituteLifeExpiry at h
    split at h <;> obtain rfl := Host.Outcome.next.inj h
    · exact .refl s
    · exact .of_due ((zoneRule_stand.loseSlot i 2 s).kept.closeEvent s)
  | precipHoldExpiry =>
    obtain rfl := Host.Outcome.next.inj h
    exact .of_due (((zoneRule_stand.evalCondition _).kept.closeEvent s).after rfl)
  | minOnExpiry n z =>
    obtain rfl := Host.Outcome.next.inj h
    exact .of_due (((PeopleStand.updZone s n z _ id).trans (evalWant_stand n z _)).kept.closeEvent s)
  | minOffExpiry n z =>
    obtain rfl := Host.Outcome.next.inj h
    exact .of_due (((PeopleStand.updZone s n z _ id).trans (evalWant_stand n z _)).kept.closeEvent s)
  | mismatchDeadlineExpiry n z =>
    obtain rfl := Host.Outcome.next.inj h; exact .of_due ((failContactor_stand n z s).kept.closeEvent s)
  | saveCompletion => obtain rfl := Host.Outcome.next.inj h; exact completeSave_people s
  | statusRead tag params =>
    obtain rfl := Host.Outcome.next.inj h; exact manage_people tag _ (fun u => bare_people params (.refl u)) s
  | stationRead tag params =>
    obtain rfl := Host.Outcome.next.inj h; exact manage_people tag _ (fun u => .of_eq (runStationRead_state params u)) s
  | identify tag params =>
    obtain rfl := Host.Outcome.next.inj h; exact manage_people tag _ (fun u => bare_people params (.refl u)) s
  | tableRead tag params =>
    obtain rfl := Host.Outcome.next.inj h; exact manage_people tag _ (fun u => .of_eq (runTableRead_state params u)) s
  | tableWrite tag params => obtain rfl := Host.Outcome.next.inj h; exact manage_people tag _ (runTableWrite_people params) s
  | envelopeApply tag params =>
    obtain rfl := Host.Outcome.next.inj h; exact manage_people tag _ (runEnvelopeApply_people params) s
  | envelopeClearAll tag params =>
    obtain rfl := Host.Outcome.next.inj h
    exact manage_people tag _ (fun u => bare_people params (runEnvelopeClearAll_people u)) s
  | lockdownSet tag params =>
    obtain rfl := Host.Outcome.next.inj h
    exact manage_people tag _ (fun u => bare_people params (runLockdownSet_people u)) s
  | settingsSave tag params =>
    obtain rfl := Host.Outcome.next.inj h
    exact manage_people tag _ (fun u => bare_people params (runSettingsSave_people u)) s
  | stowRequest tag params =>
    obtain rfl := Host.Outcome.next.inj h
    exact manage_people tag _ (fun u => bare_people params (.of_stations rfl)) s
  | stowRelease tag params =>
    obtain rfl := Host.Outcome.next.inj h
    exact manage_people tag _ (fun u => bare_people params (.of_stations rfl)) s
  | remoteLock tag params =>
    obtain rfl := Host.Outcome.next.inj h
    exact manage_people tag _ (fun u => withClaim_people params fun n sc hsc => runRemoteLock_people n hsc u) s
  | remoteUnlock tag params =>
    obtain rfl := Host.Outcome.next.inj h
    exact manage_people tag _ (fun u => withClaim_people params fun n sc _ => runRemoteUnlock_people n sc u) s
  | stationResume tag params =>
    obtain rfl := Host.Outcome.next.inj h; exact manage_people tag _ (runStationResume_people params) s
  | scanStart tag params => obtain rfl := Host.Outcome.next.inj h; exact manage_people tag _ (runScanStart_people params) s
  | scanStop tag params =>
    obtain rfl := Host.Outcome.next.inj h
    exact manage_people tag _ (fun u => bare_people params (.of_stations rfl)) s
  | slotSubstitute tag params =>
    obtain rfl := Host.Outcome.next.inj h; exact manage_people tag _ (runSlotSubstitute_people params) s
  | slotRestore tag params => obtain rfl := Host.Outcome.next.inj h; exact manage_people tag _ (runSlotRestore_people params) s
  | faultRead tag params =>
    obtain rfl := Host.Outcome.next.inj h
    exact manage_people tag _ (fun u => bare_people params (.of_stations rfl)) s
  | faultClear tag params => obtain rfl := Host.Outcome.next.inj h; exact manage_people tag _ (runFaultClear_people params) s
  | alertAck tag params => obtain rfl := Host.Outcome.next.inj h; exact manage_people tag _ (runAlertAck_people params) s
  | clipLogClear tag params =>
    obtain rfl := Host.Outcome.next.inj h; exact manage_people tag _ (runClipLogClear_people params) s
  | zoneFaultClear tag params =>
    obtain rfl := Host.Outcome.next.inj h; exact manage_people tag _ (runZoneFaultClear_people params) s
  | meltModeSet tag params => obtain rfl := Host.Outcome.next.inj h; exact manage_people tag _ (runMeltModeSet_people params) s
  | warmReset tag params strap =>
    obtain rfl := Host.Outcome.next.inj h
    split
    · exact manage_people tag _ (fun u => .refl u) s
    · exact warm_people strap s
  | receivedFrameFailingChecks link bytes byteError =>
    obtain rfl := Host.Outcome.next.inj h; exact (recordFault_stand _ _ _ s).kept.examine
  | goodFrameOfUnhandledKind link f => obtain rfl := Host.Outcome.next.inj h; exact (dropUnhandled_people link f s).examine
  | unknownRequestCode tag code params =>
    obtain rfl := Host.Outcome.next.inj h; exact manage_people tag code (fun u => .refl u) s
  | millisecondCountAdvance => obtain rfl := Host.Outcome.next.inj h; exact .of_stations rfl

theorem step_people {s t : State} (h : step s = .next t) : PeopleKept s t := by
  unfold step at h
  split at h
  · obtain rfl := Host.Outcome.next.inj h
    exact .refl s
  · next c rest _ =>
    have hqueue : PeopleKept s { s with pending := rest } := .of_stations rfl
    exact hqueue.trans (exec_people c h)

/-- Settles O6: every change of a list keeps its law, a link that drops leaves no report seen, and the settling of a station
cancels a clearing that a DRIVE claim reaches and starts one only where the station is eligible. -/
theorem lockoutLawsKept : Obligations.LockoutLawsKept := fun _ _ h =>
  ⟨(step_people h).holderLaw, (step_people h).clearingLaw⟩

/-- Settles O7: a heat block that begins inhibits every zone of its station, and while it holds no want, shedding, admission,
write or clearing takes a zone back. -/
theorem heatBlockLawKept : Obligations.HeatBlockLawKept := fun _ _ hs h => (step_people h).heatSafe hs

end Sys2Proof.Machine
end

section
/-! SUPPORT. CLEARING_EXPIRY (O41): what an event whose departures are held back leaves of a port, the settling of a station whose
clearing has ended, and the stow it returns to (R33, R99, R139 to R141, R147; log entry 39). -/

namespace Sys2Proof.Machine

/-! ### Departures held back (R33, R99) -/

/-- A record with its transmitter in a given state. -/
def Station.withTx (tx : Option StationFrame) (st : Station) : Station := { st with tx := tx }

theorem Station.withTx_same (tx : Option StationFrame) (st : Station) : SameBody st (st.withTx tx) := by
  constructor <;> first | rfl | exact fun _ => rfl

/-- The head of a queue leaves an idle transmitter (R33). -/
theorem Station.departs_head {node : Byte} {e : StationEntry} {rest : List StationEntry} {st : Station}
    (hup : st.link.isUp = true) (htx : st.tx = none) (hq : st.queue = e :: rest) :
    st.departs node = { st with queue := rest }.sends node e := by
  simp [departs, hup, htx, hq]

/-- An event that finds the transmitter idle runs as though a frame were being sent, and then the head of the queue leaves. -/
theorem withheld_idle {n : StationId} {f : State → State} {s : State} (h : (s.station n).tx = none) :
    withheld n f s
      = depart n ((f (s.updStation n (Station.withTx (some (.horn false))))).updStation n (Station.withTx none)) := by
  unfold withheld
  rw [h]
  rfl

/-- A record left by an event that offers the entries `es` with its departures held back: they wait in turn while a frame is
being sent, and on an idle port the head of what they leave together departs. -/
structure HeldPort (n : StationId) (es : List StationEntry) (s : State) (b c : Station) : Prop where
  body : SameBody b c
  sending : (s.station n).tx.isSome = true → Offers s.nodeAddress es (s.station n) c
  idle : s.idling n → ∀ e rest frame, es.foldl admitted [] = e :: rest → e.frame s.nodeAddress = some frame →
    c.tx = some frame ∧ c.queue = rest

section
variable {n : StationId} {es : List StationEntry} {locks : Bool} {f : State → State} {s : State} {b c : Station}

theorem withheld_port
    (hf : ∀ tx, tx.isSome = true →
      Stage n es locks (s.updStation n (Station.withTx tx)) (f (s.updStation n (Station.withTx tx))) b) :
    HeldPort n es s b ((withheld n f s).station n) := by
  cases htx : (s.station n).tx with
  | some frame =>
    have hsome : (s.station n).tx.isSome = true := by rw [htx]; rfl
    have hstage := hf _ hsome
    rw [State.updStation_self s n (Station.withTx (s.station n).tx) rfl] at hstage
    rw [withheld_sending n f s hsome]
    exact ⟨hstage.body, fun _ => hstage.offers, fun hidle => absurd (hidle.2.1.symm.trans htx) (by simp)⟩
  | none =>
    obtain ⟨honly, hbody, hoffers, -⟩ := hf (some (.horn false)) rfl
    rw [withheld_idle htx, depart_station_self, updStation_own, State.updStation_nodeAddress,
      show (f _).nodeAddress = s.nodeAddress from honly.nodeAddress]
    generalize f (s.updStation n (Station.withTx (some (.horn false)))) = v at *
    rw [updStation_own] at hoffers
    refine ⟨(hbody.trans (Station.withTx_same _ _)).trans (Station.departs_same _ _), fun h => ?_, ?_⟩
    · rw [htx] at h
      exact absurd h (by simp)
    · rintro ⟨hup, -, hnil⟩ e rest frame hes hframe
      have hqueue : (v.station n).queue = e :: rest := by
        rw [(hoffers.sending hup rfl).2, ← hes]
        exact congrArg (es.foldl admitted) hnil
      rw [Station.departs_head (st := (v.station n).withTx none) (hoffers.up.trans hup) rfl hqueue]
      exact ⟨Station.sends_tx _ hframe, Station.sends_queue _ _ _⟩

theorem withheld_news
    (hf : ∀ tx, tx.isSome = true → News locks (s.updStation n (Station.withTx tx)) (f (s.updStation n (Station.withTx tx)))) :
    News locks s (withheld n f s) := by
  cases htx : (s.station n).tx with
  | some frame =>
    have hsome : (s.station n).tx.isSome = true := by rw [htx]; rfl
    have hnews := hf _ hsome
    rw [State.updStation_self s n (Station.withTx (s.station n).tx) rfl] at hnews
    rwa [withheld_sending n f s hsome]
  | none =>
    rw [withheld_idle htx]
    have hrun := (News.updStation s n _).trans (hf (some (.horn false)) rfl)
    have hend := (hrun.trans (News.updStation _ n (Station.withTx none))).trans
      (News.of_same (depart_attention n _) (depart_faults n _))
    simpa using hend

/-- A superseding entry that no later one supersedes waits. -/
theorem HeldPort.offered {pre post : List StationEntry} {e : StationEntry} {t : State}
    (h : HeldPort n (pre ++ e :: post) s b (t.station n)) (hsup : e.kind.superseding = true)
    (hk : ∀ x ∈ post, x.kind ≠ e.kind) : s.offered t n e :=
  fun hlaw hsending => (h.sending hsending.2).waits hsending.1 hsending.2 (hlaw n).1 hsup hk

end

/-! ### The settling of a station whose clearing has ended (R18, R99, R139) -/

/-- A record whose clearing has ended. -/
def Station.cleared (st : Station) : Station := { st with clearing := none }

/-- The end of a clearing, the departures apart. -/
def clearingEnd (n : StationId) (s u : State) : State :=
  settleStation n s none (raise .lockChange (offer n (.horn false) (u.updStation n Station.cleared)))

theorem endClearing_eq (n : StationId) (s : State) : endClearing n s = withheld n (clearingEnd n s) s := rfl

/-- A station returns to its stow with the end of its clearing. -/
def State.reenters (s : State) (n : StationId) : Bool :=
  s.stowActive && (s.station n).cleared.free
    && ((s.station n).progress == .pending || (s.station n).progress == .warning)

/-- The entries that the end of a clearing offers: HORN off, then those of the stow warning that it enters. -/
def State.clearedEntries (s : State) (n : StationId) : List StationEntry :=
  .horn false :: if s.reenters n then warnEntries s.settings.timing (s.stopSetpoint n) else []

/-- The record that the end of a clearing leaves, the port apart. -/
def State.clearedRecord (s : State) (n : StationId) : Station :=
  if s.reenters n then (s.station n).cleared.warned s.now s.settings.timing else (s.station n).cleared

theorem SameBody.warned {a b : Station} (h : SameBody a b) (now : Time) (timing : Timing) :
    SameBody (a.warned now timing) (b.warned now timing) := by
  unfold Station.warned
  split
  · exact { h with progress := rfl, warnTimer := rfl, stowStart := rfl, stowTimeout := rfl }
  · exact { h with progress := rfl, warnTimer := rfl }

theorem SameBody.free {a b : Station} (h : SameBody a b) : b.free = a.free := by
  rw [Station.free_eq, Station.free_eq, h.eligible, h.clearing, h.faultLatch]

/-- While a frame is being sent, an offer sets no last_sent. -/
theorem Station.takes_lastSent {node : Byte} {e : StationEntry} {st : Station} (htx : st.tx.isSome = true) :
    (st.takes node e).lastSent = st.lastSent := by
  cases hup : st.link.isUp with
  | true => rw [Station.takes_sending hup htx]
  | false => rw [Station.takes_down hup]

section
variable {n : StationId} {s u y : State}

/-- Where a clearing was present and is not any more, only the return to the stow remains of a settling. -/
theorem settleStation_cleared (hclear : (s.station n).clearing.isSome = true)
    (hbody : SameBody (s.station n).cleared (y.station n)) : settleStation n s none y = resumeStow n true y := by
  have hblocked : (s.station n).free = false := by
    rw [Station.free_eq, Option.isNone_eq_false_iff.mpr hclear, Bool.and_false, Bool.false_and]
  have hturned : s.turnedAt y n = false := by
    rw [State.turnedAt, s.authority_permitting, Station.mayMove_of_clearing hclear, Bool.false_and]
  have hstart : startClearing n (eligible (s.station n)) y = y :=
    if_neg (by rw [hbody.eligible, show eligible (s.station n).cleared = eligible (s.station n) from rfl]; simp)
  have hheat : heatBlock (s.station n) = heatBlock ((resumeStow n true y).station n) := by
    have hy : heatBlock (y.station n) = heatBlock (s.station n) := hbody.heatBlock
    unfold resumeStow
    split
    · rw [(enterWarning_stage n y).body.heatBlock, Station.warned_heatBlock, hy]
    · exact hy.symm
  rw [settleStation_eq, hturned, s.authority_blocked, hblocked]
  change settleHeatBlock n _ (resumeStow n true (startClearing n _ (cancelClearing n y))) = _
  rw [cancelClearing_of_none hbody.clearing, hstart, hheat, settleHeatBlock_self]

theorem resumeStow_cleared (honly : OnlyStations s y) (hbody : SameBody (s.station n).cleared (y.station n)) :
    resumeStow n true y = if s.reenters n then enterWarning n y else y := by
  have hprogress : (y.station n).progress = (s.station n).progress := hbody.progress
  unfold resumeStow
  rw [y.authority_blocked, hbody.free, honly.stowActive, hprogress, Bool.not_not, Bool.true_and]
  rfl

/-- What the end of a clearing leaves while a frame is being sent, or counts as being sent. -/
theorem clearingEnd_stage (hclear : (s.station n).clearing.isSome = true) {tx : Option StationFrame} (htx : tx.isSome = true) :
    Stage n (s.clearedEntries n) true (s.updStation n (Station.withTx tx))
      (clearingEnd n s (s.updStation n (Station.withTx tx))) (s.clearedRecord n) := by
  have honly := s.updStation_only n (Station.withTx tx)
  have hown : (s.updStation n (Station.withTx tx)).station n = (s.station n).withTx tx := updStation_own n _ s
  unfold clearingEnd
  generalize s.updStation n (Station.withTx tx) = u at *
  have hhorn := (Stage.offer_after n u Station.cleared (.horn false)).raise_lock
  have hsent : ((raise .lockChange (offer n (.horn false) (u.updStation n Station.cleared))).station n).lastSent
      = (s.station n).lastSent := by
    rw [raise_station, offer_station_self, updStation_own, hown]
    exact Station.takes_lastSent htx
  generalize raise .lockChange (offer n (.horn false) (u.updStation n Station.cleared)) = y at *
  have hbody : SameBody (s.station n).cleared (y.station n) := by
    have hcleared : SameBody (s.station n).cleared (u.station n).cleared := by
      rw [hown]
      exact Station.withTx_same tx (s.station n).cleared
    exact hcleared.trans hhorn.body
  have honlyY := honly.trans hhorn.only
  rw [settleStation_cleared hclear hbody, resumeStow_cleared honlyY hbody]
  unfold State.clearedEntries State.clearedRecord
  cases s.reenters n with
  | false => exact ⟨hhorn.only, hbody, hhorn.offers, hhorn.news⟩
  | true =>
    have hwarn := enterWarning_stage n y
    rw [stopSetpoint_congr (honlyY.envelope n) hbody.lastTelemetry hsent, honlyY.settings, honlyY.now] at hwarn
    refine ⟨hhorn.only.trans hwarn.only, (hbody.warned _ _).trans hwarn.body, ?_, ?_⟩
    · have hoffers := hwarn.offers
      rw [hhorn.only.nodeAddress] at hoffers
      exact hhorn.offers.trans hoffers
    · have hnews := hhorn.news.trans hwarn.news
      rwa [Bool.or_false] at hnews

theorem endClearing_port (hclear : (s.station n).clearing.isSome = true) :
    HeldPort n (s.clearedEntries n) s (s.clearedRecord n) ((endClearing n s).station n) := by
  rw [endClearing_eq]
  exact withheld_port fun _ htx => clearingEnd_stage hclear htx

theorem endClearing_tells (hclear : (s.station n).clearing.isSome = true) : Tells true s (endClearing n s) := by
  rw [endClearing_eq]
  exact (withheld_news fun _ htx => (clearingEnd_stage hclear htx).news).toTells

theorem endClearing_others (m : StationId) (hm : m ≠ n) : (endClearing n s).station m = s.station m :=
  withheld_station_ne (fun u => by
    rw [settleStation_station_ne n m _ _ _ hm, raise_station, offer_station_ne n m _ _ hm, State.updStation_station,
      if_neg hm]) s hm

end

/-! ### Which station is freed (R18) -/

section
variable {n : StationId} {s : State}

theorem authority_eq_clearing (hclear : (s.station n).clearing.isSome = true) :
    s.authority n = .clearing ↔ eligible (s.station n) = true := by
  refine ⟨fun h => ?_, fun h => authorityOf_clearing h hclear⟩
  obtain ⟨hinst, hup, hseen⟩ := authorityOf_eq_clearing h
  refine eligible_iff.mpr ⟨hinst, hup, hseen, Classical.byContradiction fun hdrive => ?_⟩
  exact absurd (h.symm.trans (authorityOf_locked hinst hup hseen hdrive)) (by simp)

/-- The end of a clearing frees the station: its authority was CLEARING, and no fault is latched. -/
def State.frees (s : State) (n : StationId) : Prop := s.authority n = .clearing ∧ (s.station n).faultLatch = .none

theorem frees_iff (hclear : (s.station n).clearing.isSome = true) : s.frees n ↔ (s.station n).cleared.free = true := by
  rw [State.frees, authority_eq_clearing hclear, Station.free_eq]
  change _ ↔ (eligible (s.station n) && true && (s.station n).faultLatch == .none) = true
  simp

theorem reenters_iff (hclear : (s.station n).clearing.isSome = true) :
    s.reenters n = true
      ↔ s.frees n ∧ s.stowActive = true ∧ ((s.station n).progress = .pending ∨ (s.station n).progress = .warning) := by
  rw [frees_iff hclear, State.reenters]
  simp [and_assoc, and_left_comm]

theorem clearedEntries_stays (h : s.reenters n ≠ true) : s.clearedEntries n = [.horn false] := by
  rw [State.clearedEntries, if_neg h]

theorem clearedEntries_warning (h : s.reenters n = true) (hwarn : s.settings.timing.stowWarn ≠ 0) :
    s.clearedEntries n = [.horn false, .setpoint (s.stopSetpoint n), .horn true] := by
  rw [State.clearedEntries, if_pos h, warnEntries, if_neg hwarn]

theorem clearedEntries_moving (h : s.reenters n = true) (hwarn : s.settings.timing.stowWarn = 0) :
    s.clearedEntries n = [.horn false, .setpoint (s.stopSetpoint n)] := by
  rw [State.clearedEntries, if_pos h, warnEntries, if_pos hwarn]

theorem clearedRecord_stays (h : s.reenters n ≠ true) : s.clearedRecord n = (s.station n).cleared := if_neg h

theorem clearedRecord_warning (h : s.reenters n = true) (hwarn : s.settings.timing.stowWarn ≠ 0) :
    s.clearedRecord n
      = { (s.station n).cleared with progress := .warning, warnTimer := some ⟨s.now, s.settings.timing.stowWarn⟩ } := by
  rw [State.clearedRecord, if_pos h, Station.warned, if_neg hwarn]

theorem clearedRecord_moving (h : s.reenters n = true) (hwarn : s.settings.timing.stowWarn = 0) :
    s.clearedRecord n = (s.station n).cleared.entersMoving s.now s.settings.timing.stowTimeout := by
  rw [State.clearedRecord, if_pos h, Station.warned, if_pos hwarn]

theorem clearedRecord_zones : (s.clearedRecord n).zones = (s.station n).zones := by
  unfold State.clearedRecord
  split
  · exact Station.warned_zones _ _ _
  · rfl

theorem clearedRecord_clearing : (s.clearedRecord n).clearing = none := by
  unfold State.clearedRecord Station.warned
  repeat' split
  all_goals rfl

theorem clearedRecord_installed : (s.clearedRecord n).installed = (s.station n).installed := by
  unfold State.clearedRecord Station.warned
  repeat' split
  all_goals rfl

theorem clearedRecord_free : (s.clearedRecord n).free = (s.station n).cleared.free := by
  unfold State.clearedRecord
  split
  · exact Station.warned_free _ _ _
  · rfl

end

/-! ### CLEARING_EXPIRY (R99) -/

/-- What CLEARING_EXPIRY leaves of its station at the end of the event. -/
structure ClearingEnded (n : StationId) (s t : State) : Prop extends
    HeldPort n (s.clearedEntries n) s (s.clearedRecord n) (t.station n) where
  authority : t.authority n = authorityOf s.stowActive (s.clearedRecord n)
  outside : s.sameOutside n t
  raises : s.raises t .lockChange

section
variable {n : StationId} {s t : State}

/-- No zone changes, so that the event ends without a HEAT marker. -/
theorem closeEvent_endClearing (hclear : (s.station n).clearing.isSome = true) :
    ClearingEnded n s (closeEvent s (endClearing n s)) := by
  have honly := endClearing_only n s
  have hport := endClearing_port hclear
  have hends := closeEvent_ends (s := s) honly.wind endClearing_others
  have hmark : markAt n s (endClearing n s) = endClearing n s := by
    refine if_pos (onMask_congr fun z => ?_).symm
    rw [State.zone, hport.body.zone_state, clearedRecord_zones]
    rfl
  refine ⟨?_, ?_, ?_, hends.raises_lock (endClearing_tells hclear)⟩
  · rw [hends.station, hmark]
    exact hport
  · rw [hends.authority, State.authority, honly.stowActive, hport.body.authorityOf]
  · rw [closeEvent_eq honly.wind endClearing_others, hmark]
    exact .of_only honly endClearing_others

theorem ClearingEnded.stays (h : ClearingEnded n s t) (hr : s.reenters n ≠ true) :
    HeldPort n [.horn false] s (s.station n).cleared (t.station n) :=
  clearedEntries_stays hr ▸ clearedRecord_stays hr ▸ h.toHeldPort

theorem ClearingEnded.hornOff_stays (h : ClearingEnded n s t) (hr : s.reenters n ≠ true) :
    s.offered t n (.horn false)
      ∧ (s.idling n → (t.station n).tx = some (.horn false) ∧ (t.station n).queue = []) :=
  have hport := h.stays hr
  ⟨hport.offered (pre := []) rfl (by simp), fun hidle => hport.idle hidle _ _ _ rfl rfl⟩

/-- HORN on takes the place of HORN off before either leaves (R35; log entry 39). -/
theorem ClearingEnded.hornOn_leaves (h : ClearingEnded n s t) (hr : s.reenters n = true)
    (hwarn : s.settings.timing.stowWarn ≠ 0) (hidle : s.idling n) :
    (t.station n).tx = some (.horn true) ∧ (t.station n).queue = [.setpoint (s.stopSetpoint n)] :=
  h.idle hidle (.horn true) _ _ (by rw [clearedEntries_warning hr hwarn]; rfl) rfl

theorem ClearingEnded.hornOff_moving (h : ClearingEnded n s t) (hr : s.reenters n = true)
    (hwarn : s.settings.timing.stowWarn = 0) :
    s.offered t n (.horn false)
      ∧ (s.idling n → (t.station n).tx = some (.horn false) ∧ (t.station n).queue = [.setpoint (s.stopSetpoint n)]) := by
  have hport := clearedEntries_moving hr hwarn ▸ h.toHeldPort
  exact ⟨hport.offered (pre := []) rfl (by simp [StationEntry.kind]), fun hidle => hport.idle hidle _ _ _ rfl rfl⟩

/-- Under active stow a station that is freed has the authority of its progress. -/
theorem ClearingEnded.stow_authority (h : ClearingEnded n s t) (hclear : (s.station n).clearing.isSome = true)
    (hfrees : s.frees n) (hstow : s.stowActive = true) :
    t.authority n = match (s.clearedRecord n).progress with
      | .none | .pending => .stowPending
      | .warning => .stowWarning
      | .moving => .stowMoving
      | .stowed => .stowStowed := by
  rw [h.authority, hstow]
  exact authorityOf_free (clearedRecord_free.trans ((frees_iff hclear).mp hfrees))

theorem ClearingEnded.stowTakesUp (h : ClearingEnded n s t) (hclear : (s.station n).clearing.isSome = true) :
    s.stowTakesUp t n { s.station n with clearing := none } (s.frees n) := by
  have hreenters := reenters_iff hclear
  have hkept : ∀ {p : StowProgress}, (s.station n).progress = p → p ≠ .pending → p ≠ .warning →
      (s.clearedRecord n).progress = p := by
    rintro p rfl hpending hwarning
    rw [clearedRecord_stays fun hr => (hreenters.mp hr).2.2.elim hpending hwarning]
    rfl
  refine ⟨fun ⟨⟨hfrees, hstow⟩, hprogress⟩ hwarn => ?_, fun ⟨⟨hfrees, hstow⟩, hprogress⟩ hwarn => ?_, fun hb => ?_,
    fun ⟨hfrees, hstow⟩ hmoving => ?_, fun ⟨hfrees, hstow⟩ hstowed => ?_⟩
  · have hr := hreenters.mpr ⟨hfrees, hstow, hprogress⟩
    have hrecord := clearedRecord_warning hr hwarn
    have hport := clearedEntries_warning hr hwarn ▸ h.toHeldPort
    refine ⟨(hrecord ▸ hport.body).sameButPort, ?_, hport.offered (pre := [_]) rfl (by simp [StationEntry.kind]),
      hport.offered (pre := [_, _]) rfl (by simp)⟩
    rw [h.stow_authority hclear hfrees hstow, hrecord]
  · have hr := hreenters.mpr ⟨hfrees, hstow, hprogress⟩
    have hrecord := clearedRecord_moving hr hwarn
    have hport := clearedEntries_moving hr hwarn ▸ h.toHeldPort
    refine ⟨(hrecord ▸ hport.body).sameButPort, ?_, hport.offered (pre := [_]) rfl (by simp)⟩
    rw [h.stow_authority hclear hfrees hstow, hrecord]
    rfl
  · refine (h.stays fun hr => hb ?_).body.sameButPort
    obtain ⟨hfrees, hstow, hprogress⟩ := hreenters.mp hr
    exact ⟨⟨hfrees, hstow⟩, hprogress⟩
  · rw [h.stow_authority hclear hfrees hstow, hkept hmoving (by simp) (by simp)]
  · rw [h.stow_authority hclear hfrees hstow, hkept hstowed (by simp) (by simp)]

/-- A latched fault comes to light behind a clearing that ends. -/
theorem ClearingEnded.stopped (h : ClearingEnded n s t) (hclear : (s.station n).clearing.isSome = true)
    (hauth : s.authority n = .clearing) (hlatch : (s.station n).faultLatch ≠ .none) : t.authority n = .stopped := by
  rw [h.authority, clearedRecord_stays fun hr => hlatch ((reenters_iff hclear).mp hr).1.2]
  exact authorityOf_stopped (st := (s.station n).cleared) ((authority_eq_clearing hclear).mp hauth) rfl hlatch

/-- Without stow, staleness or a tracking demand a freed station is IDLE. -/
theorem ClearingEnded.idles (h : ClearingEnded n s t) (hclear : (s.station n).clearing.isSome = true) (hfrees : s.frees n)
    (hstow : s.stowActive = false) (hfresh : (s.station n).stale = false) (hdemand : (s.station n).demand.cls ≠ .track) :
    t.authority n = .idle := by
  have hstays : s.reenters n ≠ true := by simp [State.reenters, hstow]
  obtain ⟨hinst, hup, hseen, hdrive⟩ := eligible_iff.mp ((authority_eq_clearing hclear).mp hfrees.1)
  have hdrive' : driveCount (s.station n).cleared = 0 := hdrive
  rw [h.authority, hstow, clearedRecord_stays hstays, authorityOf, hdrive']
  simp [Station.cleared, hinst, hup, hseen, hfrees.2, hfresh, hdemand]

end

/-- Settles O41: with the departures held back, the end of a clearing offers HORN off and, where the station returns to its
stow, the entries of its warning behind it; what they leave together of an idle port is what departs. -/
theorem clearingExpiry : Obligations.ClearingExpiry := by
  intro n s hdue
  have hclear := timerDue_isSome hdue
  have h := closeEvent_endClearing hclear
  refine ⟨closeEvent s (endClearing n s), congrArg Host.Outcome.next (if_pos hdue), h.outside,
    h.body.clearing.trans clearedRecord_clearing, h.raises, h.stowTakesUp hclear,
    fun hb => h.hornOff_stays fun hr => hb ((reenters_iff hclear).mp hr),
    fun hb => h.hornOn_leaves ((reenters_iff hclear).mpr hb), fun hb => h.hornOff_moving ((reenters_iff hclear).mpr hb),
    fun hinst => ?_, h.stopped hclear, h.idles hclear⟩
  rw [h.authority, authorityOf_absent (clearedRecord_installed.trans hinst)]

end Sys2Proof.Machine
end
